-- ==== Sys2Proof/Word.lean ====
section
/-! DEFINITION. The words of the KT12: bytes, serials, 16-byte keys, check values, generations, and the numbers of its
bays, line addresses, slots, entries and ports. -/

namespace Sys2Proof

/-- A byte of the station link or of a line frame (R33, R165). -/
abbrev Byte := BitVec 8

/-- A terminal's 8-byte serial; byte 0 is the most significant (R1, R5). Match masks and values are of the same form. -/
abbrev Serial := BitVec 64

/-- A 16-byte key, wrapped key or block (R107); byte 0 is the most significant. -/
abbrev Key := BitVec 128

/-- A check value, the first 3 bytes of an encipherment (R110). -/
abbrev CheckValue := BitVec 24

/-- A generation, 0 to 65535 (R121). -/
abbrev Generation := BitVec 16

/-- A 32-bit counter, clock value or token ID. -/
abbrev Word32 := BitVec 32

/-- An 8-character label, stored and returned unchanged (R83, R119, R188). -/
abbrev Label := BitVec 64

/-- A bay; `b` stands for bay number `b + 1`, 1 to 12 (R2). -/
abbrev BayId := Fin 12

/-- A line address; `a` stands for address `a + 1`, 1 to 4 (R5). -/
abbrev Addr := Fin 4

/-- A key slot; `k` stands for slot `k + 1`, 1 to 32 (R119). -/
abbrev SlotId := Fin 32

/-- A profile entry; `e` stands for entry `e + 1`, 1 to 24 (R82). -/
abbrev EntryId := Fin 24

/-- The two token ports (R137). -/
inductive PortId where
  | a
  | b
deriving DecidableEq, Repr

/-- A line end with its owner: a bay line or a token line (R39, 00_scope.md). -/
inductive LineId where
  | bay (b : BayId)
  | port (p : PortId)
deriving DecidableEq, Repr

/-- The two enclosure inputs (R177). -/
inductive EnclosureInput where
  | lid
  | mesh
deriving DecidableEq, Repr

end Sys2Proof
end

