-- ==== Sys2Proof/Stores.lean ====
section
/-! DEFINITION. The contents of the four retained stores: the key slots (R119), the profile entries (R82, R83), the records of
the report queue (R151) and its two counters (R152), with the values they are built of. -/

namespace Sys2Proof.Machine

/-! ### Values -/

/-- The two line rates (R52). -/
inductive Rate where
  | standard
  | fast
deriving DecidableEq, Repr

/-- The failure reasons (R5). -/
inductive FailReason where
  | checkMismatch
  | noAnswer
  | refused
  | commitRefused
  | lapsed
  | keyUnavailable
  | windowClosed
deriving DecidableEq, Repr

/-- A decided outcome; the failure reason is present only with FAILED (R5). -/
inductive Verdict where
  | loaded
  | failed (reason : FailReason)
  | unknown
deriving DecidableEq, Repr

/-- The stop causes of a batch (R25 to R31). -/
inductive StopCause where
  | complete
  | aborted
  | reset
  | restart
  | tamper
  | lineFault
  | powerFault
deriving DecidableEq, Repr

/-- A confirmed key-set position: the check value and the generation sent in its KEY frame (R18, R157). -/
structure Confirmed where
  check : CheckValue
  gen : Generation
deriving DecidableEq, Repr

/-! ### Profile entries -/

/-- The parity settings (R83, R109). -/
inductive Parity where
  | none
  | odd
deriving DecidableEq, Repr

/-- The action of a descriptor; only DERIVE has a base slot (R84). -/
inductive Action where
  | derive (slot : SlotId)
  | keep
deriving DecidableEq, Repr

/-- A descriptor of a key set (R84). -/
structure Descriptor where
  tag : Byte
  action : Action
deriving DecidableEq, Repr

/-- The fields of a profile (R83). -/
structure Profile where
  priority : Byte
  mask : Serial
  value : Serial
  transportSlot : SlotId
  parity : Parity
  ahead : Bool
  label : Label
  keySet : List Descriptor
deriving DecidableEq, Repr

/-- A profile entry: EMPTY, or DISABLED or ENABLED with its profile (R82). -/
inductive Entry where
  | empty
  | stored (enabled : Bool) (profile : Profile)
deriving DecidableEq, Repr

/-! ### Key slots -/

/-- The kinds of key (R119). -/
inductive KeyKind where
  | base
  | transportBase
  | transfer
deriving DecidableEq, Repr

/-- The origins of a key (R119). -/
inductive Origin where
  | assembled
  | imported
deriving DecidableEq, Repr

/-- The description of a key (R119). -/
structure KeyInfo where
  kind : KeyKind
  gen : Generation
  check : CheckValue
  origin : Origin
  uses : Word32
  label : Label
deriving DecidableEq, Repr

/-- What a slot holds: only an ACTIVE slot holds a key value (R119, R120). -/
inductive SlotContent where
  | empty
  | active (info : KeyInfo) (key : Key)
  | retired (info : KeyInfo)
deriving DecidableEq, Repr

/-- A key slot; the last generation is kept in every state (R119, R121). -/
structure Slot where
  lastGen : Generation
  content : SlotContent
deriving DecidableEq, Repr

/-! ### Records -/

/-- A list state of a BATCH_END entry (R26). -/
inductive ListState where
  | loaded
  | failed
  | abandoned
  | indeterminate
deriving DecidableEq, Repr

/-- An entry of a BATCH_END list (R26). -/
structure ListEntry where
  addr : Addr
  serial : Serial
  state : ListState
deriving DecidableEq, Repr

/-- An entry of the positions list of a TERMINAL record (R157). -/
structure PositionEntry where
  tag : Byte
  action : Action
  confirmed : Option Confirmed
deriving DecidableEq, Repr

/-- The actions of a KEY_CHANGE record (R124). -/
inductive KeyAction where
  | assembled
  | imported
  | retired
  | erased
deriving DecidableEq, Repr

/-- A TERMINAL record after its header (R157). -/
structure TerminalRecord where
  bay : BayId
  batch : Word32
  addr : Addr
  serial : Serial
  entry : Option EntryId
  outcome : Verdict
  rate : Rate
  attemptsTotal : Nat
  positions : List PositionEntry
deriving DecidableEq, Repr

/-- A BATCH_END record after its header (R158). -/
structure BatchEndRecord where
  bay : BayId
  batch : Word32
  cause : StopCause
  requested : Rate
  inUse : Rate
  expected : Nat
  enrolled : Nat
  loaded : Nat
  failed : Nat
  unknown : Nat
  list : List ListEntry
deriving DecidableEq, Repr

/-- A KEY_CHANGE record after its header (R159). -/
structure KeyChangeRecord where
  slot : SlotId
  action : KeyAction
  kind : KeyKind
  gen : Generation
  check : Option CheckValue
  custodians : Option (Word32 × Word32)
deriving DecidableEq, Repr

/-- A record after its header, by kind (R151). -/
inductive RecordBody where
  | terminal (r : TerminalRecord)
  | batchEnd (r : BatchEndRecord)
  | windowOpen (idA idB : Word32) (minutes : Nat) (expiry : Word32)
  | keyChange (r : KeyChangeRecord)
deriving DecidableEq, Repr

/-- A record of the report queue with its header (R151). -/
structure Record where
  number : Word32
  time : Word32
  body : RecordBody
deriving DecidableEq, Repr

/-- The two counters retained with the report queue (R152, R156). -/
structure Counters where
  record : Word32
  batch : Word32
deriving DecidableEq, Repr

end Sys2Proof.Machine
end

