-- ==== Sys2Proof/Syntax.lean ====
section
/-! DEFINITION. The commands and events of the KT12, one constructor for each row of spec/opcode_table.json. -/

namespace Sys2Proof

/-- A retained store as its memory reads at start-up: its contents and the CRC-16 held with them (R183). -/
structure Found (α : Type) where
  contents : α
  check : BitVec 16
deriving DecidableEq, Repr

/-- What start-up samples and finds (R182, R183): the enclosure inputs and the presence contacts as they stand; each retained
store, the two copies of the tamper latch and the part clock where the battery-backed memory no longer reads as it was left;
and the bytes that arrive on the station link before the checks have been made (R176). See log 9. -/
structure PowerOnFinds where
  /-- The lid switch is open. -/
  lid : Bool
  /-- The mesh has lost continuity. -/
  mesh : Bool
  /-- A token is seated in port A. -/
  contactA : Bool
  /-- A token is seated in port B. -/
  contactB : Bool
  /-- The key store, where its memory changed. -/
  keyStore : Option (Found (Vector Machine.Slot 32))
  /-- The profile table, where its memory changed. -/
  profiles : Option (Found (Vector Machine.Entry 24))
  /-- The report queue, where its memory changed. -/
  queue : Option (Found (List Machine.Record))
  /-- The counters, where their memory changed. -/
  counters : Option (Found Machine.Counters)
  /-- The latch copy and its complement as found, where the memory lost them. -/
  latchFound : Option (Bool × Bool)
  /-- The part clock as found, where the memory lost it (R160). -/
  clockFound : Option Word32
  /-- Bytes received before the start-up is complete (R176). -/
  early : List Byte
deriving DecidableEq, Repr

/-- The 67 commands and events. A station request carries its tag and the bytes of its body after the request code
(R185), so that a body of the wrong length is a form like any other; it stands for the arrival of that request as one
well-formed frame (log 2). `shown` is what a line shows from the start of the data end: the lengths in ticks of its
periods, passive first and in turn, the line staying passive after the last of them (log 5). -/
inductive Instr where
  /-- BATCH_START (R4): bay, rate, expected count. -/
  | batchStart (tag : Byte) (args : List Byte)
  /-- BATCH_ABORT (R27): bay. -/
  | batchAbort (tag : Byte) (args : List Byte)
  /-- BAY_STATUS (R32): bay. -/
  | bayStatus (tag : Byte) (args : List Byte)
  /-- BAY_RESET (R28): bay. -/
  | bayReset (tag : Byte) (args : List Byte)
  /-- BAY_POWER with setting ON (R73). -/
  | bayPowerOn (tag bay : Byte)
  /-- BAY_POWER with setting OFF (R74). -/
  | bayPowerOff (tag bay : Byte)
  /-- LINE_TEST (R70): bay. -/
  | lineTest (tag : Byte) (args : List Byte)
  /-- PROFILE_WRITE (R90). -/
  | profileWrite (tag : Byte) (args : List Byte)
  /-- PROFILE_READ (R92): entry. -/
  | profileRead (tag : Byte) (args : List Byte)
  /-- PROFILE_ENABLE (R93): entry. -/
  | profileEnable (tag : Byte) (args : List Byte)
  /-- PROFILE_DISABLE (R94): entry. -/
  | profileDisable (tag : Byte) (args : List Byte)
  /-- PROFILE_CLEAR (R95): entry. -/
  | profileClear (tag : Byte) (args : List Byte)
  /-- KEY_INFO (R134): slot. -/
  | keyInfo (tag : Byte) (args : List Byte)
  /-- KEY_ASSEMBLE (R125). -/
  | keyAssemble (tag : Byte) (args : List Byte)
  /-- KEY_IMPORT (R129). -/
  | keyImport (tag : Byte) (args : List Byte)
  /-- KEY_RETIRE (R132): slot. -/
  | keyRetire (tag : Byte) (args : List Byte)
  /-- KEY_ERASE (R133): slot. -/
  | keyErase (tag : Byte) (args : List Byte)
  /-- TOKEN_STATUS (R145). -/
  | tokenStatus (tag : Byte) (args : List Byte)
  /-- WINDOW_OPEN (R148): minutes. -/
  | windowOpen (tag : Byte) (args : List Byte)
  /-- WINDOW_CLOSE (R150). -/
  | windowClose (tag : Byte) (args : List Byte)
  /-- RECORDS_FETCH (R155): count. -/
  | recordsFetch (tag : Byte) (args : List Byte)
  /-- TIME_SET (R160): seconds. -/
  | timeSet (tag : Byte) (args : List Byte)
  /-- STATUS (R164). -/
  | status (tag : Byte) (args : List Byte)
  /-- TAMPER_CLEAR (R181). -/
  | tamperClear (tag : Byte) (args : List Byte)
  /-- RESTART (R175). -/
  | restart (tag : Byte) (args : List Byte)
  /-- FRAME_LENGTH_FAULT (R167): the second length byte. -/
  | frameLengthFault (byte : Byte)
  /-- FRAME_RECEIVED (R168): the run of bytes whose last one completes the frame. -/
  | frameReceived (bytes : List Byte)
  /-- RECEIVE_GAP_TIMEOUT (R168). -/
  | receiveGapTimeout
  /-- OUTGOING_FRAME_SENT (R172). -/
  | outgoingFrameSent
  /-- LINE_FREE (R55). -/
  | lineFree (line : LineId)
  /-- DATA_END_PASSED (R39). -/
  | dataEndPassed (line : LineId)
  /-- ANSWER_LIMIT (R38). -/
  | answerLimit (line : LineId)
  /-- ROLL_CALL_ENDED (R8). -/
  | rollCallEnded (bay : BayId) (shown : List Nat)
  /-- ENROL_ENDED (R9). -/
  | enrolEnded (bay : BayId) (shown : List Nat)
  /-- RATE_ENDED (R13). -/
  | rateEnded (bay : BayId)
  /-- KEY_ENDED (R18). -/
  | keyEnded (bay : BayId) (shown : List Nat)
  /-- COMMIT_ENDED (R19). -/
  | commitEnded (bay : BayId) (shown : List Nat)
  /-- POLL_ENDED (R22). -/
  | pollEnded (bay : BayId) (shown : List Nat)
  /-- DISMISS_ENDED (R20). -/
  | dismissEnded (bay : BayId)
  /-- POLL_DUE (R22). -/
  | pollDue (bay : BayId) (addr : Addr)
  /-- ROLL_CALL_DUE (R8). -/
  | rollCallDue (bay : BayId)
  /-- RESEND_DELAY_EXPIRED (R18). -/
  | resendDelayExpired (bay : BayId)
  /-- LINE_STUCK_PASSIVE (R65). -/
  | lineStuckPassive (line : LineId)
  /-- ECHO_MISMATCH (R66). -/
  | echoMismatch (line : LineId)
  /-- LINE_HELD_ACTIVE (R67). -/
  | lineHeldActive (line : LineId)
  /-- LINE_RESET_ENDED (R56). -/
  | lineResetEnded (bay : BayId)
  /-- LINE_TEST_FRAME_ENDED (R70): what the closed loop shows, namely the ticks from the first drive to the first active
  level, and then the lengths of the echoed periods, active first and in turn. -/
  | lineTestFrameEnded (bay : BayId) (delay : Nat) (echo : List Nat)
  /-- LINE_LEVEL_CHANGE (R57, R75): a bay or token line has changed to this level. -/
  | lineLevelChange (line : LineId) (active : Bool)
  /-- QUIET_COUNT_REACHED (R75). -/
  | quietCountReached (bay : BayId)
  /-- POWER_TIMEOUT (R76). -/
  | powerTimeout (bay : BayId)
  /-- OVER_CURRENT (R78). -/
  | overCurrent (bay : BayId)
  /-- TRANSPORT_COMPLETE (R108). -/
  | transportComplete
  /-- PREPARE_COMPLETE (R111). -/
  | prepareComplete
  /-- CHECK_COMPLETE (R112). -/
  | checkComplete
  /-- IMPORT_COMPLETE (R113). -/
  | importComplete
  /-- PRESENCE_CONTACT_CLOSES (R138). -/
  | presenceContactCloses (port : PortId)
  /-- PRESENCE_CONTACT_OPENS (R142). -/
  | presenceContactOpens (port : PortId)
  /-- SETTLING_TIME_EXPIRES (R138). -/
  | settlingTimeExpires (port : PortId)
  /-- READ_TOKEN_ENDED (R139). -/
  | readTokenEnded (port : PortId) (shown : List Nat)
  /-- READ_TOKEN_RESEND_DUE (R139). -/
  | readTokenResendDue (port : PortId)
  /-- CLOCK_ADVANCE (R160). -/
  | clockAdvance
  /-- WINDOW_EXPIRY (R149). -/
  | windowExpiry
  /-- ENCLOSURE_INPUT_ACTIVE (R178). -/
  | enclosureInputActive (input : EnclosureInput)
  /-- ENCLOSURE_INPUT_INACTIVE (R178). -/
  | enclosureInputInactive (input : EnclosureInput)
  /-- POWER_ON (R182). -/
  | powerOn (finds : PowerOnFinds)
  /-- POWER_LOSS (R31). -/
  | powerLoss
  /-- STATION_BYTE_RECEIVED (R167). -/
  | stationByteReceived (byte : Byte)
deriving DecidableEq, Repr

end Sys2Proof
end

