-- ==== Sys2Proof/Config.lean ====
section
/-! DEFINITION. What the manual leaves open (the block transform, the bytes the CRC-16 of a retained store covers) and the
fixed figures the rules name. -/

namespace Sys2Proof.Config

/-- The KT12's block transform, one permutation of the 16-byte blocks for each key (6.4): "For each key the transform is
a permutation of the 16-byte blocks, and the decipherment under a key inverts the encipherment under the same key. ...
The internal structure of the transform is outside the scope of this manual." A FREE VALUE: it has no body (log 23). -/
opaque transform : Key → Equiv.Perm Key

/-- The encipherment of a block under a key (R107). -/
def encipher (k x : Key) : Key := transform k x

/-- The decipherment of a block under a key (R113). -/
def decipher (k y : Key) : Key := (transform k).symm y

/-! ### The bytes of the retained stores

R98, R136, R156 and R183 put each store under a CRC-16 over its contents, and no rule lays the contents out in memory: the
bytes a CRC covers are a FREE VALUE for each store (log 8). -/

/-- The bytes of the key slots as the CRC-16 of the key store covers them (R136). -/
opaque keyStoreBytes : Vector Machine.Slot 32 → List Byte

/-- The bytes of the entries as the CRC-16 of the profile table covers them (R98). -/
opaque profileBytes : Vector Machine.Entry 24 → List Byte

/-- The bytes of the report queue as its CRC-16 covers them (R156). -/
opaque queueBytes : List Machine.Record → List Byte

/-- The bytes of the record and batch counters as their CRC-16 covers them (R156). -/
opaque counterBytes : Machine.Counters → List Byte

/-! ### Figures -/

/-- Ticks of the 1 us line timebase in a number of milliseconds (R52). -/
def ms (n : Nat) : Nat := n * 1000

/-- Places of the report queue (R151). -/
def reportPlaces : Nat := 64

/-- Places of the cipher request queue, the running request included (R100). -/
def cipherPlaces : Nat := 16

/-- The share of one bay in the cipher request queue (R100). -/
def bayShare : Nat := 2

/-- Places of the station's request queue (R170). -/
def requestPlaces : Nat := 4

/-- Places of the reject list (R169). -/
def rejectPlaces : Nat := 4

/-- The answer limit, 50 ms, in ticks (R38). -/
def answerLimit : Nat := ms 50

/-- The active ticks of a line reset, 30 STANDARD units (R53, R56). -/
def resetActive : Nat := 1200

/-- The passive guard of a line reset, 12 STANDARD units (R56). -/
def resetGuard : Nat := 480

/-- Length of the loopback test frame to its frame end, 70U at STANDARD (R71). -/
def testFrameTicks : Nat := 2800

/-- An upper bound on the rounds of internal work inside one step: 12 bays, and two rounds for each of at most 48
outcomes decided in it (log 29). -/
def settleBound : Nat := 160

end Sys2Proof.Config
end

