-- ==== Sys2Proof/Machine/Bytes.lean ====
section
/-! DEFINITION. Byte order (R1), the CRC-8 of line frames (R35) and the CRC-16 of station-link frames (R166). -/

namespace Sys2Proof.Machine

/-- The number a field of bytes stands for, most significant byte first (R1). -/
def beNat (bytes : List Byte) : Nat := bytes.foldl (fun n b => n * 256 + b.toNat) 0

/-- A number as `k` bytes, most significant byte first (R1). -/
def beBytes : (k : Nat) → (n : Nat) → List Byte
  | 0, _ => []
  | k + 1, n => BitVec.ofNat 8 (n / 256 ^ k) :: beBytes k n

/-- A quantity of `w` bits from its bytes (R1). -/
def beWord (w : Nat) (bytes : List Byte) : BitVec w := BitVec.ofNat w (beNat bytes)

/-- A quantity as `k` bytes (R1). -/
def wordBytes {w : Nat} (k : Nat) (x : BitVec w) : List Byte := beBytes k x.toNat

/-- The bits of a byte, most significant first (R33). -/
def byteBits (b : Byte) : List Bool :=
  [b.getLsbD 7, b.getLsbD 6, b.getLsbD 5, b.getLsbD 4, b.getLsbD 3, b.getLsbD 2, b.getLsbD 1, b.getLsbD 0]

/-- Bits gathered most significant first into bytes; bits short of a whole byte are left off (R60). -/
def bitsBytes : List Bool → List Byte
  | b7 :: b6 :: b5 :: b4 :: b3 :: b2 :: b1 :: b0 :: rest =>
      BitVec.ofBoolListBE [b7, b6, b5, b4, b3, b2, b1, b0] :: bitsBytes rest
  | _ => []

/-- `k` shifts of the CRC-8 register toward its most significant end (R35, step 2). -/
def crc8Shifts : (k : Nat) → Byte → Byte
  | 0, r => r
  | k + 1, r => crc8Shifts k (if r.msb then (r <<< 1) ^^^ 0x07#8 else r <<< 1)

/-- One byte through the CRC-8 register (R35, step 2). -/
def crc8Step (r b : Byte) : Byte := crc8Shifts 8 (r ^^^ b)

/-- The integrity byte of the bytes covered: the CRC-8 of R35. -/
def crc8 (bytes : List Byte) : Byte := bytes.foldl crc8Step 0xFF#8

/-- `k` shifts of the CRC-16 register toward its most significant end (R166, step 2). -/
def crc16Shifts : (k : Nat) → BitVec 16 → BitVec 16
  | 0, r => r
  | k + 1, r => crc16Shifts k (if r.msb then (r <<< 1) ^^^ 0x1021#16 else r <<< 1)

/-- One byte through the CRC-16 register (R166, step 2). -/
def crc16Step (r : BitVec 16) (b : Byte) : BitVec 16 := crc16Shifts 8 (r ^^^ (b ++ 0#8))

/-- The CRC of the bytes covered: the CRC-16 of R166. -/
def crc16 (bytes : List Byte) : BitVec 16 := bytes.foldl crc16Step 0xFFFF#16

end Sys2Proof.Machine
end

