-- ==== Sys2Proof/Machine/State.lean ====
section
/-! DEFINITION. The state of the KT12 as plain data, the reasons a step can stop, and the state after reset. -/

namespace Sys2Proof.Machine

/-- Why the machine could stop with a fault. There is no reason: every event of the KT12 has an effect the spec gives,
line faults, over-current and refused requests among them. No meaning raises a fault (safe). -/
inductive Fault where
deriving DecidableEq, Repr

/-- Why a command could have no meaning. -/
inductive Refusal where
  /-- Raised by an arm of exec whose command has no meaning yet; no arm raises it now (safe). -/
  | notModelled (mnemonic : String)
deriving DecidableEq, Repr

/-! ### Lines -/

/-- The kinds of line frame (R34). -/
inductive FrameKind where
  | rollCall
  | enrol
  | rate
  | key
  | commit
  | poll
  | dismiss
  | readToken
deriving DecidableEq, Repr

/-- The three line faults a line end declares (R65 to R67). -/
inductive LineFault where
  | heldActive
  | stuckPassive
  | echoMismatch
deriving DecidableEq, Repr

/-- A frame on a bay or token line: its kind, the line address of its header (0 addresses every party) and its body
(R33, R34). -/
structure LineFrame where
  kind : FrameKind
  addr : Nat
  body : List Byte
deriving DecidableEq, Repr

/-- What a line end is doing: nothing, a frame from its frame start to its frame end (with the rate it is sent at, the
moment its frame start began, and whether its data end has passed, R39), a line reset (R56) or the loopback test frame
(R70), each with the moment it began. -/
inductive Tx where
  | idle
  | frame (f : LineFrame) (rate : Rate) (sentAt : Nat) (passed : Bool)
  | reset (since : Nat)
  | test (since : Nat)
deriving DecidableEq, Repr

/-- One line end (R52 to R70). -/
structure LineEnd where
  /-- The rate in force (R52). -/
  rate : Rate
  /-- What is in flight. -/
  tx : Tx
  /-- The minimum gap has run (R55). -/
  free : Bool
  /-- When the gap count began: the frame end, the answer limit or the fault report (R55). -/
  gapAt : Nat
  /-- The rate at which the ended frame was sent, in whose unit the gap is counted (R55). -/
  gapRate : Rate
  /-- The level the line shows: active or passive (R52). -/
  active : Bool
  /-- The moments at which the periods measured on the line began, newest first, the levels taking turns: the first is the
  start of the period now running (R57). On a free line glitches are merged as they end, and two moments are kept; a
  transmission with its answer and gap keeps every moment since the one before it. -/
  changes : List Nat
  /-- The moment from which the held-active watch counts: its arming, or the last fault report (R67, R68). -/
  armedAt : Nat
  /-- The gap being counted follows a fault report (R68, R143). -/
  afterFault : Bool
  /-- The loopback switch is closed (R70); bay line ends only. -/
  loopback : Bool
deriving DecidableEq, Repr

/-! ### Bays -/

/-- The seven bay states (R2). -/
inductive BayState where
  | off
  | powering
  | ready
  | rolling
  | loading
  | stopping
  | fault
deriving DecidableEq, Repr

/-- The fault reasons of FAULT (R72). -/
inductive FaultReason where
  | overCurrent
  | powerTimeout
  | lineHeldActive
  | lineStuckPassive
  | echoMismatch
deriving DecidableEq, Repr

/-- The phases of a context (R6). -/
inductive Phase where
  | enrolled
  | transport
  | loading
  | committing
  | reportWait
  | done
deriving DecidableEq, Repr

/-- A context (R5). -/
structure Context where
  addr : Addr
  serial : Serial
  fastCapable : Bool
  entry : Option EntryId
  phase : Phase
  outcome : Option Verdict
  /-- The key-set position being worked, from 1. -/
  posIndex : Nat
  attempts : Nat
  deferrals : Nat
  attemptsTotal : Nat
  /-- One entry per key-set position. -/
  confirmed : List (Option Confirmed)
  commitSent : Bool
  recordAppended : Bool
  pollMisses : Nat
  lastAddressed : Nat
  /-- A keep-alive POLL is due (R22). -/
  pollDue : Bool
  /-- The context came to DONE in STOPPING, by a DISMISS in flight at BATCH_ABORT (R27): its profile entry stays in use until the
  table is cleared (R88; log 39). -/
  heldInStop : Bool
deriving DecidableEq, Repr

/-- A PREPARE result (R111). -/
structure Prepared where
  wrapped : Key
  check : CheckValue
  tag : Byte
  gen : Generation
deriving DecidableEq, Repr

/-- A result buffer: free, reserved for an outstanding PREPARE of a context and position, or holding its result (R23). -/
inductive Buffer where
  | free
  | reserved (addr : Addr) (pos : Nat)
  | holds (addr : Addr) (pos : Nat) (result : Prepared)
deriving DecidableEq, Repr

/-- The roll phase's next frame (R8, R9): none, a ROLL_CALL, or an ENROL with the serial, the capability announced, the
address offered and the failed attempts so far. `wait` is the moment before which it is not due; none means due. -/
inductive RollNext where
  | none
  | rollCall (wait : Option Nat)
  | enrol (serial : Serial) (fastCapable : Bool) (addr : Addr) (failures : Nat) (wait : Option Nat)
deriving DecidableEq, Repr

/-- The batch record (R3). -/
structure BatchRecord where
  number : Word32
  requested : Rate
  inUse : Rate
  expected : Nat
  enrolled : Nat
  loaded : Nat
  failed : Nat
  unknown : Nat
  stopCause : Option StopCause
  emptyRolls : Nat
  garbles : Nat
  /-- The terminal in hand. -/
  hand : Option Addr
deriving DecidableEq, Repr

/-- The result codes of a REPLY (R174). -/
inductive ResultCode where
  | ok
  | frameCheck
  | frameLength
  | unknownKind
  | busy
  | badArgument
  | tampered
  | windowClosed
  | bayState
  | inUse
  | slotState
  | generationStale
  | checkMismatch
  | tokenAbsent
  | tokenInvalid
  | queueFull
  | keyUnavailable
deriving DecidableEq, Repr

/-- A bay controller with its line end (R2, R3, R5, R72). -/
structure Bay where
  state : BayState
  /-- The fault reason: of FAULT, or recorded during STOPPING (R29). -/
  faultReason : Option FaultReason
  /-- The power state: supply on (R72). -/
  supply : Bool
  batch : BatchRecord
  /-- The context table, in address order (R5). -/
  contexts : List Context
  /-- The two result buffers (R23). -/
  buffers : List Buffer
  line : LineEnd
  roll : RollNext
  /-- The roll phase has ended while a ROLL_CALL or ENROL is in flight (R12). -/
  rollOver : Bool
  /-- The RATE frame is the batch's next frame (R13). -/
  rateOwed : Bool
  /-- The end of the wait of a deferred KEY or COMMIT (R18, R19). -/
  resendAt : Option Nat
  /-- The BAY_RESET at the head of the request queue waits for this bay; the result it will be given (R28, R179). -/
  resetReply : Option ResultCode
  /-- The line reset in flight is the tamper response's on a bay without a batch; OFF follows (R81). -/
  tamperOff : Bool
  /-- The end of the 5,000 ms limit (R76). -/
  limitAt : Option Nat
deriving DecidableEq, Repr

/-! ### Key store -/

/-- What an assembly or import keeps of its request (R126, R130). -/
structure KeyRequest where
  slot : SlotId
  kind : KeyKind
  gen : Generation
  expected : CheckValue
  label : Label
deriving DecidableEq, Repr

/-- The assembly holder (R126, R130): an assembly in progress with its key and the two token IDs, or an import in progress
with its transfer slot. -/
inductive Progress where
  | assembly (req : KeyRequest) (key : Key) (idA idB : Word32)
  | importing (req : KeyRequest) (transferSlot : SlotId)
deriving DecidableEq, Repr

/-- The key store (R119, R126). -/
structure KeyStore where
  slots : Vector Slot 32
  progress : Option Progress
deriving DecidableEq, Repr

/-! ### Cipher unit -/

/-- A cipher request with the data handed in (R99). -/
inductive CipherJob where
  | transport (bay : BayId) (addr : Addr) (serial : Serial) (slot : SlotId)
  | prepare (bay : BayId) (addr : Addr) (pos : Nat) (serial : Serial) (tag : Byte) (slot : SlotId) (parity : Parity)
  | portCheck (port : PortId) (key : Key)
  | storeCheck (key : Key)
  | importKey (slot : SlotId) (wrapped : Key)
deriving DecidableEq, Repr

/-- A request waiting or queued: its job and its class (R102). -/
structure CipherRequest where
  job : CipherJob
  urgent : Bool
deriving DecidableEq, Repr

/-- The values the engine read at the start of the running request (R104, R105): nothing for a CHECK, the slot's key and
generation for a TRANSPORT or IMPORT, and the working transport key besides for a PREPARE. -/
inductive Material where
  | none
  | slot (key : Key) (gen : Generation)
  | slotAndTransport (key : Key) (gen : Generation) (working : Key)
deriving DecidableEq, Repr

/-- The running request (R99, R106). -/
structure Running where
  job : CipherJob
  urgent : Bool
  withdrawn : Bool
  material : Material
deriving DecidableEq, Repr

/-- The cipher unit (R99 to R118). -/
structure Cipher where
  running : Option Running
  /-- Queued requests in arrival order; the running one is not among them. -/
  queue : List CipherRequest
  /-- The waiting list (R101). -/
  waiting : List CipherRequest
  /-- The working transport key of each bay and line address (R114). -/
  holders : Vector (Vector (Option Key) 4) 12
deriving DecidableEq, Repr

/-! ### Token ports -/

/-- The custodian roles (R51). -/
inductive Role where
  | custodianA
  | custodianB
deriving DecidableEq, Repr

/-- What a token was read to hold (R137): with a component flag present, the component and its check. -/
structure Token where
  id : Word32
  role : Role
  component : Option (Key × CheckValue)
deriving DecidableEq, Repr

/-- The failure causes of UNREADABLE (R137). -/
inductive PortCause where
  | noAnswer
  | garbled
  | deferred
  | badContent
  | checkMismatch
  | lineFault
deriving DecidableEq, Repr

/-- Where a read stands (R139, R141): a READ_TOKEN is due, waits until a moment, is in flight, or the component CHECK is
outstanding with the answer in the read holder. -/
inductive ReadStep where
  | due
  | waiting (until_ : Nat)
  | inFlight
  | checking (holder : Token)
deriving DecidableEq, Repr

/-- The state of a token port with the fields it holds in that state (R137). -/
inductive PortState where
  | empty
  | settling (since : Nat)
  | reading (attempts deferrals : Nat) (step : ReadStep)
  | read (token : Token)
  | unreadable (cause : PortCause)
deriving DecidableEq, Repr

/-- A token port with its line end (R137). -/
structure Port where
  state : PortState
  /-- The presence contact is closed (R138). -/
  contact : Bool
  line : LineEnd
deriving DecidableEq, Repr

/-! ### Report queue -/

/-- A TERMINAL append on the waiting list, with the contents handed over (R154, R157). -/
structure WaitingAppend where
  bay : BayId
  addr : Addr
  record : TerminalRecord
deriving DecidableEq, Repr

/-- The report queue (R151 to R156). -/
structure Report where
  records : List Record
  recordCounter : Word32
  batchCounter : Word32
  waiting : List WaitingAppend
deriving DecidableEq, Repr

/-! ### Notices and the station link -/

/-- The six notice flags (R161). -/
structure Flags where
  records : Bool
  windowExpired : Bool
  tamper : Bool
  bayFault : Bool
  token : Bool
  started : Bool
deriving DecidableEq, Repr

/-- The notice machine: its flags, and whether it is ARMED or SENT (R161, R162). -/
structure Notice where
  flags : Flags
  armed : Bool
deriving DecidableEq, Repr

/-- The receive assembler (R167): hunting, or assembling with the bytes received after the start byte, oldest first. -/
inductive Assembler where
  | hunting
  | assembling (held : List Byte)
deriving DecidableEq, Repr

/-- A request of the request queue: its tag, its request code and the rest of its body (R168, R170). -/
structure Request where
  tag : Byte
  code : Byte
  args : List Byte
deriving DecidableEq, Repr

/-- What holds of the head of the request queue (R170): not given to its owner (or no head), with its owner, reply
ready. -/
inductive HeadState where
  | notGiven
  | withOwner
  | replyReady
deriving DecidableEq, Repr

/-- A frame waiting for the outgoing direction, apart from the notice (R172). -/
inductive Waiting where
  | reject (tag : Byte) (code : ResultCode)
  | reply (tag : Byte) (body : List Byte)
deriving DecidableEq, Repr

/-- The frame being sent (R172, R173). -/
inductive Sending where
  | notice (body : List Byte)
  | reject (tag : Byte) (code : ResultCode)
  | reply (tag : Byte) (body : List Byte)
deriving DecidableEq, Repr

/-- The station link interface and request handler (R165 to R173). -/
structure Link where
  assembler : Assembler
  lastByteAt : Nat
  queue : List Request
  head : HeadState
  /-- REJECTs not yet begun and the head's reply, in the order they began waiting. -/
  waiting : List Waiting
  noticeWanted : Bool
  sending : Option Sending
deriving DecidableEq, Repr

/-! ### Enclosure monitor -/

/-- The CRC-16 held with each retained store (R98, R136, R156). -/
structure Checks where
  keyStore : BitVec 16
  profiles : BitVec 16
  queue : BitVec 16
  counters : BitVec 16
deriving DecidableEq, Repr

/-- One value for each retained store (R183). -/
structure StoreBits where
  keyStore : Bool
  profiles : Bool
  queue : Bool
  counters : Bool
deriving DecidableEq, Repr

/-- The enclosure monitor (R177, R184). -/
structure Enclosure where
  lid : Bool
  mesh : Bool
  /-- The tamper latch, first copy: true when set. -/
  latchCopy : Bool
  /-- The second copy, the complement of the first. -/
  latchComplement : Bool
  /-- The start-up check results: true where the check failed. -/
  failed : StoreBits
deriving DecidableEq, Repr

/-! ### The unit -/

/-- The state of the KT12. -/
structure State where
  /-- The commands waiting to be taken, first in, first out. -/
  pending : List Instr
  powered : Bool
  started : Bool
  /-- The line timebase, in ticks of 1 us (R52). -/
  time : Nat
  clock : Word32
  /-- The timebase at the last advance of the part clock (R160). -/
  lastAdvance : Nat
  enclosure : Enclosure
  /-- The CRC-16 held with each retained store (R98, R136, R156). -/
  checks : Checks
  notice : Notice
  link : Link
  report : Report
  /-- The injection window: none when CLOSED, the remaining seconds when OPEN (R147). -/
  window : Option Nat
  profiles : Vector Entry 24
  keys : KeyStore
  cipher : Cipher
  portA : Port
  portB : Port
  bays : Vector Bay 12
deriving DecidableEq, Repr

/-! ### Power-on values -/

/-- A line end at power-on: STANDARD, idle, free, the line passive, the switch open (R39, R52, R71). -/
def idleLine : LineEnd :=
  { rate := .standard, tx := .idle, free := true, gapAt := 0, gapRate := .standard, active := false, changes := [0]
    armedAt := 0, afterFault := false, loopback := false }

/-- The no-batch condition of the batch record (R3). -/
def noBatch : BatchRecord :=
  { number := 0, requested := .standard, inUse := .standard, expected := 0, enrolled := 0, loaded := 0, failed := 0,
    unknown := 0, stopCause := none, emptyRolls := 0, garbles := 0, hand := none }

/-- A bay at power-on (R2, R3, R72). -/
def coldBay : Bay :=
  { state := .off, faultReason := none, supply := false, batch := noBatch, contexts := [], buffers := [.free, .free],
    line := idleLine, roll := .none, rollOver := false, rateOwed := false, resendAt := none, resetReply := none,
    tamperOff := false, limitAt := none }

/-- The cipher unit at power-on (R118). -/
def coldCipher : Cipher :=
  { running := none, queue := [], waiting := [], holders := Vector.replicate 12 (Vector.replicate 4 none) }

/-- A token port with its contact open at power-on (R144). -/
def emptyPort : Port := { state := .empty, contact := false, line := idleLine }

/-- The station link at power-on (R176). -/
def coldLink : Link :=
  { assembler := .hunting, lastByteAt := 0, queue := [], head := .notGiven, waiting := [], noticeWanted := false,
    sending := none }

/-- No flag raised. -/
def noFlags : Flags :=
  { records := false, windowExpired := false, tamper := false, bayFault := false, token := false, started := false }

/-- An EMPTY slot with last generation 0, as at manufacture (R119). -/
def emptySlot : Slot := { lastGen := 0, content := .empty }

/-- Four times false. -/
def noneFailed : StoreBits := { keyStore := false, profiles := false, queue := false, counters := false }

/-! ### The CRC-16 of the retained stores -/

/-- The CRC-16 over the key slots (R136). -/
def keyStoreCheck (slots : Vector Slot 32) : BitVec 16 := crc16 (Config.keyStoreBytes slots)

/-- The CRC-16 over the profile entries (R98). -/
def profileCheck (entries : Vector Entry 24) : BitVec 16 := crc16 (Config.profileBytes entries)

/-- The CRC-16 over the report queue (R156). -/
def queueCheck (records : List Record) : BitVec 16 := crc16 (Config.queueBytes records)

/-- The CRC-16 over the two counters (R156). -/
def counterCheck (counters : Counters) : BitVec 16 := crc16 (Config.counterBytes counters)

/-- The KT12 as manufactured and not yet powered: every store EMPTY, the counters and the part clock 0, the latch clear
(R82, R119, R152, R160, R177). -/
def State.manufactured : State :=
  { pending := [], powered := false, started := false, time := 0, clock := 0, lastAdvance := 0,
    enclosure := { lid := false, mesh := false, latchCopy := false, latchComplement := true, failed := noneFailed },
    checks :=
      { keyStore := keyStoreCheck (Vector.replicate 32 emptySlot), profiles := profileCheck (Vector.replicate 24 .empty)
        queue := queueCheck [], counters := counterCheck { record := 0, batch := 0 } }
    notice := { flags := noFlags, armed := true }, link := coldLink,
    report := { records := [], recordCounter := 0, batchCounter := 0, waiting := [] }, window := none,
    profiles := Vector.replicate 24 .empty, keys := { slots := Vector.replicate 32 emptySlot, progress := none },
    cipher := coldCipher, portA := emptyPort, portB := emptyPort, bays := Vector.replicate 12 coldBay }

/-- The KT12 just after its first power-on (R182): STARTED is raised, the notice machine is SENT, and the notice with
STARTED (0x20) and a count of 0 is on its way out (R163, R176). -/
def State.reset : State :=
  { State.manufactured with
    powered := true
    started := true
    notice := { flags := { noFlags with started := true }, armed := false }
    link := { coldLink with sending := some (.notice [0x20#8, 0#8]) } }

end Sys2Proof.Machine
end

