-- ==== Sys2Proof/Machine/Flags.lean ====
section
/-! DEFINITION. The notice flags (R161) and their byte (R185). -/

namespace Sys2Proof.Machine

/-- The name of a notice flag (R161). -/
inductive Flag where
  | records
  | windowExpired
  | tamper
  | bayFault
  | token
  | started
deriving DecidableEq, Repr

/-- Raising a flag; a flag already raised stays raised (R161). -/
def Flags.raise (f : Flag) (x : Flags) : Flags :=
  match f with
  | .records => { x with records := true }
  | .windowExpired => { x with windowExpired := true }
  | .tamper => { x with tamper := true }
  | .bayFault => { x with bayFault := true }
  | .token => { x with token := true }
  | .started => { x with started := true }

/-- The flags byte of STATUS and NOTICE: bit 0 RECORDS to bit 5 STARTED, bits 6 and 7 zero (R185). -/
def Flags.toByte (x : Flags) : Byte :=
  BitVec.ofBoolListBE [false, false, x.started, x.token, x.bayFault, x.tamper, x.windowExpired, x.records]

/-- The start-up results byte: bit 0 key store, bit 1 profile table, bit 2 report queue, bit 3 counters; 1 when the check
failed (R185). -/
def StoreBits.toByte (x : StoreBits) : Byte :=
  BitVec.ofBoolListBE [false, false, false, false, x.counters, x.queue, x.profiles, x.keyStore]

end Sys2Proof.Machine
end

