-- ==== Sys2Proof/Machine/Line.lean ====
section
/-! DEFINITION. What a line end sends and what it makes of what the line shows: symbols (R53, R54), frames (R33, R34),
period classes (R57 to R59), answer-mark calibration (R61 to R63), the answer's class (R37, R38, R60) and the echo monitor
(R64 to R66). A line's periods are lists of lengths in ticks, the levels taking turns. -/

namespace Sys2Proof.Machine

/-- The nominal unit U of a rate, in ticks (R52). -/
def Rate.unit : Rate → Nat
  | .standard => 40
  | .fast => 10

/-! ### Frames -/

/-- The kind number of a frame (R34). -/
def FrameKind.number : FrameKind → Nat
  | .rollCall => 1
  | .enrol => 2
  | .rate => 3
  | .key => 4
  | .commit => 5
  | .poll => 6
  | .dismiss => 7
  | .readToken => 8

/-- The answer bytes of a frame kind, the integrity byte not counted; none for a kind that draws no answer (R34). -/
def FrameKind.answerLength : FrameKind → Option Nat
  | .rollCall => some 9
  | .enrol => some 1
  | .rate => none
  | .key => some 5
  | .commit => some 1
  | .poll => some 1
  | .dismiss => none
  | .readToken => some 25

/-- Whether a frame kind draws an answer (R33, R34). -/
def FrameKind.drawsAnswer (k : FrameKind) : Bool := k.answerLength.isSome

/-- The header byte: kind in the upper four bits, line address in the lower four (R33). -/
def LineFrame.header (f : LineFrame) : Byte := BitVec.ofNat 8 (f.kind.number * 16 + f.addr)

/-- The bytes of a frame: header, body, integrity byte (R33, R35). -/
def LineFrame.bytes (f : LineFrame) : List Byte := (f.header :: f.body) ++ [crc8 (f.header :: f.body)]

/-! ### Symbols sent -/

/-- The length of a bit in units: on the active level a 1 is long and a 0 short, on the passive level the other way
round (R54). -/
def bitUnits (active bit : Bool) : Nat := if active == bit then 4 else 2

/-- The periods of bits, in ticks of unit `u`, the first of them on the level given (R54). -/
def bitPeriods (u : Nat) : Bool → List Bool → List Nat
  | _, [] => []
  | active, b :: rest => bitUnits active b * u :: bitPeriods u (!active) rest

/-- The bits of bytes, each byte most significant bit first (R33). -/
def bytesBits (bytes : List Byte) : List Bool := (bytes.map byteBits).flatten

/-- The periods of a frame from its frame start to the end of its data end, active first (R53, R54). -/
def LineFrame.periods (u : Nat) (f : LineFrame) : List Nat :=
  8 * u :: bitPeriods u false (bytesBits f.bytes) ++ [8 * u]

/-- The symbols of a frame in units, active first: frame start, bits, data end (R54). -/
def LineFrame.units (f : LineFrame) : List Nat := f.periods 1

/-- The ticks from the frame start to the end of the data end (R53, R54). -/
def LineFrame.ticks (u : Nat) (f : LineFrame) : Nat := (f.periods u).sum

/-- The symbols a transmitter forms on its line, active first and in turn, with the moment the first of them begins: a frame
(R53), or a line reset, active for 1,200 ticks and then the guard of 480 (R56). The test frame of LINE_TEST runs on the closed
loop (R70). -/
def Tx.symbols : Tx → Option (Nat × List Nat)
  | .idle => none
  | .frame f rate sentAt _ => some (sentAt, f.periods rate.unit)
  | .reset since => some (since, [Config.resetActive, Config.resetGuard])
  | .test _ => none

/-- Whether the symbol being formed so many ticks after the first one began is active, the first level given (R53). -/
def drivenAt : (active : Bool) → (elapsed : Nat) → List Nat → Bool
  | _, _, [] => false
  | active, e, d :: rest => if e < d then active else drivenAt (!active) (e - d) rest

/-- The level of the symbol that begins exactly so many ticks after the first one began (R53). -/
def symbolBegins : (active : Bool) → (elapsed : Nat) → List Nat → Option Bool
  | _, _, [] => none
  | active, e, d :: rest =>
    if e = 0 then some active else if e < d then none else symbolBegins (!active) (e - d) rest

/-- What the line shows from the start of the data end when a responder of unit `u` answers a frame sent at unit `nominal`
with these bytes: the data end, an answer mark of 4 units, and the bytes with their integrity byte (R33, R35, R41). -/
def answerPeriods (nominal u : Nat) (bytes : List Byte) : List Nat :=
  [8 * nominal, 4 * u] ++ bitPeriods u false (bytesBits (bytes ++ [crc8 bytes]))

/-! ### Periods measured -/

/-- The class of a period that ended, but for frame end and held active, which are declared while it runs (R58). -/
inductive PeriodClass where
  | symbolError
  | short
  | long
  /-- Data end on the passive level, frame start on the active level. -/
  | frameEdge
deriving DecidableEq, Repr

/-- The class of a period of `d` ticks against the unit `u` (R58). A period under floor(u/2) is a glitch and is merged
before this is asked (R57). -/
def classify (u d : Nat) : PeriodClass :=
  if d < 3 * u / 2 then .symbolError
  else if d < 3 * u then .short
  else if d < 5 * u then .long
  else if d < 6 * u then .symbolError
  else if d < 10 * u then .frameEdge
  else .symbolError

/-- The bit a period stands for, by its class and level; none if it is no bit (R54, R58). -/
def classBit (active : Bool) : PeriodClass → Option Bool
  | .short => some (!active)
  | .long => some active
  | _ => none

/-- A passive period running from `d` ticks, with the periods that follow it (the next one active): glitches under `g`
ticks are merged into it (R57). Its length is none when it runs on for good; the rest begins with the active period that
ended it. The period it starts from is taken as running however short it is: where it is the one right after an
answer mark and lasts at least floor(U/2) but less than floor(u/2) ticks, R57 names no period to merge it into, and it stands
as a period of its own (log 6). -/
def passiveRun (g : Nat) : Nat → List Nat → Option Nat × List Nat
  | _, [] => (none, [])
  | d, [a] => if a < g then (none, []) else (some d, [a])
  | d, a :: p :: rest => if a < g then passiveRun g (d + a + p) rest else (some d, a :: p :: rest)

/-- An active period running from `d` ticks, with the periods that follow it (the next one passive): glitches under `g`
ticks are merged into it (R57). The last passive period of a view runs on for good and is no glitch. -/
def activeRun (g : Nat) : Nat → List Nat → Nat × List Nat
  | d, [] => (d, [])
  | d, [p] => (d, [p])
  | d, p :: a :: rest => if p < g then activeRun g (d + p + a) rest else (d, p :: a :: rest)

/-- What the line shows from the start of the data end: a passive period under `g` ticks at the front of a view is a glitch,
merged with the active period after it into the active symbol before them, and the data end starts behind (R57). -/
def dataEndStart (g : Nat) : List Nat → List Nat
  | p :: a :: rest => if p < g then dataEndStart g rest else p :: a :: rest
  | view => view

/-- A change of level at `t`, added to the moments at which periods began, newest first: a period under `g` ticks that it
ends is a glitch, discarded with both its changes, so that the period before it runs on (R57). The oldest period has none
before it. -/
def noteChange (g t : Nat) : List Nat → List Nat
  | s1 :: s2 :: rest => if t - s1 < g then s2 :: rest else t :: s1 :: s2 :: rest
  | moments => t :: moments

/-- The moments at which periods began, newest first, glitches under `g` ticks merged as they ended (R57). -/
def settled (g : Nat) (moments : List Nat) : List Nat := moments.foldr (noteChange g) []

/-! ### Answer-mark calibration -/

/-- The decision of R62 on an answer mark. -/
inductive MarkClass where
  | answer (u : Nat)
  | deferral (u : Nat)
  | garbled
deriving DecidableEq, Repr

/-- The calibration range of a rate: [U - floor(U/8), U + floor(U/8)] (R62). -/
def inRange (rate : Rate) (u : Nat) : Bool :=
  decide (rate.unit - rate.unit / 8 ≤ u ∧ u ≤ rate.unit + rate.unit / 8)

/-- u4 = floor((m + 2) / 4) and u6 = floor((m + 3) / 6) against the calibration range (R62). -/
def calibrate (rate : Rate) (m : Nat) : MarkClass :=
  if inRange rate ((m + 2) / 4) then .answer ((m + 2) / 4)
  else if inRange rate ((m + 3) / 6) then .deferral ((m + 3) / 6)
  else .garbled

/-! ### The answer -/

/-- What the line end reports at the end of a frame that draws an answer: one of the four classes of R37, or a line fault
in place of it (R39, R68). -/
inductive Answer where
  | absent
  | deferral
  | garbled
  | clean (bytes : List Byte)
  | fault (f : LineFault)
deriving DecidableEq, Repr

/-- The receiver has stopped assembling and measures with unit `u` until frame end, answer limit or held active (R60, R63).
`spent` is the time since the first tick of the answer mark; the periods begin with a passive one. -/
def waitGarbled (u : Nat) : (fuel spent : Nat) → List Nat → Answer
  | 0, _, _ => .garbled
  | _ + 1, _, [] => .garbled
  | n + 1, spent, p :: rest =>
    match passiveRun (u / 2) p rest with
    | (some d, a :: rest') =>
      if 10 * u ≤ d then .garbled
      else
        let run := activeRun (u / 2) a rest'
        if 16 * u ≤ run.1 then
          (if spent + d + 16 * u ≤ Config.answerLimit then .fault .heldActive else .garbled)
        else waitGarbled u n (spent + d + run.1) run.2
    | _ => .garbled

/-- The judgement at the frame end of an assembled answer: whole bytes, the answer length plus the integrity byte, the
register at zero, and the frame end within the answer limit (R37, R38, R60; log 7). -/
def judgeBits (len : Nat) (endAt : Nat) (bits : List Bool) : Answer :=
  let bytes := bitsBytes bits
  if Config.answerLimit < endAt then .garbled
  else if bits.length ≠ 8 * (len + 1) then .garbled
  else if crc8 bytes = 0#8 then .clean (bytes.take len) else .garbled

/-- The receiver assembles the answer with the calibrated unit (R60, R63). The periods begin with a passive one; `bits` is
what has been gathered, oldest first. A passive period right after the mark of at least floor(U/2) but less than floor(u/2)
ticks is a period of its own, and so a symbol error (log 6). -/
def assembleAnswer (u len : Nat) : (fuel spent : Nat) → List Bool → List Nat → Answer
  | 0, _, _, _ => .garbled
  | _ + 1, spent, bits, [] => judgeBits len (spent + 10 * u) bits
  | n + 1, spent, bits, p :: rest =>
    match passiveRun (u / 2) p rest with
    | (some d, a :: rest') =>
      if 10 * u ≤ d then judgeBits len (spent + 10 * u) bits
      else
        match classBit false (classify u d) with
        | none => waitGarbled u (n + 1) spent (p :: rest)
        | some b =>
          let run := activeRun (u / 2) a rest'
          if 16 * u ≤ run.1 then
            (if spent + d + 16 * u ≤ Config.answerLimit then .fault .heldActive else .garbled)
          else
            match classBit true (classify u run.1) with
            | none => waitGarbled u n (spent + d + run.1) run.2
            | some b' => assembleAnswer u len n (spent + d + run.1) (bits ++ [b, b']) run.2
    | _ => judgeBits len (spent + 10 * u) bits

/-- What follows a deferral mark: passive line to the frame end, or a garbled answer (R63). -/
def judgeDeferral (u spent : Nat) : List Nat → Answer
  | [] => .deferral
  | p :: rest =>
    match passiveRun (u / 2) p rest with
    | (some d, _ :: _) => if 10 * u ≤ d then .deferral else waitGarbled u (rest.length + 1) spent (p :: rest)
    | _ => .deferral

/-- The answer to a frame sent at `rate` whose kind draws `len` answer bytes, from what the line shows after the start of
the data end (R36 to R38, R61 to R63). A break of the data end before 6U is an echo fault (R36). -/
def judgeAnswer (rate : Rate) (len : Nat) (view : List Nat) : Answer :=
  match dataEndStart (rate.unit / 2) view with
  | [] => .absent
  | p :: rest =>
    match passiveRun (rate.unit / 2) p rest with
    | (some d, a :: rest') =>
      if d < 6 * rate.unit then .fault .echoMismatch
      else if 10 * rate.unit ≤ d then .absent
      else
        let mark := activeRun (rate.unit / 2) a rest'
        if 16 * rate.unit ≤ mark.1 then .fault .heldActive
        else
          match calibrate rate mark.1 with
          | .answer u => assembleAnswer u len (mark.2.length + 1) mark.1 [] mark.2
          | .deferral u => judgeDeferral u mark.1 mark.2
          | .garbled => waitGarbled rate.unit (mark.2.length + 1) mark.1 mark.2
    | _ => .absent

/-! ### The echo monitor -/

/-- The window of the class a symbol of so many units belongs to: from its lower bound to below its upper bound, in ticks
of unit `u` (R58, R64). -/
def symbolWindow (u units : Nat) : Nat × Nat :=
  if units = 2 then (3 * u / 2, 3 * u) else if units = 4 then (3 * u, 5 * u) else (6 * u, 10 * u)

/-- The echo followed symbol by symbol: the symbols still to come as their lengths in units, the first of them on the level
given, and the echoed periods, glitches merged, the last of them still running. `late` is how many ticks after the first
symbol its echoed period begins. A line that goes passive under the drive, for floor(U/2) ticks of it, or that has not gone
active U ticks after its start, is stuck passive, and a break that began before the drive is none of it (R65). An echoed
period that passes the upper bound of its symbol's window, or ends outside the window, is a mismatch. A count that runs out
inside a period that may still be a glitch is reached when that glitch has ended (log 41); the end of a period is certain
once the period after it is no glitch (R64, R66; log 36). The last symbol, the data end, is watched until it has lasted
`final` ticks. -/
def followEcho (u final : Nat) : Bool → Int → List Nat → List Nat → Option LineFault
  | true, late, s :: syms, d :: rest =>
    let past : Int := late + d - s * u
    if (symbolWindow u s).2 ≤ d then some .echoMismatch
    else
      match rest with
      | [] => none
      | p :: _ =>
        if u / 2 ≤ p ∧ 0 ≤ late + d ∧ past + (u / 2 : Nat) ≤ 0 then some .stuckPassive
        else if u / 2 ≤ p ∧ d < (symbolWindow u s).1 then some .echoMismatch
        else followEcho u final false past syms rest
  | false, _, [_], d :: rest =>
    match rest with
    | [] => none
    | a :: _ => if u / 2 ≤ a ∧ d < final then some .echoMismatch else none
  | false, late, s :: syms, d :: rest =>
    let past : Int := late + d - s * u
    if (u : Int) ≤ past ∧ (0 ≤ late ∨ d < (symbolWindow u s).2) then some .stuckPassive
    else if (symbolWindow u s).2 ≤ d then some .echoMismatch
    else
      match rest with
      | [] => none
      | a :: _ =>
        if u / 2 ≤ a ∧ d < (symbolWindow u s).1 then some .echoMismatch else followEcho u final true past syms rest
  | _, _, _, _ => none

/-- The echo monitor over a frame: the line must have gone active within U ticks of the first drive, and every echoed period
must be of the class of the symbol sent (R64 to R66). -/
def frameEcho (u final : Nat) (f : LineFrame) (delay : Nat) (periods : List Nat) : Option LineFault :=
  if u ≤ delay then some .stuckPassive else followEcho u final true delay f.units periods

/-- The echo monitor over a line reset on a line whose rate in force has unit `u`, glitches under floor(u/2) merged. The line must
go active within u ticks and not go passive for floor(u/2) ticks under the drive, which has no window of its own (R65). After the
release it must be passive within 20 ticks, U being 40 there whatever the rate, and no active period but a glitch may come in the
guard (R57, R66; log 47). -/
def resetEcho (u delay : Nat) (periods : List Nat) : Option LineFault :=
  if u ≤ delay then some .stuckPassive
  else
    match periods with
    | [] => none
    | d :: rest =>
      let past : Int := (delay + d : Nat) - (Config.resetActive : Nat)
      match rest with
      | [] => if 20 ≤ past then some .echoMismatch else none
      | p :: more =>
        if u / 2 ≤ p ∧ past + (u / 2 : Nat) ≤ 0 then some .stuckPassive
        else if 20 ≤ past then some .echoMismatch
        else
          match more with
          | [] => none
          | a :: _ => if u / 2 ≤ a then some .echoMismatch else none

/-- The lengths of the periods that begin at these moments, oldest first, the last of them running until now (R57). -/
def periodsUntil (now : Nat) : Nat → List Nat → List Nat
  | t, [] => [now - t]
  | t, t' :: rest => (t' - t) :: periodsUntil now t' rest

/-- The moments of the echo of a transmission begun at `t0`, oldest first, the first of them active: the line's changes since
then, and the start itself where the line was active already (R64). `active` is the level after the last. -/
def echoMoments (g t0 : Nat) (active : Bool) (changes : List Nat) : List Nat :=
  let since := ((settled g changes).takeWhile (t0 ≤ ·)).reverse
  if decide (since.length % 2 = 1) = active then since
  else
    match since with
    | t :: rest => if t = t0 then rest else t0 :: since
    | [] => [t0]

/-- The echo of a transmission begun at `t0` as it stands now: the ticks to the first active level, and the echoed periods
(R64). -/
def echoNow (now g t0 : Nat) (active : Bool) (changes : List Nat) : Nat × List Nat :=
  match echoMoments g t0 active changes with
  | [] => (now - t0, [])
  | t :: rest => (t - t0, periodsUntil now t rest)

/-- The moments, newest first, at which periods of these lengths begin, the first of them at `t`, and the last one's end, put
before the moments known (R57). -/
def momentsFrom (t : Nat) : List Nat → List Nat → List Nat
  | [], known => t :: known
  | d :: rest, known => momentsFrom (t + d) rest (t :: known)

/-- What the closed loop of LINE_TEST has shown since the drive began, as moments of change, newest first: passive, then
active after `delay` ticks, and the periods of `echo` in turn; the line stays passive after the last of them (R70). -/
def loopMoments (delay : Nat) (echo : List Nat) : List Nat :=
  if echo.isEmpty then [0] else if echo.length % 2 = 1 then momentsFrom delay echo [0] else momentsFrom delay echo.dropLast [0]

/-- The echo monitor over the loopback test frame, a frame that draws no answer, from what the loop shows (R64 to R66,
R70). -/
def echoFault (rate : Rate) (f : LineFrame) (delay : Nat) (echo : List Nat) : Option LineFault :=
  let view := echoNow (delay + echo.sum + f.ticks rate.unit + 10 * rate.unit) (rate.unit / 2) 0 false (loopMoments delay echo)
  frameEcho rate.unit (10 * rate.unit) f view.1 view.2

/-- The test frame of LINE_TEST: shaped as a POLL to line address 0 (R70). -/
def testFrame : LineFrame := { kind := .poll, addr := 0, body := [] }

end Sys2Proof.Machine
end

