-- ==== Sys2Proof/Machine/LineEnd.lean ====
section
/-! DEFINITION. The line end of a bay or token port at work: the level it shows and the moments of its changes (R52, R57),
beginning, ending and cutting what is in flight (R39, R53, R55, R56, R68), and what a moment finds on it: its own next edge,
echo faults (R64 to R66), the end of a frame with its answer (R36, R38, R59 to R63), the minimum gap (R55) and the held-active
watch (R67). -/

namespace Sys2Proof.Machine

/-! ### The level of the line -/

/-- A frame is in flight on a line end (R39). -/
def Tx.inFlight : Tx → Bool
  | .frame _ _ _ _ => true
  | _ => false

/-- The transmitter is sending and the echo monitor runs: a frame up to its data end, or to its frame end if it draws no
answer, a line reset, or the test frame (R64). -/
def Tx.sending : Tx → Bool
  | .idle => false
  | .frame f _ _ passed => !passed || !f.kind.drawsAnswer
  | .reset _ => true
  | .test _ => true

/-- The glitch threshold on a line, floor(U/2) of the rate in force (R57). -/
def LineEnd.glitch (l : LineEnd) : Nat := l.rate.unit / 2

/-- The line changes to a level now. On a free line a glitch is merged as it ends; otherwise every change is kept, for the echo
monitor, the receiver and the gap count to merge by their own units (R57). The level the line shows already is no change. -/
def LineEnd.shows (now : Nat) (active : Bool) (l : LineEnd) : LineEnd :=
  if l.active = active then l
  else
    { l with
      active := active
      changes :=
        if l.tx = .idle ∧ l.free = true then (settled l.glitch (now :: l.changes)).take 2 else now :: l.changes }

/-- The start of the period now running on the line, glitches merged (R57). -/
def LineEnd.since (l : LineEnd) : Nat := (settled l.glitch l.changes).headD 0

/-- The transmitter is driving the line active now (R53). -/
def LineEnd.driving (now : Nat) (l : LineEnd) : Bool :=
  match l.tx.symbols with
  | some (start, lengths) => drivenAt true (now - start) lengths
  | none => false

/-- The transmitter releases the line: one that it drives active goes passive (R52, R68). A party that holds it active still is
reported as a change of level (log 3). -/
def LineEnd.released (now : Nat) (l : LineEnd) : LineEnd := if l.driving now then l.shows now false else l

/-! ### Transmissions -/

/-- The moments kept when a transmission begins: the period that runs and the one before it, and the line's change to active
with the first tick of the drive (R52, R53; log 3). -/
def LineEnd.recorded (now : Nat) (l : LineEnd) : List Nat :=
  let kept := (settled l.glitch l.changes).take 2
  if l.active then kept else now :: kept

/-- The transmitter begins to drive the line (R53). -/
def LineEnd.transmit (tx : Tx) (now : Nat) (l : LineEnd) : LineEnd :=
  { l with tx := tx, free := false, active := true, changes := l.recorded now }

/-- A line reset begins (R56). -/
def LineEnd.startReset (now : Nat) (l : LineEnd) : LineEnd := l.transmit (.reset now) now

/-- The moment at which the held-active watch is armed for what is in flight, when that ends now: after a frame that draws an
answer it has been armed since the data end passed, and otherwise it is armed now (R67). -/
def LineEnd.armed (now : Nat) (l : LineEnd) : Nat :=
  match l.tx with
  | .frame f rate sentAt _ => if f.kind.drawsAnswer then sentAt + f.ticks rate.unit else now
  | _ => now

/-- The rate of what is in flight, in whose unit the gap after it is counted (R55). With nothing in flight, as when a line is
reported held active in a gap or while idle (R68), no frame has ended whose rate R55 could name, and the gap is counted in the unit
of the rate in force (log 49). -/
def LineEnd.sentRate (l : LineEnd) : Rate :=
  match l.tx with
  | .frame _ rate _ _ => rate
  | _ => l.rate

/-- What is in flight has ended: from now the minimum gap is counted, in the unit of its rate (R55). -/
def LineEnd.ended (now : Nat) (l : LineEnd) : LineEnd :=
  { l.released now with
    tx := .idle, free := false, gapAt := now, gapRate := l.sentRate, armedAt := l.armed now, afterFault := false }

/-- A line fault is reported: what is in flight is over, the gap is counted from the report, and the held-active count starts
afresh (R68). -/
def LineEnd.faulted (now : Nat) (l : LineEnd) : LineEnd := { l.ended now with armedAt := now, afterFault := true }

/-- What is in flight is cut by the owner: the line is released at once and is free (R56; log 22). -/
def LineEnd.cut (now : Nat) (l : LineEnd) : LineEnd := { l.released now with tx := .idle, free := true }

/-- What is in flight cut; with nothing in flight the gap of an ended frame goes on being counted (R142). -/
def LineEnd.cutFrame (now : Nat) (l : LineEnd) : LineEnd := match l.tx with | .idle => l | _ => l.cut now

/-- A line reset has ended: the rate is STANDARD, the line is free at once and its watch armed (R52, R56, R67). -/
def LineEnd.resetOver (now : Nat) (l : LineEnd) : LineEnd :=
  { l with tx := .idle, free := true, rate := .standard, armedAt := now }

/-- The loopback switch opens after the test frame; over-current meanwhile has left the line unpowered (R70, R71; log
21). -/
def LineEnd.endTest (now : Nat) (l : LineEnd) : LineEnd := { l.ended now with loopback := false }

/-- A line end with its supply removed: nothing in flight, free, passive, at STANDARD. A loopback test runs on (R71, R72;
log 11). -/
def LineEnd.unpowered (l : LineEnd) : LineEnd :=
  match l.tx with
  | .test _ => { l with active := false, changes := [0], rate := .standard }
  | _ => idleLine

/-- The measuring of a line begins when its supply is applied, at STANDARD (R73, R75). -/
def LineEnd.powered (now : Nat) (l : LineEnd) : LineEnd := { l with rate := .standard, changes := [now] }

/-! ### What a moment finds -/

/-- The level to which the transmitter's own next symbol takes the line at this moment (R53). -/
def LineEnd.edge (now : Nat) (l : LineEnd) : Option Bool :=
  match l.tx.symbols with
  | some (start, lengths) => symbolBegins true (now - start) lengths
  | none => none

/-- What the echo monitor declares at this moment (R64 to R66). -/
def LineEnd.echoFault (now : Nat) (l : LineEnd) : Option LineFault :=
  if l.tx.sending then
    match l.tx with
    | .frame f rate sentAt _ =>
      let view := echoNow now (rate.unit / 2) sentAt l.active l.changes
      frameEcho rate.unit (if f.kind.drawsAnswer then 6 * rate.unit else 10 * rate.unit) f view.1 view.2
    | .reset start =>
      let view := echoNow now l.glitch start l.active l.changes
      resetEcho l.rate.unit view.1 view.2
    | _ => none
  else none

/-- What the line has shown since the data end began at `start`: every period that ended since, and the one that runs if it is
active (R36, R57). -/
def LineEnd.shown (now start : Nat) (l : LineEnd) : List Nat :=
  let periods := periodsUntil now start ((l.changes.takeWhile (start < ·)).reverse)
  if l.active then periods else periods.dropLast

/-- The unit that measures what follows an answer mark of `m` ticks (R62, R63). -/
def unitAfter (rate : Rate) (m : Nat) : Nat :=
  match calibrate rate m with
  | .answer u => u
  | .deferral u => u
  | .garbled => rate.unit

/-- What the end of a frame shows at a moment. -/
inductive FrameEnd where
  /-- The frame end, or an answer held active: the periods from the start of the data end (R36, R59). -/
  | ended (shown : List Nat)
  /-- The answer limit (R38). -/
  | limit
deriving DecidableEq, Repr

/-- Whether the frame in flight has come to its end by this moment: a passive line at 10 units, an active one at 16 units while
an answer is received, or the answer limit, 50 ms after the start of the mark (R36, R38, R59 to R63, R67). The moments of the
echo tell where the data end, the mark and the answer begin. A length reached inside a period of the other level that may still be
a glitch is found when that period has ended (log 41). -/
def LineEnd.frameEnd (now : Nat) (l : LineEnd) : Option FrameEnd :=
  match l.tx with
  | .frame f rate sentAt _ =>
    match (echoMoments (rate.unit / 2) sentAt l.active l.changes).drop (f.units.length - 1) with
    | [] => none
    | [start] => if start + 10 * rate.unit ≤ now then some (.ended (l.shown now start)) else none
    | start :: mark :: after =>
      if f.kind.drawsAnswer then
        let runs := match after with
          | [] => decide (mark + 16 * rate.unit ≤ now)
          | markEnd :: _ =>
            let u := unitAfter rate (markEnd - mark)
            let since := (settled (u / 2) (l.changes.takeWhile (markEnd ≤ ·))).headD markEnd
            decide (since + (if l.active then 16 * u else 10 * u) ≤ now)
        if runs then some (.ended (l.shown now start))
        else if mark + Config.answerLimit ≤ now then some .limit else none
      else none
  | _ => none

/-- The minimum gap has run: 12U of the ended frame's rate with the line passive, an active period that is no glitch having
started the count again (R55). Glitches of the count are those of that same unit (log 40). A count whose 12U run out inside an
active period that is not yet known to be no glitch waits until the line is passive again (log 41). -/
def LineEnd.gapRun (now : Nat) (l : LineEnd) : Bool :=
  l.tx == .idle && !l.free && !l.active &&
    decide (max l.gapAt ((settled (l.gapRate.unit / 2) l.changes).headD 0) + 12 * l.gapRate.unit ≤ now)

/-- An idle line has been active for 16U, counted from the start of the active period or from the arming of the watch, if that
came later (R67). Where its 16U run out inside a passive period that is not yet known to be no glitch, it is held active once the
line is active again (log 41). -/
def LineEnd.held (now : Nat) (l : LineEnd) : Bool :=
  l.tx == .idle && l.active && decide (max l.armedAt l.since + 16 * l.rate.unit ≤ now)

end Sys2Proof.Machine
end

