-- ==== Sys2Proof/Machine/Codes.lean ====
section
/-! DEFINITION. The code values of R185 and R189, and the byte layouts of records (R186, R187). -/

namespace Sys2Proof.Machine

/-- A Boolean item: 0x00 for no, 0x01 for yes (R189). -/
def boolByte (b : Bool) : Byte := if b then 0x01#8 else 0x00#8

/-- A count or number of one byte. -/
def natByte (n : Nat) : Byte := BitVec.ofNat 8 n

/-- A bay, slot, entry or line address as it is numbered, from 1. -/
def finByte {n : Nat} (i : Fin n) : Byte := natByte (i.val + 1)

/-- An optional bay, slot, entry or address: 0x00 when absent (R187). -/
def optFinByte {n : Nat} : Option (Fin n) → Byte
  | none => 0x00#8
  | some i => finByte i

/-- A number from 1 to `n` in a byte, or none outside it (R188). -/
def finOfByte (n : Nat) (b : Byte) : Option (Fin n) :=
  if h : 1 ≤ b.toNat ∧ b.toNat ≤ n then some ⟨b.toNat - 1, by omega⟩ else none

/-- rate (R189). -/
def Rate.code : Rate → Byte
  | .standard => 0x00#8
  | .fast => 0x01#8

/-- rate, as received; none for a code not defined (R188). -/
def Rate.ofCode (b : Byte) : Option Rate :=
  if b = 0x00#8 then some .standard else if b = 0x01#8 then some .fast else none

/-- capability, as received: FAST capable yes or no (R189). -/
def capabilityOfCode (b : Byte) : Option Bool :=
  if b = 0x00#8 then some false else if b = 0x01#8 then some true else none

/-- The terminal status codes (R40, R189). -/
inductive TermStatus where
  | accept
  | ok
  | holding
  | committed
  | refused
  | integrity
deriving DecidableEq, Repr

/-- terminal status, as sent by a terminal (R189). -/
def TermStatus.code : TermStatus → Byte
  | .accept => 0x01#8
  | .ok => 0x02#8
  | .holding => 0x03#8
  | .committed => 0x04#8
  | .refused => 0x05#8
  | .integrity => 0x06#8

/-- terminal status, as received; none is "a status other than those named" (R40, R188). -/
def TermStatus.ofCode (b : Byte) : Option TermStatus :=
  if b = 0x01#8 then some .accept else if b = 0x02#8 then some .ok else if b = 0x03#8 then some .holding
  else if b = 0x04#8 then some .committed else if b = 0x05#8 then some .refused
  else if b = 0x06#8 then some .integrity else none

/-- role (R189). -/
def Role.code : Role → Byte
  | .custodianA => 0x01#8
  | .custodianB => 0x02#8

/-- role, as received (R189). -/
def Role.ofCode (b : Byte) : Option Role :=
  if b = 0x01#8 then some .custodianA else if b = 0x02#8 then some .custodianB else none

/-- bay state (R189). -/
def BayState.code : BayState → Byte
  | .off => 0x00#8
  | .powering => 0x01#8
  | .ready => 0x02#8
  | .rolling => 0x03#8
  | .loading => 0x04#8
  | .stopping => 0x05#8
  | .fault => 0x06#8

/-- fault reason (R189). -/
def FaultReason.code : FaultReason → Byte
  | .overCurrent => 0x01#8
  | .powerTimeout => 0x02#8
  | .lineHeldActive => 0x03#8
  | .lineStuckPassive => 0x04#8
  | .echoMismatch => 0x05#8

/-- A line fault as a fault reason of a bay (R68). -/
def LineFault.reason : LineFault → FaultReason
  | .heldActive => .lineHeldActive
  | .stuckPassive => .lineStuckPassive
  | .echoMismatch => .echoMismatch

/-- phase (R189). -/
def Phase.code : Phase → Byte
  | .enrolled => 0x01#8
  | .transport => 0x02#8
  | .loading => 0x03#8
  | .committing => 0x04#8
  | .reportWait => 0x05#8
  | .done => 0x06#8

/-- outcome (R189). -/
def Verdict.code : Verdict → Byte
  | .loaded => 0x01#8
  | .failed _ => 0x02#8
  | .unknown => 0x03#8

/-- failure reason (R189). -/
def FailReason.code : FailReason → Byte
  | .checkMismatch => 0x01#8
  | .noAnswer => 0x02#8
  | .refused => 0x03#8
  | .commitRefused => 0x04#8
  | .lapsed => 0x05#8
  | .keyUnavailable => 0x06#8
  | .windowClosed => 0x07#8

/-- The failure reason of an outcome; 0x00 when absent (R187). -/
def Verdict.reasonByte : Verdict → Byte
  | .failed r => r.code
  | _ => 0x00#8

/-- stop cause (R189). -/
def StopCause.code : StopCause → Byte
  | .complete => 0x01#8
  | .aborted => 0x02#8
  | .reset => 0x03#8
  | .restart => 0x04#8
  | .tamper => 0x05#8
  | .lineFault => 0x06#8
  | .powerFault => 0x07#8

/-- list state (R189). -/
def ListState.code : ListState → Byte
  | .loaded => 0x01#8
  | .failed => 0x02#8
  | .abandoned => 0x03#8
  | .indeterminate => 0x04#8

/-- profile state (R189). -/
def Entry.code : Entry → Byte
  | .empty => 0x00#8
  | .stored false _ => 0x01#8
  | .stored true _ => 0x02#8

/-- parity (R189). -/
def Parity.code : Parity → Byte
  | .none => 0x00#8
  | .odd => 0x01#8

/-- parity, as received (R189). -/
def Parity.ofCode (b : Byte) : Option Parity :=
  if b = 0x00#8 then some .none else if b = 0x01#8 then some .odd else none

/-- prepare-ahead, as received: ON or OFF (R189). -/
def onOffOfCode (b : Byte) : Option Bool :=
  if b = 0x00#8 then some false else if b = 0x01#8 then some true else none

/-- descriptor action (R189). -/
def Action.code : Action → Byte
  | .derive _ => 0x01#8
  | .keep => 0x02#8

/-- The base slot of a descriptor; 0x00 when absent (R187). -/
def Action.slotByte : Action → Byte
  | .derive k => finByte k
  | .keep => 0x00#8

/-- slot state (R189). -/
def SlotContent.code : SlotContent → Byte
  | .empty => 0x00#8
  | .active _ _ => 0x01#8
  | .retired _ => 0x02#8

/-- key kind (R189). -/
def KeyKind.code : KeyKind → Byte
  | .base => 0x01#8
  | .transportBase => 0x02#8
  | .transfer => 0x03#8

/-- key kind, as received (R189). -/
def KeyKind.ofCode (b : Byte) : Option KeyKind :=
  if b = 0x01#8 then some .base else if b = 0x02#8 then some .transportBase
  else if b = 0x03#8 then some .transfer else none

/-- origin (R189). -/
def Origin.code : Origin → Byte
  | .assembled => 0x01#8
  | .imported => 0x02#8

/-- KEY_CHANGE action (R189). -/
def KeyAction.code : KeyAction → Byte
  | .assembled => 0x01#8
  | .imported => 0x02#8
  | .retired => 0x03#8
  | .erased => 0x04#8

/-- port state (R189). -/
def PortState.code : PortState → Byte
  | .empty => 0x00#8
  | .settling _ => 0x01#8
  | .reading _ _ _ => 0x02#8
  | .read _ => 0x03#8
  | .unreadable _ => 0x04#8

/-- port failure cause (R189). -/
def PortCause.code : PortCause → Byte
  | .noAnswer => 0x01#8
  | .garbled => 0x02#8
  | .deferred => 0x03#8
  | .badContent => 0x04#8
  | .checkMismatch => 0x05#8
  | .lineFault => 0x06#8

/-- result code (R185). -/
def ResultCode.code : ResultCode → Byte
  | .ok => 0x00#8
  | .frameCheck => 0x01#8
  | .frameLength => 0x02#8
  | .unknownKind => 0x03#8
  | .busy => 0x04#8
  | .badArgument => 0x05#8
  | .tampered => 0x06#8
  | .windowClosed => 0x07#8
  | .bayState => 0x08#8
  | .inUse => 0x09#8
  | .slotState => 0x0A#8
  | .generationStale => 0x0B#8
  | .checkMismatch => 0x0C#8
  | .tokenAbsent => 0x0D#8
  | .tokenInvalid => 0x0E#8
  | .queueFull => 0x0F#8
  | .keyUnavailable => 0x10#8

/-! ### Records (R186, R187) -/

/-- A position entry: tag, action, base slot, base generation, confirmed check value; generation 0x0000 and a zero check
value when the position was not confirmed (R187). -/
def PositionEntry.bytes (p : PositionEntry) : List Byte :=
  [p.tag, p.action.code, p.action.slotByte] ++
    match p.confirmed with
    | some c => wordBytes 2 c.gen ++ wordBytes 3 c.check
    | none => [0, 0, 0, 0, 0]

/-- A BATCH_END list entry (R186). -/
def ListEntry.bytes (e : ListEntry) : List Byte := [finByte e.addr] ++ wordBytes 8 e.serial ++ [e.state.code]

/-- The kind code of a record (R186). -/
def RecordBody.kindCode : RecordBody → Byte
  | .terminal _ => 0x01#8
  | .batchEnd _ => 0x02#8
  | .windowOpen _ _ _ _ => 0x03#8
  | .keyChange _ => 0x04#8

/-- The bytes of a record after its header (R186). -/
def RecordBody.bytes : RecordBody → List Byte
  | .terminal r =>
      [finByte r.bay] ++ wordBytes 4 r.batch ++ [finByte r.addr] ++ wordBytes 8 r.serial ++
        [optFinByte r.entry, r.outcome.code, r.outcome.reasonByte, r.rate.code, natByte r.attemptsTotal,
          natByte r.positions.length] ++ (r.positions.map PositionEntry.bytes).flatten
  | .batchEnd r =>
      [finByte r.bay] ++ wordBytes 4 r.batch ++
        [r.cause.code, r.requested.code, r.inUse.code, natByte r.expected, natByte r.enrolled, natByte r.loaded,
          natByte r.failed, natByte r.unknown, natByte r.list.length] ++ (r.list.map ListEntry.bytes).flatten
  | .windowOpen idA idB minutes expiry =>
      wordBytes 4 idA ++ wordBytes 4 idB ++ beBytes 2 minutes ++ wordBytes 4 expiry
  | .keyChange r =>
      [finByte r.slot, r.action.code, r.kind.code] ++ wordBytes 2 r.gen ++
        (match r.check with | some c => wordBytes 3 c | none => [0, 0, 0]) ++
        (match r.custodians with | some (a, b) => wordBytes 4 a ++ wordBytes 4 b | none => [0, 0, 0, 0, 0, 0, 0, 0])

/-- A record with its 9-byte header: number, time, kind (R186). -/
def Record.bytes (r : Record) : List Byte :=
  wordBytes 4 r.number ++ wordBytes 4 r.time ++ [r.body.kindCode] ++ r.body.bytes

end Sys2Proof.Machine
end

