-- ==== Sys2Proof/Machine/Operands.lean ====
section
/-! DEFINITION. The arguments of every request, read from the body bytes after the request code (R185). Each reader answers
none for the first row of its owner's table of conditions: a body of the wrong length, a number out of range or a code not
defined (R171, R188). -/

namespace Sys2Proof.Machine

/-- The request codes (R185). -/
inductive RequestCode where
  | batchStart
  | batchAbort
  | bayStatus
  | bayReset
  | bayPower
  | lineTest
  | profileWrite
  | profileRead
  | profileEnable
  | profileDisable
  | profileClear
  | keyInfo
  | keyAssemble
  | keyImport
  | keyRetire
  | keyErase
  | tokenStatus
  | windowOpen
  | windowClose
  | recordsFetch
  | timeSet
  | status
  | tamperClear
  | restart
deriving DecidableEq, Repr

/-- The code byte of a request (R185). -/
def RequestCode.code : RequestCode → Byte
  | .batchStart => 0x01#8
  | .batchAbort => 0x02#8
  | .bayStatus => 0x03#8
  | .bayReset => 0x04#8
  | .bayPower => 0x05#8
  | .lineTest => 0x06#8
  | .profileWrite => 0x07#8
  | .profileRead => 0x08#8
  | .profileEnable => 0x09#8
  | .profileDisable => 0x0A#8
  | .profileClear => 0x0B#8
  | .keyInfo => 0x0C#8
  | .keyAssemble => 0x0D#8
  | .keyImport => 0x0E#8
  | .keyRetire => 0x0F#8
  | .keyErase => 0x10#8
  | .tokenStatus => 0x11#8
  | .windowOpen => 0x12#8
  | .windowClose => 0x13#8
  | .recordsFetch => 0x14#8
  | .timeSet => 0x15#8
  | .status => 0x16#8
  | .tamperClear => 0x17#8
  | .restart => 0x18#8

/-- The request codes in the order of R185. -/
def RequestCode.all : List RequestCode :=
  [.batchStart, .batchAbort, .bayStatus, .bayReset, .bayPower, .lineTest, .profileWrite, .profileRead, .profileEnable,
    .profileDisable, .profileClear, .keyInfo, .keyAssemble, .keyImport, .keyRetire, .keyErase, .tokenStatus,
    .windowOpen, .windowClose, .recordsFetch, .timeSet, .status, .tamperClear, .restart]

/-- The request a code byte names, or none (R168, R185). -/
def RequestCode.ofByte (b : Byte) : Option RequestCode := RequestCode.all.find? (fun c => c.code == b)

/-- A body of one bay number (R27, R28, R32, R70). -/
def readBay : List Byte → Option BayId
  | [b] => finOfByte 12 b
  | _ => none

/-- A body of one entry number (R92 to R95). -/
def readEntry : List Byte → Option EntryId
  | [b] => finOfByte 24 b
  | _ => none

/-- A body of one slot number (R132 to R134). -/
def readSlot : List Byte → Option SlotId
  | [b] => finOfByte 32 b
  | _ => none

/-- BATCH_START: bay, rate, expected count 0 to 4 (R4). -/
def readBatchStart : List Byte → Option (BayId × Rate × Nat)
  | [b, r, n] =>
    match finOfByte 12 b, Rate.ofCode r with
    | some bay, some rate => if n.toNat ≤ 4 then some (bay, rate, n.toNat) else none
    | _, _ => none
  | _ => none

/-- BAY_POWER: bay, setting (R73). -/
def readBayPower : List Byte → Option (BayId × Bool)
  | [b, setting] =>
    match finOfByte 12 b, onOffOfCode setting with
    | some bay, some on => some (bay, on)
    | _, _ => none
  | _ => none

/-- A list of descriptors {tag, action, base slot}: a tag of 1 to 15, an action DERIVE or KEEP, and with DERIVE a base slot
of 1 to 32; the base slot given with KEEP is read and discarded (R90, R188). -/
def readDescriptors : (n : Nat) → List Byte → Option (List Descriptor)
  | 0, [] => some []
  | n + 1, t :: a :: k :: rest =>
    match readDescriptors n rest with
    | none => none
    | some ds =>
      if t = 0#8 ∨ 15 < t.toNat then none
      else if a = 0x01#8 then
        match finOfByte 32 k with
        | some slot => some ({ tag := t, action := .derive slot } :: ds)
        | none => none
      else if a = 0x02#8 then some ({ tag := t, action := .keep } :: ds)
      else none
  | _, _ => none

/-- Whether a descriptor has the action DERIVE (R84). -/
def Descriptor.derives (d : Descriptor) : Bool := match d.action with | .derive _ => true | .keep => false

/-- PROFILE_WRITE, but for its IN_USE test: every other row of R90's table is BAD_ARGUMENT. The profile is as given; R91
stores it with its priority and match value adjusted. -/
def readProfileWrite : List Byte → Option (EntryId × Profile)
  | e :: priority :: rest =>
    match finOfByte 24 e with
    | none => none
    | some entry =>
      let mask := rest.take 8
      let value := (rest.drop 8).take 8
      match rest.drop 16 with
      | slot :: parity :: ahead :: tail =>
        let label := tail.take 8
        match tail.drop 8 with
        | n :: descs =>
          if n.toNat < 1 ∨ 4 < n.toNat then none
          else
            match readDescriptors n.toNat descs, Parity.ofCode parity, onOffOfCode ahead, finOfByte 32 slot with
            | some ds, some par, some on, some k =>
              if (ds.map (·.tag)).Nodup ∧ ds.any Descriptor.derives = true then
                some (entry, { priority := priority, mask := beWord 64 mask, value := beWord 64 value, transportSlot := k,
                               parity := par, ahead := on, label := beWord 64 label, keySet := ds })
              else none
            | _, _, _, _ => none
        | [] => none
      | _ => none
  | _ => none

/-- KEY_ASSEMBLE: slot, kind, generation, expected check, label (R125). -/
def readKeyAssemble : List Byte → Option KeyRequest
  | slot :: kind :: g1 :: g0 :: c2 :: c1 :: c0 :: label =>
    match finOfByte 32 slot, KeyKind.ofCode kind with
    | some k, some kd =>
      if label.length = 8 then
        some { slot := k, kind := kd, gen := beWord 16 [g1, g0], expected := beWord 24 [c2, c1, c0],
               label := beWord 64 label }
      else none
    | _, _ => none
  | _ => none

/-- KEY_IMPORT: slot, kind BASE or TRANSPORT_BASE, generation, transfer slot, wrapped value, expected check, label
(R129). -/
def readKeyImport : List Byte → Option (KeyRequest × SlotId × Key)
  | slot :: kind :: g1 :: g0 :: transfer :: rest =>
    match finOfByte 32 slot, KeyKind.ofCode kind, finOfByte 32 transfer with
    | some k, some kd, some tk =>
      if kd = .transfer ∨ rest.length ≠ 27 then none
      else
        some ({ slot := k, kind := kd, gen := beWord 16 [g1, g0], expected := beWord 24 ((rest.drop 16).take 3),
                label := beWord 64 (rest.drop 19) }, tk, beWord 128 (rest.take 16))
    | _, _, _ => none
  | _ => none

/-- WINDOW_OPEN: minutes (R148). -/
def readMinutes : List Byte → Option Nat
  | [m1, m0] => some (beNat [m1, m0])
  | _ => none

/-- RECORDS_FETCH: count (R155). -/
def readCount : List Byte → Option Nat
  | [n] => some n.toNat
  | _ => none

/-- TIME_SET: seconds (R160). -/
def readSeconds : List Byte → Option Word32
  | [s3, s2, s1, s0] => some (beWord 32 [s3, s2, s1, s0])
  | _ => none

end Sys2Proof.Machine
end

