-- ==== Sys2Proof/Machine/Ops.lean ====
section
/-! DEFINITION. The named operations over the state that every block uses: reading and replacing a bay or a port, raising a
notice flag, appending a record, placing a REJECT and answering the head request. -/

namespace Sys2Proof.Machine

/-! ### Bays, ports and holders -/

/-- A bay controller. -/
def State.bay (s : State) (b : BayId) : Bay := s.bays[b.val]

/-- Replacing a bay controller. -/
def State.setBay (s : State) (b : BayId) (x : Bay) : State := { s with bays := s.bays.set b.val x }

/-- Changing a bay controller. -/
def State.updBay (s : State) (b : BayId) (f : Bay → Bay) : State := s.setBay b (f (s.bay b))

/-- A token port. -/
def State.port (s : State) : PortId → Port
  | .a => s.portA
  | .b => s.portB

/-- Replacing a token port. -/
def State.setPort (s : State) (p : PortId) (x : Port) : State :=
  match p with
  | .a => { s with portA := x }
  | .b => { s with portB := x }

/-- Changing a token port. -/
def State.updPort (s : State) (p : PortId) (f : Port → Port) : State := s.setPort p (f (s.port p))

/-- The line end of a bay or port. -/
def State.lineEnd (s : State) : LineId → LineEnd
  | .bay b => (s.bay b).line
  | .port p => (s.port p).line

/-- Changing the line end of a bay or port. -/
def State.updLine (s : State) (l : LineId) (f : LineEnd → LineEnd) : State :=
  match l with
  | .bay b => s.updBay b (fun x => { x with line := f x.line })
  | .port p => s.updPort p (fun x => { x with line := f x.line })

/-- A batch is running while its bay is in ROLLING, LOADING or STOPPING (R2). -/
def Bay.isRunning (x : Bay) : Bool :=
  match x.state with
  | .rolling | .loading | .stopping => true
  | _ => false

/-- The number of running batches (R2, R153). -/
def State.running (s : State) : Nat := s.bays.countP Bay.isRunning

/-- The context at a line address (R5). -/
def Bay.ctx (x : Bay) (a : Addr) : Option Context := x.contexts.find? (fun c => c.addr == a)

/-- Changing the context at a line address. -/
def Bay.updCtx (x : Bay) (a : Addr) (f : Context → Context) : Bay :=
  { x with contexts := x.contexts.map (fun c => if c.addr = a then f c else c) }

/-- The working transport key of a context (R114). -/
def Cipher.holder (c : Cipher) (b : BayId) (a : Addr) : Option Key := c.holders[b.val][a.val]

/-- Filling or emptying a holder (R114). -/
def Cipher.setHolder (c : Cipher) (b : BayId) (a : Addr) (k : Option Key) : Cipher :=
  { c with holders := c.holders.set b.val (c.holders[b.val].set a.val k) }

/-- Emptying every holder of a bay (R114). -/
def Cipher.emptyHolders (c : Cipher) (b : BayId) : Cipher :=
  { c with holders := c.holders.set b.val (Vector.replicate 4 none) }

/-- A key slot. -/
def State.slot (s : State) (k : SlotId) : Slot := s.keys.slots[k.val]

/-- Replacing the slots of the key store; its CRC-16 is updated with them, as one change (R136). -/
def State.setSlots (s : State) (slots : Vector Slot 32) : State :=
  { s with keys := { s.keys with slots := slots }, checks := { s.checks with keyStore := keyStoreCheck slots } }

/-- Replacing a key slot (R136). -/
def State.setSlot (s : State) (k : SlotId) (x : Slot) : State := s.setSlots (s.keys.slots.set k.val x)

/-- A profile entry. -/
def State.entry (s : State) (e : EntryId) : Entry := s.profiles[e.val]

/-- Replacing the entries of the profile table; its CRC-16 is updated with them, as one change (R98). -/
def State.setEntries (s : State) (entries : Vector Entry 24) : State :=
  { s with profiles := entries, checks := { s.checks with profiles := profileCheck entries } }

/-- Replacing a profile entry (R98). -/
def State.setEntry (s : State) (e : EntryId) (x : Entry) : State := s.setEntries (s.profiles.set e.val x)

/-- The profile of an entry that is not EMPTY (R83). -/
def Entry.profile : Entry → Option Profile
  | .empty => none
  | .stored _ p => some p

/-! ### The tamper latch -/

/-- The latch is set; copies that disagree are read as set (R177). -/
def Enclosure.latched (e : Enclosure) : Bool := e.latchCopy || (e.latchCopy == e.latchComplement)

/-- Writing both copies of the latch (R177). -/
def Enclosure.setLatch (e : Enclosure) (v : Bool) : Enclosure := { e with latchCopy := v, latchComplement := !v }

/-- The tamper latch is set. -/
def State.latched (s : State) : Bool := s.enclosure.latched

/-! ### Notice flags -/

/-- Raising a notice flag. While ARMED the machine enters SENT and asks the station link for a notice; while SENT the flag
is gathered (R161, R162; log 13). -/
def State.raise (f : Flag) (s : State) : State :=
  { s with
    notice := { flags := s.notice.flags.raise f, armed := false }
    link := if s.notice.armed then { s.link with noticeWanted := true } else s.link }

/-! ### The report queue -/

/-- The number after a record or batch number: after 4,294,967,295 comes 1; 0 is not used (R4, R152). -/
def nextNumber (n : Word32) : Word32 := if n = 0xFFFFFFFF#32 then 1#32 else n + 1#32

/-- The room test: count plus running is below 64 (R153). -/
def State.room (s : State) : Bool := decide (s.report.records.length + s.running < Config.reportPlaces)

/-- Replacing the records of the queue, its CRC-16 with them (R156). -/
def State.setRecords (s : State) (records : List Record) : State :=
  { s with report := { s.report with records := records }, checks := { s.checks with queue := queueCheck records } }

/-- Replacing the two counters, their CRC-16 with them (R156). -/
def State.setCounters (s : State) (c : Counters) : State :=
  { s with
    report := { s.report with recordCounter := c.record, batchCounter := c.batch }
    checks := { s.checks with counters := counterCheck c } }

/-- Appending a record at the tail with the next number and the part clock's value; RECORDS is raised (R151, R152,
R161). -/
def State.appendRecord (body : RecordBody) (s : State) : State :=
  let n := nextNumber s.report.recordCounter
  State.raise .records
    ((s.setRecords (s.report.records ++ [{ number := n, time := s.clock, body := body }])).setCounters
      { record := n, batch := s.report.batchCounter })

/-! ### The station link -/

/-- The REJECTs in the reject list: those waiting and the one being sent (R169). -/
def Link.rejects (l : Link) : Nat :=
  l.waiting.countP (fun w => match w with | .reject _ _ => true | .reply _ _ => false) +
    (match l.sending with | some (.reject _ _) => 1 | _ => 0)

/-- Placing a REJECT; it is dropped while the list holds 4 (R169). -/
def State.placeReject (tag : Byte) (code : ResultCode) (s : State) : State :=
  if s.link.rejects < Config.rejectPlaces then
    { s with link := { s.link with waiting := s.link.waiting ++ [.reject tag code] } }
  else s

/-- The owner's answer to the head request: the reply is built with the request's tag, the result code and the owner's
contents, and begins waiting for the outgoing direction (R171, R172). The owner's answer is final: a head that is not with
its owner takes none. -/
def State.answer (code : ResultCode) (contents : List Byte) (s : State) : State :=
  match s.link.head, s.link.queue with
  | .withOwner, r :: _ =>
    { s with link := { s.link with head := .replyReady
                                   waiting := s.link.waiting ++ [.reply r.tag (code.code :: contents)] } }
  | _, _ => s

/-- The NOTICE body: the flags raised and the report queue's count (R162, R173, R185). -/
def State.noticeBody (s : State) : List Byte := [s.notice.flags.toByte, natByte s.report.records.length]

/-- The arbiter of the outgoing direction: when it is free, the notice if one waits, and otherwise of the REJECTs and the
reply the one that began waiting first (R172). A notice asked for after the STATUS reply is built goes before that reply where it
still waits behind the frame in progress: R162 leaves the order to R172 (log 37). -/
def State.beginFrame (s : State) : State :=
  match s.link.sending with
  | some _ => s
  | none =>
    if s.link.noticeWanted then
      { s with link := { s.link with noticeWanted := false, sending := some (.notice s.noticeBody) } }
    else
      match s.link.waiting with
      | [] => s
      | .reject tag code :: rest =>
        { s with link := { s.link with waiting := rest, sending := some (.reject tag code) } }
      | .reply tag body :: rest =>
        { s with link := { s.link with waiting := rest, sending := some (.reply tag body) } }

/-- The kind code, tag and body of a frame being sent (R165, R169, R173, R185). -/
def Sending.parts : Sending → Byte × Byte × List Byte
  | .notice body => (0x03#8, 0x00#8, body)
  | .reject tag code => (0x02#8, tag, [code.code])
  | .reply tag body => (0x02#8, tag, body)

/-- A station-link frame on the wire: start byte, length, kind, tag, body, CRC (R165, R166). -/
def linkFrameBytes (kind tag : Byte) (body : List Byte) : List Byte :=
  let covered := beBytes 2 (body.length + 2) ++ [kind, tag] ++ body
  0xC3#8 :: covered ++ wordBytes 2 (crc16 covered)

/-- The bytes of a frame being sent (R165). -/
def Sending.bytes (f : Sending) : List Byte := linkFrameBytes f.parts.1 f.parts.2.1 f.parts.2.2

end Sys2Proof.Machine
end

