-- ==== Sys2Proof/Machine/Cipher.lean ====
section
/-! DEFINITION. The cipher unit: the queue and waiting list (R99 to R102), the engine's choice and start checks (R103,
R104), the work of each request kind (R107 to R113) and withdrawal (R106). -/

namespace Sys2Proof.Machine

/-! ### Jobs -/

/-- The bay that made a request; a token port's or the key store's request has none (R99). -/
def CipherJob.bay : CipherJob → Option BayId
  | .transport b _ _ _ => some b
  | .prepare b _ _ _ _ _ _ => some b
  | .portCheck _ _ => none
  | .storeCheck _ => none
  | .importKey _ _ => none

/-- A TRANSPORT or PREPARE (R115). -/
def CipherJob.isDerivation (j : CipherJob) : Bool := j.bay.isSome

/-- The context a TRANSPORT or PREPARE serves (R99). -/
def CipherJob.context : CipherJob → Option (BayId × Addr)
  | .transport b a _ _ => some (b, a)
  | .prepare b a _ _ _ _ _ => some (b, a)
  | _ => none

/-- A TRANSPORT for a context. -/
def CipherJob.isTransportFor (b : BayId) (a : Addr) : CipherJob → Bool
  | .transport b' a' _ _ => b' == b && a' == a
  | _ => false

/-- A PREPARE for a position of a context. -/
def CipherJob.isPrepareFor (b : BayId) (a : Addr) (pos : Nat) : CipherJob → Bool
  | .prepare b' a' p _ _ _ _ => b' == b && a' == a && p == pos
  | _ => false

/-- The CHECK of a token port. -/
def CipherJob.isPortCheck (p : PortId) : CipherJob → Bool
  | .portCheck q _ => q == p
  | _ => false

/-- A CHECK or IMPORT of the key store. -/
def CipherJob.isStoreJob : CipherJob → Bool
  | .storeCheck _ => true
  | .importKey _ _ => true
  | _ => false

/-- The slot a request names (R99, R116). -/
def CipherJob.slotNamed : CipherJob → Option SlotId
  | .transport _ _ _ k => some k
  | .prepare _ _ _ _ _ k _ => some k
  | .importKey k _ => some k
  | .portCheck _ _ => none
  | .storeCheck _ => none

/-! ### The queue -/

/-- The places held: by the queued requests and by the running one (R100). -/
def Cipher.held (c : Cipher) : Nat := c.queue.length + (if c.running.isSome then 1 else 0)

/-- The places held by requests of one bay, a withdrawn running one included (R100). -/
def Cipher.heldBy (c : Cipher) (b : BayId) : Nat :=
  c.queue.countP (fun r => r.job.bay == some b) +
    (match c.running with | some r => if r.job.bay = some b then 1 else 0 | none => 0)

/-- The admission test: fewer than 16 places held and, for a bay, fewer than 2 held by it (R100). -/
def Cipher.admits (c : Cipher) (j : CipherJob) : Bool :=
  decide (c.held < Config.cipherPlaces) &&
    (match j.bay with | some b => decide (c.heldBy b < Config.bayShare) | none => true)

/-- The waiting list examined from its oldest request onward: each request that now passes the test is admitted, the others
keep their order (R101). -/
def Cipher.examineFrom : List CipherRequest → Cipher → Cipher
  | [], c => c
  | r :: rest, c =>
    if c.admits r.job then Cipher.examineFrom rest { c with queue := c.queue ++ [r] }
    else Cipher.examineFrom rest { c with waiting := c.waiting ++ [r] }

/-- Examining the waiting list (R101). -/
def Cipher.examine (c : Cipher) : Cipher := Cipher.examineFrom c.waiting { c with waiting := [] }

/-- Placing a request: admitted at once, or at the end of the waiting list (R100, R101). -/
def Cipher.place (job : CipherJob) (urgent : Bool) (c : Cipher) : Cipher :=
  let r : CipherRequest := { job := job, urgent := urgent }
  if c.admits job then { c with queue := c.queue ++ [r] } else { c with waiting := c.waiting ++ [r] }

/-- Raising a request to URGENT in place (R102). -/
def Cipher.raise (p : CipherJob → Bool) (c : Cipher) : Cipher :=
  let up : CipherRequest → CipherRequest := fun r => if p r.job then { r with urgent := true } else r
  { c with queue := c.queue.map up, waiting := c.waiting.map up }

/-- Withdrawing requests: waiting and queued ones are removed, a running one runs on with its result to be discarded; the
waiting list is examined (R106). -/
def Cipher.withdraw (p : CipherJob → Bool) (c : Cipher) : Cipher :=
  Cipher.examine
    { c with
      queue := c.queue.filter (fun r => !p r.job)
      waiting := c.waiting.filter (fun r => !p r.job)
      running := c.running.map (fun r => if p r.job then { r with withdrawn := true } else r) }

/-- Whether a request is outstanding: waiting, queued, or running and not withdrawn (R99). -/
def Cipher.outstanding (p : CipherJob → Bool) (c : Cipher) : Bool :=
  c.queue.any (fun r => p r.job) || c.waiting.any (fun r => p r.job) ||
    (match c.running with | some r => p r.job && !r.withdrawn | none => false)

/-- The number of outstanding requests of a bay (R23, R100). -/
def Cipher.outstandingOf (c : Cipher) (b : BayId) : Nat :=
  c.queue.countP (fun r => r.job.bay == some b) + c.waiting.countP (fun r => r.job.bay == some b) +
    (match c.running with | some r => if r.job.bay = some b ∧ r.withdrawn = false then 1 else 0 | none => 0)

/-- Whether any request names a slot; a withdrawn running one counts (R116). -/
def Cipher.names (c : Cipher) (k : SlotId) : Bool :=
  c.queue.any (fun r => r.job.slotNamed == some k) || c.waiting.any (fun r => r.job.slotNamed == some k) ||
    (match c.running with | some r => r.job.slotNamed == some k | none => false)

/-- The engine's choice: the URGENT request of earliest arrival position, or else the ORDINARY one (R103). -/
def Cipher.choice (c : Cipher) : Option CipherRequest :=
  match c.queue.find? (fun r => r.urgent) with
  | some r => some r
  | none => c.queue.head?

/-- The flush of RESTART and the tamper response: no request, no value, no holder left (R117). -/
def Cipher.flush (_ : Cipher) : Cipher := coldCipher

/-! ### Derivation -/

/-- The derivation block: serial, tag, generation, complement of serial bytes 0 to 3, 0x01 (R107). -/
def derivationBlock (serial : Serial) (tag : Byte) (gen : Generation) : Key :=
  serial ++ tag ++ gen ++ ~~~(serial.extractLsb' 32 32) ++ 0x01#8

/-- The derived key: the derivation block enciphered under the base key (R107). -/
def derivedKey (base : Key) (serial : Serial) (tag : Byte) (gen : Generation) : Key :=
  Config.encipher base (derivationBlock serial tag gen)

/-- The number of one bits of a byte (R109). -/
def oneBits (b : Byte) : Nat := (byteBits b).count true

/-- A byte given an odd number of one bits by its least significant bit (R109). -/
def oddByte (b : Byte) : Byte := if oneBits b % 2 = 0 then b ^^^ 0x01#8 else b

/-- Parity adjustment of a derived key (R109). -/
def adjustParity (parity : Parity) (k : Key) : Key :=
  match parity with
  | .none => k
  | .odd => beWord 128 ((wordBytes 16 k).map oddByte)

/-- The check value of a key: bytes 0 to 2 of the encipherment of 16 zero bytes under it (R110). -/
def checkValue (k : Key) : CheckValue := (Config.encipher k 0#128).extractLsb' 104 24

/-- The work of a PREPARE (R111). -/
def prepare (base working : Key) (serial : Serial) (tag : Byte) (gen : Generation) (parity : Parity) : Prepared :=
  let position := adjustParity parity (derivedKey base serial tag gen)
  { wrapped := Config.encipher working position, check := checkValue position, tag := tag, gen := gen }

/-- What a request ends with (R99, R104). -/
inductive CipherResult where
  | transportKey (working : Key)
  | prepared (result : Prepared)
  | check (value : CheckValue)
  | imported (key : Key) (value : CheckValue)
  | failed (reason : FailReason)
deriving DecidableEq, Repr

/-- The result of a running request, from the values read at its start (R108, R111 to R113). A request whose values do not
fit its kind cannot occur; it fails KEY_UNAVAILABLE (log 24). -/
def Running.result (r : Running) : CipherResult :=
  match r.job, r.material with
  | .transport _ _ serial _, .slot key gen => .transportKey (derivedKey key serial 0#8 gen)
  | .prepare _ _ _ serial tag _ parity, .slotAndTransport key gen working =>
      .prepared (prepare key working serial tag gen parity)
  | .portCheck _ key, _ => .check (checkValue key)
  | .storeCheck key, _ => .check (checkValue key)
  | .importKey _ wrapped, .slot key _ =>
      .imported (Config.decipher key wrapped) (checkValue (Config.decipher key wrapped))
  | _, _ => .failed .keyUnavailable

/-! ### Starting -/

/-- The value and generation of a slot that is ACTIVE and of the kind required (R104, R123). -/
def Slot.available (x : Slot) (kind : KeyKind) : Option (Key × Generation) :=
  match x.content with
  | .active info key => if info.kind = kind then some (key, info.gen) else none
  | _ => none

/-- A rise of the use count, which saturates (R122). -/
def Slot.countUse (x : Slot) : Slot :=
  match x.content with
  | .active info key =>
    { x with content := .active { info with uses := if info.uses = 0xFFFFFFFF#32 then info.uses else info.uses + 1 } key }
  | _ => x

/-- The start checks and the reads of a request's start: the values read and the slot whose use count rises, or the result
of the first check that fails (R104, R123). -/
def State.startCheck (s : State) : CipherJob → Except FailReason (Material × Option SlotId)
  | .transport _ _ _ k =>
    if s.window.isSome && !s.latched then
      match (s.slot k).available .transportBase with
      | some (key, gen) => .ok (.slot key gen, some k)
      | none => .error .keyUnavailable
    else .error .windowClosed
  | .prepare b a _ _ _ k _ =>
    if s.window.isSome && !s.latched then
      match (s.slot k).available .base, s.cipher.holder b a with
      | some (key, gen), some working => .ok (.slotAndTransport key gen working, some k)
      | _, _ => .error .keyUnavailable
    else .error .windowClosed
  | .portCheck _ _ => .ok (.none, none)
  | .storeCheck _ => .ok (.none, none)
  | .importKey k _ =>
    match (s.slot k).available .transfer with
    | some (key, gen) => .ok (.slot key gen, none)
    | none => .error .keyUnavailable

/-- The outcome of the engine's choice (R103, R104). -/
inductive Take where
  /-- The engine is busy, or no request is queued. -/
  | nothing
  /-- A request has become running and goes on to its completion. -/
  | started (s : State)
  /-- A request has become running and its start checks end it at once. -/
  | ended (r : Running) (reason : FailReason) (s : State)

/-- A request taken from the queue becomes running; it keeps its place (R100, R103). -/
def Cipher.run (c : Cipher) (r : CipherRequest) (x : Running) : Cipher :=
  { c with queue := c.queue.erase r, running := some x }

/-- The use count of the slot read rises at a start that passes its checks (R104, R122). -/
def State.countUse (s : State) : Option SlotId → State
  | some k => s.setSlot k (s.slot k).countUse
  | none => s

/-- The engine, if free, takes its next request and makes the start checks (R103, R104). -/
def State.engineTake (s : State) : Take :=
  match s.cipher.running, s.cipher.choice with
  | none, some r =>
    match s.startCheck r.job with
    | .error reason =>
      let x : Running := { job := r.job, urgent := r.urgent, withdrawn := false, material := .none }
      .ended x reason { s with cipher := s.cipher.run r x }
    | .ok (material, used) =>
      let x : Running := { job := r.job, urgent := r.urgent, withdrawn := false, material := material }
      .started { s.countUse used with cipher := s.cipher.run r x }
  | _, _ => .nothing

/-- The end of the running request: its values are erased, its place is freed and the waiting list is examined (R105). -/
def State.freeEngine (s : State) : State := { s with cipher := { s.cipher with running := none }.examine }

end Sys2Proof.Machine
end

