-- ==== Sys2Proof/Machine/Profile.lean ====
section
/-! DEFINITION. The profile table: the match test and lookup (R86, R87), the in-use lock (R88), and what the table does
with its five requests (R90 to R95). -/

namespace Sys2Proof.Machine

/-- The profile a context is loaded under, read from its entry as the entry stands (R85). -/
def State.profileOf (s : State) (c : Context) : Option Profile := c.entry.bind (fun e => (s.entry e).profile)

/-- The match test on the mask and value as stored (R86). -/
def Profile.matches (p : Profile) (serial : Serial) : Bool := (serial &&& p.mask) == p.value

/-- The priority with which an entry is a candidate for a serial: it is ENABLED and matches (R87, step 1). -/
def Entry.candidate (serial : Serial) : Entry → Option Nat
  | .stored true p => if p.matches serial then some p.priority.toNat else none
  | _ => none

/-- One entry against the best candidate so far: a greater priority replaces it, an equal one does not, so the lowest entry
number of the greatest priority stays (R87, step 3). -/
def betterCandidate (s : State) (serial : Serial) (best : Option (EntryId × Nat)) (e : EntryId) : Option (EntryId × Nat) :=
  match (s.entry e).candidate serial, best with
  | none, _ => best
  | some n, none => some (e, n)
  | some n, some (_, m) => if m < n then some (e, n) else best

/-- The entry for a serial, or no entry (R87). -/
def State.lookup (s : State) (serial : Serial) : Option EntryId :=
  ((List.finRange 24).foldl (betterCandidate s serial) none).map (·.1)

/-- A context holds its profile entry in use: it is in a phase other than DONE, or came to DONE only in the stop of its batch,
which the lock spans (R88; log 39). -/
def Context.holdsEntry (c : Context) : Bool := c.phase != .done || c.heldInStop

/-- An entry is in use while a context in any bay has it as its profile entry and holds it (R88). -/
def State.inUse (s : State) (e : EntryId) : Bool :=
  s.bays.any (fun x => x.contexts.any (fun c => c.entry == some e && c.holdsEntry))

/-- The slots an entry names: its transport base slot and the base slots of its DERIVE descriptors (R97). -/
def Profile.namesSlot (p : Profile) (k : SlotId) : Bool :=
  p.transportSlot == k || p.keySet.any (fun d => d.action == .derive k)

/-- The profile table's answer to the key store: an entry in use names the slot (R97). -/
def State.slotHeld (s : State) (k : SlotId) : Bool :=
  (List.finRange 24).any (fun e =>
    s.inUse e && (match (s.entry e).profile with | some p => p.namesSlot k | none => false))

/-- A stored descriptor in a reply: tag, action, base slot (R185). -/
def Descriptor.bytes (d : Descriptor) : List Byte := [d.tag, d.action.code, d.action.slotByte]

/-- The contents of a PROFILE_READ or PROFILE_WRITE reply; every field of an EMPTY entry is zero (R92, R185, R187). -/
def State.entryReply (s : State) (e : EntryId) : List Byte :=
  let x := s.entry e
  [finByte e, x.code, boolByte (s.inUse e)] ++
    match x.profile with
    | some p =>
      [p.priority] ++ wordBytes 8 p.mask ++ wordBytes 8 p.value ++
        [finByte p.transportSlot, p.parity.code, boolByte p.ahead] ++ wordBytes 8 p.label ++
        [natByte p.keySet.length] ++ (p.keySet.map Descriptor.bytes).flatten
    | none => List.replicate 29 0x00#8

/-- The priority as stored: 0 as 1, above 15 as 15 (R91). -/
def clampPriority (p : Byte) : Byte := if p = 0#8 then 1#8 else if 15 < p.toNat then 15#8 else p

/-- The profile as stored: its priority clamped, its value masked (R91). -/
def Profile.stored (p : Profile) : Profile :=
  { p with priority := clampPriority p.priority, value := p.value &&& p.mask }

/-- The state a write leaves: kept, or DISABLED if the entry was EMPTY (R82, R91). -/
def Entry.enabled : Entry → Bool
  | .stored on _ => on
  | .empty => false

/-- The entry with its state ENABLED or DISABLED; an EMPTY entry stays EMPTY (R93, R94). -/
def Entry.setEnabled (on : Bool) : Entry → Entry
  | .stored _ p => .stored on p
  | .empty => .empty

/-- PROFILE_WRITE (R90, R91). -/
def State.takeProfileWrite (args : List Byte) (s : State) : State :=
  match readProfileWrite args with
  | none => s.answer .badArgument []
  | some (e, p) =>
    if s.inUse e then s.answer .inUse []
    else
      let s1 := s.setEntry e (.stored (s.entry e).enabled p.stored)
      s1.answer .ok (s1.entryReply e)

/-- PROFILE_READ (R92). -/
def State.takeProfileRead (args : List Byte) (s : State) : State :=
  match readEntry args with
  | none => s.answer .badArgument []
  | some e => s.answer .ok (s.entryReply e)

/-- PROFILE_ENABLE (R93). -/
def State.takeProfileEnable (args : List Byte) (s : State) : State :=
  match readEntry args with
  | none => s.answer .badArgument []
  | some e =>
    let x := (s.entry e).setEnabled true
    (s.setEntry e x).answer .ok [x.code]

/-- PROFILE_DISABLE (R94). -/
def State.takeProfileDisable (args : List Byte) (s : State) : State :=
  match readEntry args with
  | none => s.answer .badArgument []
  | some e =>
    let x := (s.entry e).setEnabled false
    (s.setEntry e x).answer .ok [x.code]

/-- PROFILE_CLEAR (R95). -/
def State.takeProfileClear (args : List Byte) (s : State) : State :=
  match readEntry args with
  | none => s.answer .badArgument []
  | some e => if s.inUse e then s.answer .inUse [] else (s.setEntry e .empty).answer .ok []

end Sys2Proof.Machine
end

