-- ==== Sys2Proof/Machine/Report.lean ====
section
/-! DEFINITION. The report queue's waiting list (R154), the TERMINAL and BATCH_END records as the bays hand them over
(R157, R158), and the requests RECORDS_FETCH (R155), TIME_SET (R160) and STATUS (R164). -/

namespace Sys2Proof.Machine

/-! ### Records handed over -/

/-- The positions of a TERMINAL record: one entry per key-set position when a profile entry is present (R20, R157). -/
def Context.positions (c : Context) (p : Option Profile) : List PositionEntry :=
  match p with
  | none => []
  | some p => p.keySet.zipIdx.map
      (fun x => { tag := x.1.tag, action := x.1.action, confirmed := (c.confirmed[x.2]?).join })

/-- The contents of the TERMINAL record of a context whose outcome is decided now (R157). -/
def State.terminalRecord (s : State) (b : BayId) (c : Context) (v : Verdict) : TerminalRecord :=
  let x := s.bay b
  { bay := b, batch := x.batch.number, addr := c.addr, serial := c.serial, entry := c.entry, outcome := v,
    rate := x.batch.inUse, attemptsTotal := c.attemptsTotal, positions := c.positions (s.profileOf c) }

/-- The list state of a context (R26). -/
def Context.listState (c : Context) : ListState :=
  match c.outcome with
  | some .loaded => .loaded
  | some (.failed _) => .failed
  | some .unknown => .abandoned
  | none => if c.commitSent then .indeterminate else .abandoned

/-- The BATCH_END list: the contexts whose record is not appended, in address order (R26, step 3). -/
def endList (contexts : List Context) : List ListEntry :=
  (contexts.filter (fun c => !c.recordAppended)).map
    (fun c => { addr := c.addr, serial := c.serial, state := c.listState })

/-- The contents of a BATCH_END record (R158). -/
def batchEndRecord (b : BayId) (x : BatchRecord) (cause : StopCause) (list : List ListEntry) : BatchEndRecord :=
  { bay := b, batch := x.number, cause := cause, requested := x.requested, inUse := x.inUse, expected := x.expected,
    enrolled := x.enrolled, loaded := x.loaded, failed := x.failed, unknown := x.unknown, list := list }

/-! ### Appending and waiting -/

/-- The bay is told that a context's record is in the queue (R20, R154). -/
def State.markAppended (b : BayId) (a : Addr) (s : State) : State :=
  s.updBay b (fun x => x.updCtx a (fun c => { c with recordAppended := true }))

/-- A TERMINAL append: made if the room test passes and no append waits, and otherwise it waits (R153, R154). -/
def State.requestAppend (b : BayId) (a : Addr) (r : TerminalRecord) (s : State) : State :=
  if s.room && s.report.waiting.isEmpty then (s.appendRecord (.terminal r)).markAppended b a
  else { s with report := { s.report with waiting := s.report.waiting ++ [{ bay := b, addr := a, record := r }] } }

/-- Waiting appends admitted from the head of the list while the room test passes (R154). -/
def State.admitWaiting : (waiting : List WaitingAppend) → State → State
  | [], s => s
  | w :: rest, s =>
    if s.room then
      State.admitWaiting rest
        (({ s with report := { s.report with waiting := rest } }.appendRecord (.terminal w.record)).markAppended
          w.bay w.addr)
    else s

/-- The waiting appends of a bay withdrawn at its early stop (R26, step 2; R154). -/
def State.withdrawAppends (b : BayId) (s : State) : State :=
  { s with report := { s.report with waiting := s.report.waiting.filter (fun w => w.bay != b) } }

/-! ### Requests -/

/-- The count RECORDS_FETCH asks for, adjusted: 0 as 1, above 8 as 8 (R155). -/
def fetchCount (n : Nat) : Nat := if n = 0 then 1 else if 8 < n then 8 else n

/-- The records a fetch of `n` returns (R155, step 1). -/
def State.fetched (s : State) (n : Nat) : List Record := s.report.records.take (fetchCount n)

/-- RECORDS_FETCH, but for the DISMISSes its admissions cause the bays to send (R155). -/
def State.takeRecordsFetch (args : List Byte) (s : State) : State :=
  match readCount args with
  | none => s.answer .badArgument []
  | some n =>
    let out := s.fetched n
    let s1 := s.setRecords (s.report.records.drop (fetchCount n))
    (s1.admitWaiting s.report.waiting).answer .ok (natByte out.length :: (out.map Record.bytes).flatten)

/-- TIME_SET (R160). -/
def State.takeTimeSet (args : List Byte) (s : State) : State :=
  match readSeconds args with
  | none => s.answer .badArgument []
  | some v => { s with clock := v }.answer .ok (wordBytes 4 s.clock ++ wordBytes 4 v)

/-- A bay in the STATUS reply: its state and, in FAULT, its fault reason (R164, R185). -/
def Bay.statusBytes (x : Bay) : List Byte :=
  [x.state.code, match x.state, x.faultReason with | .fault, some r => r.code | _, _ => 0x00#8]

/-- The contents of the STATUS reply (R164, R185). -/
def State.statusReply (s : State) : List Byte :=
  [boolByte s.latched, s.enclosure.failed.toByte, boolByte s.window.isSome] ++ beBytes 2 (s.window.getD 0) ++
    wordBytes 4 s.clock ++ (s.bays.toList.map Bay.statusBytes).flatten ++
    [natByte s.report.records.length, natByte s.running, natByte s.report.waiting.length, s.portA.state.code,
      s.portB.state.code, s.notice.flags.toByte]

/-- STATUS: the reply is built, every flag is lowered, the machine is ARMED, and a notice not yet begun is withdrawn
(R164). -/
def State.takeStatus (args : List Byte) (s : State) : State :=
  match args with
  | [] =>
    { s with
      notice := { flags := noFlags, armed := true }
      link := { s.link with noticeWanted := false } }.answer .ok s.statusReply
  | _ => s.answer .badArgument []

end Sys2Proof.Machine
end

