-- ==== Sys2Proof/Machine/Bay.lean ====
section
/-! DEFINITION. The bay controller at work: deciding an outcome (R6), the terminal in hand (R15 to R17), prepare-ahead
(R23), the frame next sent (R7), the end of the roll phase and of the batch (R12, R13, R25), the steps of an early stop
(R26), and the round of internal work after an event. -/

namespace Sys2Proof.Machine

/-! ### Result buffers -/

/-- The context and position a buffer is bound to (R23). -/
def Buffer.owner : Buffer → Option (Addr × Nat)
  | .free => none
  | .reserved a pos => some (a, pos)
  | .holds a pos _ => some (a, pos)

/-- The result held for a context and position (R17). -/
def Bay.result (x : Bay) (a : Addr) (pos : Nat) : Option Prepared :=
  x.buffers.findSome? (fun f => match f with
    | .holds a' pos' r => if a' = a ∧ pos' = pos then some r else none
    | _ => none)

/-- A buffer is free (R23). -/
def Bay.hasFreeBuffer (x : Bay) : Bool := x.buffers.contains .free

/-- A position holds a result or has a PREPARE outstanding, so a buffer is bound to it (R23). -/
def Bay.bufferBound (x : Bay) (a : Addr) (pos : Nat) : Bool := x.buffers.any (fun f => f.owner == some (a, pos))

/-- The first free buffer reserved for a context and position (R23). -/
def reserveBuffer (a : Addr) (pos : Nat) : List Buffer → List Buffer
  | [] => []
  | .free :: rest => .reserved a pos :: rest
  | f :: rest => f :: reserveBuffer a pos rest

/-- A PREPARE result placed in its reserved buffer (R111). -/
def Bay.fillBuffer (x : Bay) (a : Addr) (pos : Nat) (r : Prepared) : Bay :=
  { x with buffers := x.buffers.map (fun f => if f = .reserved a pos then .holds a pos r else f) }

/-- Emptying the buffers that satisfy a test. -/
def Bay.freeBuffers (x : Bay) (p : Addr × Nat → Bool) : Bay :=
  { x with buffers := x.buffers.map (fun f => match f.owner with | some o => if p o then .free else f | none => f) }

/-- Reservations freed when their PREPAREs are withdrawn; results held stay (R26, R106). -/
def Bay.freeReservations (x : Bay) : Bay :=
  { x with buffers := x.buffers.map (fun f => match f with | .reserved _ _ => .free | f => f) }

/-! ### The decision of an outcome -/

/-- The matching count of the batch record (R6). -/
def BatchRecord.count (v : Verdict) (x : BatchRecord) : BatchRecord :=
  match v with
  | .loaded => { x with loaded := x.loaded + 1 }
  | .failed _ => { x with failed := x.failed + 1 }
  | .unknown => { x with unknown := x.unknown + 1 }

/-- What a decision changes in the bay: phase, outcome, count, terminal in hand, result buffers (R6). -/
def Bay.decided (a : Addr) (v : Verdict) (x : Bay) : Bay :=
  let x1 := (x.updCtx a (fun c => { c with phase := .reportWait, outcome := some v })).freeBuffers (fun o => o.1 == a)
  { x1 with
    batch := { x.batch.count v with hand := if x.batch.hand = some a then none else x.batch.hand }
    resendAt := if x.batch.hand = some a then none else x.resendAt }

/-- What a decision changes in the cipher unit: the context's key is erased and its requests are withdrawn (R6). -/
def Cipher.dropContext (b : BayId) (a : Addr) (c : Cipher) : Cipher :=
  (c.setHolder b a none).withdraw (fun j => j.context == some (b, a))

/-- An outcome is decided, once; its TERMINAL append is asked for, but in STOPPING none is (R6, R20, R26). -/
def State.decideOutcome (b : BayId) (a : Addr) (v : Verdict) (s : State) : State :=
  match (s.bay b).ctx a with
  | none => s
  | some c =>
    if c.outcome.isSome then s
    else
      let r := s.terminalRecord b c v
      let s1 := s.updBay b (Bay.decided a v)
      let s2 : State := { s1 with cipher := s1.cipher.dropContext b a }
      if (s.bay b).state = .stopping then s2 else s2.requestAppend b a r

/-! ### The terminal in hand -/

/-- The context of lowest line address that is ENROLLED and undecided (R15). -/
def Bay.nextToLoad (x : Bay) : Option Context :=
  x.contexts.find? (fun c => c.phase == .enrolled && c.outcome.isNone)

/-- Taking the next terminal in hand when none is (R15). -/
def Bay.takeInHand (x : Bay) : Bay :=
  match x.batch.hand, x.nextToLoad with
  | none, some c =>
    { x.updCtx c.addr (fun c => { c with phase := .transport }) with batch := { x.batch with hand := some c.addr } }
  | _, _ => x

/-- The context in hand. -/
def Bay.handCtx (x : Bay) : Option Context := x.batch.hand.bind x.ctx

/-- Positions of a key set numbered from 1. -/
def Profile.numbered (p : Profile) : List (Descriptor × Nat) := p.keySet.zipIdx 1

/-- The first DERIVE position not confirmed, at or after the position index (R17). -/
def Context.nextPosition (c : Context) (p : Profile) : Option (Descriptor × Nat) :=
  p.numbered.find? (fun x => decide (c.posIndex ≤ x.2) && x.1.derives && ((c.confirmed[x.2 - 1]?).join).isNone)

/-- Placing the PREPARE of a position, with a buffer reserved for it (R17, R23, R99). -/
def State.placePrepare (b : BayId) (c : Context) (p : Profile) (d : Descriptor) (pos : Nat) (urgent : Bool)
    (s : State) : State :=
  match d.action with
  | .keep => s
  | .derive slot =>
    let s1 := s.updBay b (fun x => { x with buffers := reserveBuffer c.addr pos x.buffers })
    { s1 with cipher := s1.cipher.place (.prepare b c.addr pos c.serial d.tag slot p.parity) urgent }

/-- Placing the TRANSPORT of a context (R16, R23, R99). -/
def State.placeTransport (b : BayId) (c : Context) (p : Profile) (urgent : Bool) (s : State) : State :=
  { s with cipher := s.cipher.place (.transport b c.addr c.serial p.transportSlot) urgent }

/-- TRANSPORT: with the working transport key held the context passes on to LOADING; otherwise its TRANSPORT request is
raised to URGENT, or placed URGENT (R16, R102). -/
def State.workTransport (b : BayId) (s : State) : State :=
  match (s.bay b).handCtx with
  | none => s
  | some c =>
    if c.phase ≠ .transport then s
    else if (s.cipher.holder b c.addr).isSome then
      s.updBay b (fun x => x.updCtx c.addr
        (fun c => { c with phase := .loading, posIndex := 1, attempts := 0, deferrals := 0 }))
    else if s.cipher.outstanding (CipherJob.isTransportFor b c.addr) then
      { s with cipher := s.cipher.raise (CipherJob.isTransportFor b c.addr) }
    else
      match s.profileOf c with
      | some p => s.placeTransport b c p true
      | none => s

/-- LOADING: KEEP positions are passed over; a DERIVE position without a result has its PREPARE raised to URGENT or placed
URGENT; past the last position the context enters COMMITTING (R17, R19). -/
def State.workLoading (b : BayId) (s : State) : State :=
  match (s.bay b).handCtx with
  | none => s
  | some c =>
    if c.phase ≠ .loading then s
    else
      match s.profileOf c with
      | none => s
      | some p =>
        match c.nextPosition p with
        | none =>
          s.updBay b (fun x => x.updCtx c.addr (fun c => { c with phase := .committing, attempts := 0, deferrals := 0 }))
        | some (d, pos) =>
          let s1 := s.updBay b (fun x => x.updCtx c.addr (fun c => { c with posIndex := pos }))
          if ((s1.bay b).result c.addr pos).isSome then s1
          else if s1.cipher.outstanding (CipherJob.isPrepareFor b c.addr pos) then
            { s1 with cipher := s1.cipher.raise (CipherJob.isPrepareFor b c.addr pos) }
          else if (s1.bay b).hasFreeBuffer then s1.placePrepare b c p d pos true
          else s1

/-! ### Prepare-ahead -/

/-- The next DERIVE position of a context that is neither confirmed nor prepared nor outstanding (R23, step 1). -/
def Bay.unprepared (x : Bay) (c : Context) (p : Profile) : Option (Descriptor × Nat) :=
  p.numbered.find? (fun y =>
    y.1.derives && ((c.confirmed[y.2 - 1]?).join).isNone && !x.bufferBound c.addr y.2)

/-- The context prepare-ahead serves next: the lowest address above the terminal in hand that is ENROLLED and undecided
(R23, step 2). -/
def Bay.nextAhead (x : Bay) (hand : Addr) : Option Context :=
  x.contexts.find? (fun c => decide (hand < c.addr) && c.phase == .enrolled && c.outcome.isNone)

/-- Prepare-ahead for the next context: its TRANSPORT, and once its key is held the PREPARE of its first DERIVE position
(R23, steps 2 and 3). -/
def State.aheadNext (b : BayId) (c : Context) (s : State) : State :=
  match s.profileOf c with
  | none => s
  | some p =>
    if (s.cipher.holder b c.addr).isNone then
      if s.cipher.outstanding (CipherJob.isTransportFor b c.addr) then s else s.placeTransport b c p false
    else
      match p.numbered.find? (fun y => y.1.derives) with
      | none => s
      | some (d, pos) =>
        if (s.bay b).bufferBound c.addr pos || !(s.bay b).hasFreeBuffer then s else s.placePrepare b c p d pos false

/-- One placement of prepare-ahead, while fewer than 2 requests are outstanding and the profile of the terminal in hand has
it ON (R23). A PREPARE is placed only for a context whose working transport key is held (R99). -/
def State.aheadOnce (b : BayId) (s : State) : State :=
  match (s.bay b).handCtx with
  | none => s
  | some c =>
    match s.profileOf c with
    | none => s
    | some p =>
      if p.ahead && decide (s.cipher.outstandingOf b < 2) then
        match (s.bay b).unprepared c p with
        | some (d, pos) =>
          if (s.cipher.holder b c.addr).isSome && (s.bay b).hasFreeBuffer then s.placePrepare b c p d pos false else s
        | none =>
          match (s.bay b).nextAhead c.addr with
          | some next => s.aheadNext b next
          | none => s
      else s

/-! ### The frame next sent -/

/-- The line address of a context in a header (R33). -/
def addrNumber (a : Addr) : Nat := a.val + 1

/-- A frame with no body to a context (R34). -/
def bareFrame (k : FrameKind) (a : Addr) : LineFrame := { kind := k, addr := addrNumber a, body := [] }

/-- A KEY frame: position tag, generation, wrapped key (R34, R185). -/
def keyFrame (a : Addr) (r : Prepared) : LineFrame :=
  { kind := .key, addr := addrNumber a, body := [r.tag] ++ wordBytes 2 r.gen ++ wordBytes 16 r.wrapped }

/-- A COMMIT frame: the position count, then the tag and the generation sent of every DERIVE position in list order (R19,
R34). -/
def commitFrame (c : Context) (p : Profile) : LineFrame :=
  let list := p.numbered.filter (fun x => x.1.derives)
  { kind := .commit, addr := addrNumber c.addr,
    body := natByte list.length ::
      (list.map (fun x => [x.1.tag] ++ wordBytes 2 (((c.confirmed[x.2 - 1]?).join).elim 0 (·.gen)))).flatten }

/-- An ENROL frame: the serial and the address offered (R34). -/
def enrolFrame (serial : Serial) (a : Addr) : LineFrame :=
  { kind := .enrol, addr := 0, body := wordBytes 8 serial ++ [finByte a] }

/-- The batch's own next frame, if it is due (R7, step 3). -/
def State.batchFrame (b : BayId) (s : State) : Option LineFrame :=
  let x := s.bay b
  match x.state with
  | .rolling =>
    if x.rollOver then none
    else
      match x.roll with
      | .rollCall none => some { kind := .rollCall, addr := 0, body := [] }
      | .enrol serial _ a _ none => some (enrolFrame serial a)
      | _ => none
  | .loading =>
    if x.rateOwed then some { kind := .rate, addr := 0, body := [Rate.code .fast] }
    else
      match x.handCtx with
      | none => none
      | some c =>
        if x.resendAt.isSome then none
        else
          match c.phase with
          | .loading => (x.result c.addr c.posIndex).map (keyFrame c.addr)
          | .committing => (s.profileOf c).map (commitFrame c)
          | _ => none
  | _ => none

/-- A POLL due to any context, lowest address first (R7, step 1). -/
def Bay.pollFrame (x : Bay) : Option LineFrame :=
  (x.contexts.find? (fun c => c.pollDue && c.phase != .done)).map (fun c => bareFrame .poll c.addr)

/-- A DISMISS owed to a context whose record is appended, lowest address first (R7, step 2; R20). -/
def Bay.dismissFrame (x : Bay) : Option LineFrame :=
  (x.contexts.find? (fun c => c.phase == .reportWait && c.recordAppended)).map (fun c => bareFrame .dismiss c.addr)

/-- The first frame due in the order of R7; in ROLLING and LOADING only. -/
def State.nextFrame (b : BayId) (s : State) : Option LineFrame :=
  match (s.bay b).state with
  | .rolling | .loading =>
    match (s.bay b).pollFrame with
    | some f => some f
    | none =>
      match (s.bay b).dismissFrame with
      | some f => some f
      | none => s.batchFrame b
  | _ => none

/-- The context a frame is addressed to (R33). -/
def LineFrame.to (f : LineFrame) : Option Addr :=
  if h : 1 ≤ f.addr ∧ f.addr ≤ 4 then some ⟨f.addr - 1, by omega⟩ else none

/-- What sending a frame to a context changes in it: the last-addressed time, the POLL due, and for KEY and COMMIT the
attempts total (R5, R17, R19, R22). -/
def Context.addressed (now : Nat) (k : FrameKind) (c : Context) : Context :=
  { c with
    lastAddressed := now
    pollDue := false
    attemptsTotal := match k with | .key | .commit => c.attemptsTotal + 1 | _ => c.attemptsTotal }

/-- The frame start of a frame begins (R7, R33). -/
def Bay.send (now : Nat) (f : LineFrame) (x : Bay) : Bay :=
  let x1 := { x with line := x.line.transmit (.frame f x.line.rate now false) now }
  let x2 := match f.to with | some a => x1.updCtx a (Context.addressed now f.kind) | none => x1
  if f.kind = .rate then { x2 with rateOwed := false } else x2

/-- The line is free and the controller sends what is due (R7). -/
def State.sendNext (b : BayId) (s : State) : State :=
  let l := (s.bay b).line
  if l.tx = .idle ∧ l.free = true ∧ l.loopback = false then
    match s.nextFrame b with
    | some f => s.updBay b (Bay.send s.time f)
    | none => s
  else s

/-! ### The ends of the roll phase and of the batch -/

/-- The record and table after a batch, and the bay's next state (R25, R26). -/
def Bay.endBatch (next : BayState) (x : Bay) : Bay :=
  { x with
    state := next
    batch := { x.batch with hand := none }
    contexts := []
    buffers := [.free, .free]
    line := { x.line with rate := .standard }
    roll := .none
    rollOver := false
    rateOwed := false
    resendAt := none }

/-- The normal end of a batch: stop cause COMPLETE, BATCH_END with an empty list, READY (R13, R25). -/
def State.normalEnd (b : BayId) (s : State) : State :=
  let s1 := s.appendRecord (.batchEnd (batchEndRecord b (s.bay b).batch .complete []))
  let s2 := s1.updBay b (fun x =>
    { x.endBatch .ready with batch := { x.batch with hand := none, stopCause := some .complete } })
  { s2 with cipher := s2.cipher.emptyHolders b }

/-- Every context is DONE; true of an empty table (R13, R25). -/
def Bay.allDone (x : Bay) : Bool := x.contexts.all (fun c => c.phase == .done)

/-- The rate decision; it closes the roll phase of a bay in ROLLING (R13). -/
def State.rateDecision (b : BayId) (s : State) : State :=
  let x := s.bay b
  if x.state ≠ .rolling then s
  else if x.allDone then s.normalEnd b
  else
    let fast := x.batch.requested == .fast && x.contexts.all (fun c => c.fastCapable)
    s.setBay b
      { x with
        state := .loading, roll := .none, rollOver := false, rateOwed := fast
        batch := { x.batch with inUse := if fast then .fast else .standard } }

/-- A ROLL_CALL or ENROL is in flight (R12). -/
def Bay.rollInFlight (x : Bay) : Bool :=
  match x.line.tx with
  | .frame f _ _ _ => f.kind == .rollCall || f.kind == .enrol
  | _ => false

/-- The end of the roll phase: at once to the rate decision, or after the ROLL_CALL or ENROL in flight (R12). -/
def State.endRoll (b : BayId) (s : State) : State :=
  if (s.bay b).rollInFlight then s.updBay b (fun x => { x with rollOver := true }) else s.rateDecision b

/-! ### Internal work -/

/-- LOADING: the terminal in hand is taken and worked, and prepare-ahead is topped up to two requests (R15 to R17, R23). -/
def State.workHand (b : BayId) (s : State) : State :=
  let s1 := s.updBay b Bay.takeInHand
  let s2 := (s1.workTransport b).workLoading b
  (s2.aheadOnce b).aheadOnce b

/-- A bay controller goes on as far as it can: in LOADING it ends the batch when every context is DONE (R25), and otherwise
works the terminal in hand; then it sends the frame due (R7). -/
def State.advance (b : BayId) (s : State) : State :=
  match (s.bay b).state with
  | .rolling => s.sendNext b
  | .loading => if (s.bay b).allDone then s.normalEnd b else (s.workHand b).sendNext b
  | _ => s

/-- A request that its start checks end, handed over: a bay's context fails with the reason (R21). An IMPORT cannot fail its
start in any run (R104); where a state makes it fail, KEY_IMPORT is answered KEY_UNAVAILABLE and stores nothing (log 24). -/
def State.failRequest (job : CipherJob) (reason : FailReason) (s : State) : State :=
  match job with
  | .transport b a _ _ => s.decideOutcome b a (.failed reason)
  | .prepare b a _ _ _ _ _ => s.decideOutcome b a (.failed reason)
  | .importKey _ _ => { s with keys := { s.keys with progress := none } }.answer .keyUnavailable []
  | .portCheck _ _ => s
  | .storeCheck _ => s

/-- The rounds of internal work that follow an event: each bay concerned goes on, then the engine takes its next request;
a request that its start checks end fails its context, and the round begins again (R103, R104, log 29). -/
def State.settle : (fuel : Nat) → (todo : List BayId) → State → State
  | 0, _, s => s
  | n + 1, b :: rest, s => State.settle n rest (s.advance b)
  | n + 1, [], s =>
    match s.engineTake with
    | .nothing => s
    | .started s' => s'
    | .ended r reason s' => State.settle n r.job.bay.toList ((s'.failRequest r.job reason).freeEngine)

/-- Internal work after an event that concerns some bays. -/
def State.work (todo : List BayId) (s : State) : State := s.settle Config.settleBound todo

/-! ### Early stops -/

/-- The start of an early stop: the bay enters STOPPING with its cause, its requests and waiting appends are withdrawn (R26,
steps 1 and 2). A fault reason already recorded stays. -/
def State.beginStop (b : BayId) (cause : StopCause) (reason : Option FaultReason) (s : State) : State :=
  let s1 := s.updBay b (fun x =>
    { x.freeReservations with
      state := .stopping
      batch := { x.batch with stopCause := some cause }
      faultReason := x.faultReason.or reason })
  let s2 := s1.withdrawAppends b
  { s2 with cipher := s2.cipher.withdraw (fun j => j.bay == some b) }

/-- The supply is removed (R72). -/
def Bay.unpower (x : Bay) : Bay :=
  { x with supply := false, line := x.line.unpowered, limitAt := none }

/-- Entry to OFF: the supply is removed, which from FAULT with a power reason it already is, so that its line stays as it is; and
the fault reason is cleared (R72, R74, R79 to R81). -/
def Bay.toOff (x : Bay) : Bay :=
  { (if x.supply then x.unpower else x) with state := .off, faultReason := none, tamperOff := false, limitAt := none }

/-- Entry to FAULT with a reason; with a power reason the supply is removed (R72). -/
def Bay.toFault (reason : FaultReason) (x : Bay) : Bay :=
  match reason with
  | .overCurrent | .powerTimeout => { x.unpower with state := .fault, faultReason := some reason, tamperOff := false }
  | _ => { x with state := .fault, faultReason := some reason }

/-- Entry to FAULT raises BAY_FAULT (R161). -/
def State.enterFault (b : BayId) (reason : FaultReason) (s : State) : State :=
  (s.updBay b (Bay.toFault reason)).raise .bayFault

/-- The bay has reached its resulting state: the BAY_RESET that waits for it is answered with that state (R28, R179). -/
def State.replyReset (b : BayId) (s : State) : State :=
  match (s.bay b).resetReply with
  | some code =>
    (s.updBay b (fun x => { x with resetReply := none })).answer code [(s.bay b).state.code]
  | none => s

/-- The state a stop ends in, by its cause and by the fault reason recorded (R27 to R31). -/
def State.afterStop (b : BayId) (cause : StopCause) (s : State) : State :=
  match cause with
  | .restart | .tamper => s.updBay b Bay.toOff
  | .powerFault => s.enterFault b .overCurrent
  | .complete | .aborted | .reset | .lineFault =>
    match (s.bay b).faultReason with
    | some reason => s.enterFault b reason
    | none => s

/-- The last step of an early stop: BATCH_END with the list, the table and buffers cleared, the bay in the state its cause
gives (R26, steps 3 and 5; log 30). -/
def State.finishStop (b : BayId) (s : State) : State :=
  let x := s.bay b
  let cause := x.batch.stopCause.getD .aborted
  let s1 := s.appendRecord (.batchEnd (batchEndRecord b x.batch cause (endList x.contexts)))
  let s2 := s1.updBay b (Bay.endBatch .ready)
  let s3 : State := { s2 with cipher := s2.cipher.emptyHolders b }
  (s3.afterStop b cause).replyReset b

/-- A line reset is owed by a stop, unless its cause is RESTART or a power fault, or the fault recorded is LINE_HELD_ACTIVE
(R26, step 4; log 17). -/
def Bay.owesReset (x : Bay) : Bool :=
  match x.batch.stopCause with
  | some .restart | some .powerFault => false
  | _ => x.faultReason != some .lineHeldActive

/-- The stop goes on once the frame in flight has ended or been cut: the line reset, or the end at once (R26, step 4). -/
def State.proceedStop (b : BayId) (s : State) : State :=
  if (s.bay b).owesReset then s.updBay b (fun x => { x with line := x.line.startReset s.time }) else s.finishStop b

/-- In STOPPING, the frame in flight has ended: the stop goes on (R27). -/
def State.continueStop (b : BayId) (s : State) : State :=
  if (s.bay b).state = .stopping then s.proceedStop b else s

/-- A stop that cuts the frame in flight; a line reset already running runs on (R28, R31). -/
def State.cutAndStop (b : BayId) (s : State) : State :=
  match (s.bay b).line.tx with
  | .reset _ => s
  | _ => (s.updBay b (fun x => { x with line := x.line.cut s.time })).proceedStop b

end Sys2Proof.Machine
end

