-- ==== Sys2Proof/Machine/Dialogue.lean ====
section
/-! DEFINITION. What a bay controller does with the reports of its line end: data end passed, frame ended with its answer
(R8 to R11, R18 to R20, R22, R39), and line faults (R29, R69). -/

namespace Sys2Proof.Machine

/-! ### Frame bookkeeping -/

/-- The data end of a frame has passed; for a COMMIT commit sent becomes yes (R19, R39). -/
def Bay.passDataEnd (x : Bay) : Bay :=
  match x.line.tx with
  | .frame f rate sentAt _ =>
    let x1 := { x with line := { x.line with tx := .frame f rate sentAt true } }
    match f.kind, f.to with
    | .commit, some a => x1.updCtx a (fun c => { c with commitSent := true })
    | _, _ => x1
  | _ => x

/-- The frame in flight has ended (R39, R55). -/
def State.frameOver (b : BayId) (s : State) : State := s.updBay b (fun x => { x with line := x.line.ended s.time })

/-- A clean answer or a deferral counts as an answer for the keep-alive (R18, R22). -/
def Answer.answers : Answer → Bool
  | .clean _ => true
  | .deferral => true
  | _ => false

/-- Any answer to a frame addressed to a context sets its poll misses to 0 (R22). -/
def State.noteAnswer (b : BayId) (a : Addr) (ans : Answer) (s : State) : State :=
  if ans.answers then s.updBay b (fun x => x.updCtx a (fun c => { c with pollMisses := 0 })) else s

/-! ### The roll-call phase -/

/-- The two consecutive counters set (R8). -/
def Bay.setRollCounts (empty garbles : Nat) (x : Bay) : Bay :=
  { x with batch := { x.batch with emptyRolls := empty, garbles := garbles } }

/-- The next roll-phase frame set (R8, R9). -/
def Bay.setRoll (r : RollNext) (x : Bay) : Bay := { x with roll := r }

/-- The address R5 offers: the number of contexts plus 1; none when the table is full. -/
def Bay.offer (x : Bay) : Option Addr :=
  if h : x.contexts.length < 4 then some ⟨x.contexts.length, h⟩ else none

/-- The ENROL that follows a clean roll-call answer: at the address the serial's context holds, or at the one R5 offers
(R8 to R10). A known serial announced with another capability keeps the capability its context was created with: R10 names
neither a change nor a keeping of it (log 38). -/
def Bay.enrolFor (serial : Serial) (fast : Bool) (x : Bay) : RollNext :=
  match x.contexts.find? (fun c => c.serial == serial) with
  | some c => .enrol serial c.fastCapable c.addr 0 none
  | none =>
    match x.offer with
    | some a => .enrol serial fast a 0 none
    | none => .none

/-- What follows a roll call: after the end of the roll phase the rate decision, and otherwise the next frame (R8, R12). -/
def State.afterRoll (b : BayId) (next : RollNext) (s : State) : State :=
  if (s.bay b).rollOver then s.rateDecision b else s.updBay b (Bay.setRoll next)

/-- The line fault of the garble limit: in ROLLING the batch ends by R29; in STOPPING the reason is recorded (R11, R29; log
16). No frame is in flight. -/
def State.garbleLimit (b : BayId) (s : State) : State :=
  match (s.bay b).state with
  | .rolling => (s.beginStop b .lineFault (some .echoMismatch)).proceedStop b
  | .stopping => s.updBay b (fun x => { x with faultReason := x.faultReason.or (some .echoMismatch) })
  | _ => s

/-- A roll call answered garbled, or with a capability code not defined (R8, R11; log 20). -/
def State.rollGarbled (b : BayId) (s : State) : State :=
  let n := (s.bay b).batch.garbles + 1
  let s1 := s.updBay b (Bay.setRollCounts 0 n)
  if 4 ≤ n then s1.garbleLimit b
  else if (s.bay b).state = .stopping then s1
  else s1.afterRoll b (.rollCall none)

/-- The outcome of a roll call (R8). -/
def State.rollAnswer (b : BayId) (ans : Answer) (s : State) : State :=
  let stopping := (s.bay b).state == .stopping
  match ans with
  | .clean bytes =>
    match capabilityOfCode (bytes.getD 8 0xFF#8) with
    | none => s.rollGarbled b
    | some fast =>
      let s1 := s.updBay b (Bay.setRollCounts 0 0)
      if stopping then s1 else s1.afterRoll b ((s1.bay b).enrolFor (beWord 64 (bytes.take 8)) fast)
  | .garbled => s.rollGarbled b
  | .deferral =>
    let s1 := s.updBay b (Bay.setRollCounts 0 0)
    if stopping then s1 else s1.afterRoll b (.rollCall (some (s.time + Config.ms 50)))
  | .absent =>
    let n := (s.bay b).batch.emptyRolls + 1
    let s1 := s.updBay b (Bay.setRollCounts n 0)
    if stopping then s1
    else if 2 ≤ n then s1.rateDecision b
    else s1.afterRoll b (.rollCall (some (s.time + Config.ms 200)))
  | .fault _ => s

/-- A context as it is created (R5). -/
def newContext (a : Addr) (serial : Serial) (fast : Bool) (entry : Option EntryId) (positions sentAt : Nat) : Context :=
  { addr := a, serial := serial, fastCapable := fast, entry := entry, phase := .enrolled, outcome := none, posIndex := 1,
    attempts := 0, deferrals := 0, attemptsTotal := 0, confirmed := List.replicate positions none, commitSent := false,
    recordAppended := false, pollMisses := 0, lastAddressed := sentAt, pollDue := false, heldInStop := false }

/-- A context created by an accepted enrolment: enrolled count +1, and the profile lookup at once, unless the batch is being
aborted (R9, R14, R27). With no entry the outcome is UNKNOWN. -/
def State.createContext (b : BayId) (a : Addr) (serial : Serial) (fast : Bool) (sentAt : Nat) (s : State) : State :=
  let stopping := (s.bay b).state == .stopping
  let entry := if stopping then none else s.lookup serial
  let positions := ((entry.bind (fun e => (s.entry e).profile)).map (fun p => p.keySet.length)).getD 0
  let s1 := s.updBay b (fun x =>
    { x with
      contexts := x.contexts ++ [newContext a serial fast entry positions sentAt]
      batch := { x.batch with enrolled := x.batch.enrolled + 1 } })
  if entry.isNone && !stopping then s1.decideOutcome b a .unknown else s1

/-- An ENROL accepted: a new context, or a context refreshed (R9, R10; log 27). -/
def State.enrolAccepted (b : BayId) (a : Addr) (serial : Serial) (fast : Bool) (sentAt : Nat) (s : State) : State :=
  if (s.bay b).contexts.any (fun c => c.serial == serial) then
    s.updBay b (fun x => x.updCtx a (fun c => { c with pollMisses := 0, lastAddressed := sentAt, pollDue := false }))
  else s.createContext b a serial fast sentAt

/-- The answer to an ENROL (R9, R10, R27). -/
def State.enrolAnswer (b : BayId) (sentAt : Nat) (ans : Answer) (s : State) : State :=
  match (s.bay b).roll with
  | .enrol serial fast a failures _ =>
    let stopping := (s.bay b).state == .stopping
    if ans = .clean [TermStatus.code .accept] then
      let s1 := s.enrolAccepted b a serial fast sentAt
      if stopping then s1
      else if 4 ≤ (s1.bay b).contexts.length then s1.rateDecision b
      else s1.afterRoll b (.rollCall none)
    else if stopping then s
    else if failures = 0 then
      s.afterRoll b (.enrol serial fast a 1 (if ans = .deferral then some (s.time + Config.ms 50) else none))
    else s.afterRoll b (.rollCall (some (s.time + Config.ms 2100)))
  | _ => s

/-! ### KEY and COMMIT -/

/-- What the answer to a KEY frame means (R18). -/
inductive KeyJudgement where
  | deferral
  | failure (mismatch : Bool)
  | refused
  | confirmed
deriving DecidableEq, Repr

/-- The answer to a KEY frame judged, in the order of R18's table, against the tag sent and the check value expected. -/
def judgeKey (r : Prepared) : Answer → KeyJudgement
  | .deferral => .deferral
  | .clean bytes =>
    match bytes with
    | [echo, c2, c1, c0, status] =>
      match TermStatus.ofCode status with
      | some .refused => .refused
      | some .ok =>
        if echo ≠ r.tag then .failure false
        else if beWord 24 [c2, c1, c0] ≠ r.check then .failure true
        else .confirmed
      | _ => .failure false
    | _ => .failure false
  | _ => .failure false

/-- What the answer to a COMMIT frame means (R19). -/
inductive CommitJudgement where
  | deferral
  | failure
  | refused
  | committed
deriving DecidableEq, Repr

/-- The answer to a COMMIT frame judged (R19). -/
def judgeCommit : Answer → CommitJudgement
  | .deferral => .deferral
  | .clean [status] =>
    match TermStatus.ofCode status with
    | some .committed => .committed
    | some .refused => .refused
    | _ => .failure
  | _ => .failure

/-- An attempt failure: attempts +1; at 3 the outcome is FAILED, and below 3 the same frame is due at once (R18, R19). -/
def State.attemptFailed (b : BayId) (c : Context) (reason : FailReason) (s : State) : State :=
  let s1 := s.updBay b (fun x => x.updCtx c.addr (fun c => { c with attempts := c.attempts + 1 }))
  if 3 ≤ c.attempts + 1 then s1.decideOutcome b c.addr (.failed reason) else s1

/-- A deferral: deferrals +1; at 6 the outcome is FAILED(NO_ANSWER), and below 6 the same frame is due 50 ms after the
frame end (R18, R19). -/
def State.deferred (b : BayId) (c : Context) (s : State) : State :=
  let s1 := s.updBay b (fun x => x.updCtx c.addr (fun c => { c with deferrals := c.deferrals + 1 }))
  if 6 ≤ c.deferrals + 1 then s1.decideOutcome b c.addr (.failed .noAnswer)
  else s1.updBay b (fun x => { x with resendAt := some (s.time + Config.ms 50) })

/-- A position confirmed: its check value and generation are entered, its buffer is emptied, and attempts and deferrals start
again at 0 (R17, R18). -/
def Bay.confirm (c : Context) (r : Prepared) (x : Bay) : Bay :=
  (x.updCtx c.addr (fun c =>
    { c with
      confirmed := c.confirmed.set (c.posIndex - 1) (some { check := r.check, gen := r.gen })
      attempts := 0
      deferrals := 0 })).freeBuffers (fun o => o == (c.addr, c.posIndex))

/-- The answer to a KEY frame of the terminal in hand; in STOPPING it confirms its position or not, and nothing else (R18,
R27). -/
def State.keyAnswer (b : BayId) (a : Addr) (ans : Answer) (s : State) : State :=
  let x := s.bay b
  match x.ctx a with
  | none => s
  | some c =>
    match x.result a c.posIndex with
    | none => s
    | some r =>
      if x.batch.hand = some a ∧ c.phase = .loading then
        let verdict := judgeKey r ans
        if verdict = .confirmed then s.updBay b (Bay.confirm c r)
        else if x.state = .stopping then s
        else
          match verdict with
          | .deferral => s.deferred b c
          | .failure mismatch => s.attemptFailed b c (if mismatch then .checkMismatch else .noAnswer)
          | .refused => s.decideOutcome b a (.failed .refused)
          | .confirmed => s
      else s

/-- The answer to a COMMIT frame of the terminal in hand; in STOPPING it is judged once (R19, R27). -/
def State.commitAnswer (b : BayId) (a : Addr) (ans : Answer) (s : State) : State :=
  let x := s.bay b
  match x.ctx a with
  | none => s
  | some c =>
    if x.batch.hand = some a ∧ c.phase = .committing then
      match judgeCommit ans with
      | .committed => s.decideOutcome b a .loaded
      | .refused => s.decideOutcome b a (.failed .commitRefused)
      | .deferral => if x.state = .stopping then s else s.deferred b c
      | .failure => if x.state = .stopping then s else s.attemptFailed b c .noAnswer
    else s

/-- The answer to a POLL: silence or a garbled answer is a poll miss; at 2 an undecided context fails LAPSED (R22). -/
def State.pollAnswer (b : BayId) (a : Addr) (ans : Answer) (s : State) : State :=
  if ans.answers then s
  else
    match (s.bay b).ctx a with
    | none => s
    | some c =>
      let s1 := s.updBay b (fun x => x.updCtx a (fun c => { c with pollMisses := min 2 (c.pollMisses + 1) }))
      if 2 ≤ c.pollMisses + 1 then s1.decideOutcome b a (.failed .lapsed) else s1

/-! ### The end of a frame -/

/-- The answer to a bay frame, handled by its kind (R8, R9, R18, R19, R22). -/
def State.frameAnswer (b : BayId) (f : LineFrame) (sentAt : Nat) (ans : Answer) (s : State) : State :=
  match f.kind, f.to with
  | .rollCall, _ => s.rollAnswer b ans
  | .enrol, _ => s.enrolAnswer b sentAt ans
  | .key, some a => (s.noteAnswer b a ans).keyAnswer b a ans
  | .commit, some a => (s.noteAnswer b a ans).commitAnswer b a ans
  | .poll, some a => (s.noteAnswer b a ans).pollAnswer b a ans
  | _, _ => s

/-- A frame that draws no answer has ended: after RATE the line runs at FAST; after DISMISS the context is DONE (R13, R20,
R52). A DISMISS in flight at BATCH_ABORT ends in STOPPING and brings its context to DONE (R27), and the context's profile entry
stays in use until the table is cleared, as R88 says of every entry of a stopping bay (log 39). -/
def State.frameDone (b : BayId) (f : LineFrame) (s : State) : State :=
  match f.kind, f.to with
  | .rate, _ => s.updBay b (fun x => { x with line := { x.line with rate := .fast } })
  | .dismiss, some a => s.updBay b (fun x => x.updCtx a (fun c => { c with phase := .done, heldInStop := x.state == .stopping }))
  | _, _ => s

/-- A line fault on a bay line, by the bay's state (R29, R69, R70). The transmission it was found on is over (R68). -/
def State.bayLineFault (b : BayId) (fault : LineFault) (s : State) : State :=
  let x := s.bay b
  let s1 := s.updBay b (fun x => { x with line := x.line.faulted s.time })
  match x.line.tx with
  | .test _ =>
    (s1.updBay b (fun x => { x with line := { x.line with loopback := false } })).answer .ok [fault.reason.code]
  | .reset _ =>
    let s2 := s1.updBay b (fun x => { x with line := { x.line with rate := .standard, gapRate := .standard } })
    if x.state = .stopping then
      (s2.updBay b (fun x => { x with faultReason := x.faultReason.or (some fault.reason) })).finishStop b
    else if x.tamperOff then (s2.updBay b Bay.toOff).replyReset b
    else (s2.enterFault b fault.reason).replyReset b
  | _ =>
    match x.state with
    | .rolling | .loading => (s1.beginStop b .lineFault (some fault.reason)).proceedStop b
    | .stopping =>
      (s1.updBay b (fun x => { x with faultReason := x.faultReason.or (some fault.reason) })).proceedStop b
    | .ready => s1.enterFault b fault.reason
    | _ => s

/-- The end of a frame that draws an answer: the data end has passed, the answer is judged or the line fault handled, and in
STOPPING the stop goes on (R37, R39). -/
def State.endAnswered (b : BayId) (f : LineFrame) (sentAt : Nat) (ans : Answer) (s : State) : State :=
  match ans with
  | .fault .echoMismatch => s.bayLineFault b .echoMismatch
  | .fault fault => (s.updBay b Bay.passDataEnd).bayLineFault b fault
  | _ => (((s.updBay b Bay.passDataEnd).frameOver b).frameAnswer b f sentAt ans).continueStop b

/-- A frame of a kind in flight on a bay line that draws an answer has ended, the line having shown these periods (R37). -/
def State.frameEnded (kind : FrameKind) (b : BayId) (shown : List Nat) (s : State) : State :=
  match (s.bay b).line.tx, kind.answerLength with
  | .frame f rate sentAt _, some len =>
    if f.kind = kind then (s.endAnswered b f sentAt (judgeAnswer rate len shown)).work [b] else s
  | _, _ => s

/-- A frame of a kind in flight on a bay line that draws no answer has ended (R36, R39). -/
def State.frameRanOut (kind : FrameKind) (b : BayId) (s : State) : State :=
  match (s.bay b).line.tx with
  | .frame f _ _ _ => if f.kind = kind then (((s.frameOver b).frameDone b f).continueStop b).work [b] else s
  | _ => s

/-- The answer limit of a bay frame: the answer is garbled and the frame is over (R38). -/
def State.bayAnswerLimit (b : BayId) (s : State) : State :=
  match (s.bay b).line.tx with
  | .frame f _ sentAt _ => if f.kind.drawsAnswer then (s.endAnswered b f sentAt .garbled).work [b] else s
  | _ => s

/-! ### Line fault reports -/

/-- The held-active watch of a bay line end (R67, R72). -/
def Bay.watched (x : Bay) : Bool :=
  (match x.state with | .ready | .rolling | .loading | .stopping => true | _ => false) &&
    !x.line.loopback && !x.line.tx.sending

/-- A fault the echo monitor declares on a bay line (R65, R66). -/
def State.bayEchoFault (b : BayId) (fault : LineFault) (s : State) : State :=
  if (s.bay b).line.tx.sending then (s.bayLineFault b fault).work [b] else s

/-- A line held active, on a bay line whose watch is armed (R67). -/
def State.bayHeldActive (b : BayId) (s : State) : State :=
  if (s.bay b).watched then (s.bayLineFault b .heldActive).work [b] else s

/-- The minimum gap has run on a bay line (R55). -/
def State.bayLineFree (b : BayId) (s : State) : State :=
  let l := (s.bay b).line
  if l.tx = .idle ∧ l.free = false then
    (s.updBay b (fun x => { x with line := { x.line with free := true } })).work [b]
  else s

/-- The data end of a frame that draws an answer passes on a bay line (R36, R39). -/
def State.bayDataEnd (b : BayId) (s : State) : State :=
  match (s.bay b).line.tx with
  | .frame f _ _ passed => if f.kind.drawsAnswer && !passed then s.updBay b Bay.passDataEnd else s
  | _ => s

end Sys2Proof.Machine
end

