-- ==== Sys2Proof/Machine/Power.lean ====
section
/-! DEFINITION. What a bay controller does with the station's requests (R4, R27, R28, R32, R70, R73, R74), with its power-up
wait (R75, R76), with over-current (R30, R78) and with the ends of its line resets and loopback test (R56, R70). -/

namespace Sys2Proof.Machine

/-! ### Batch requests -/

/-- The bay as an accepted BATCH_START leaves it: the batch record set, the first ROLL_CALL due (R3, R4). -/
def Bay.startBatch (number : Word32) (rate : Rate) (expected : Nat) (x : Bay) : Bay :=
  { x with
    state := .rolling
    batch := { noBatch with number := number, requested := rate, expected := expected }
    roll := .rollCall none
    rollOver := false
    rateOwed := false
    resendAt := none }

/-- BATCH_START taken (R4). -/
def State.takeBatchStart (args : List Byte) (s : State) : State :=
  match readBatchStart args with
  | none => s.answer .badArgument []
  | some (b, rate, expected) =>
    if s.latched then s.answer .tampered []
    else if (s.bay b).state ≠ .ready then s.answer .bayState []
    else if s.window.isNone then s.answer .windowClosed []
    else if s.room then
      let n := nextNumber s.report.batchCounter
      let s1 := s.setCounters { record := s.report.recordCounter, batch := n }
      State.work [b] ((s1.updBay b (Bay.startBatch n rate expected)).answer .ok (wordBytes 4 n))
    else s.answer .queueFull []

/-- BATCH_ABORT taken: a frame in flight runs to its frame end, and without one the stop goes on at once (R27). -/
def State.takeBatchAbort (args : List Byte) (s : State) : State :=
  match readBay args with
  | none => s.answer .badArgument []
  | some b =>
    match (s.bay b).state with
    | .stopping => s.answer .ok []
    | .rolling | .loading =>
      let s1 := (s.answer .ok []).beginStop b .aborted none
      State.work [b] (if (s.bay b).line.tx.inFlight then s1 else s1.proceedStop b)
    | _ => s.answer .bayState []

/-- A context in the BAY_STATUS reply: line address, serial, phase, outcome, failure reason (R32, R185). -/
def Context.bytes (c : Context) : List Byte :=
  [finByte c.addr] ++ wordBytes 8 c.serial ++
    [c.phase.code, match c.outcome with | some v => v.code | none => 0x00#8,
      match c.outcome with | some v => v.reasonByte | none => 0x00#8]

/-- The contents of the BAY_STATUS reply (R32, R185). -/
def Bay.reply (x : Bay) : List Byte :=
  x.statusBytes ++ [boolByte x.supply] ++ wordBytes 4 x.batch.number ++
    [x.batch.requested.code, x.batch.inUse.code, natByte x.batch.expected, natByte x.batch.enrolled,
      natByte x.batch.loaded, natByte x.batch.failed, natByte x.batch.unknown,
      match x.batch.stopCause with | some c => c.code | none => 0x00#8,
      natByte x.batch.emptyRolls, natByte x.batch.garbles, optFinByte x.batch.hand, natByte x.contexts.length] ++
    (x.contexts.map Context.bytes).flatten

/-- BAY_STATUS taken (R32). -/
def State.takeBayStatus (args : List Byte) (s : State) : State :=
  match readBay args with
  | none => s.answer .badArgument []
  | some b => s.answer .ok (s.bay b).reply

/-! ### BAY_RESET and LINE_TEST -/

/-- BAY_RESET asks for a reply when the bay has reached its resulting state (R28). -/
def State.awaitReset (b : BayId) (s : State) : State := s.updBay b (fun x => { x with resetReply := some .ok })

/-- A stop cause of ABORTED becomes RESET; any other is kept (R28). -/
def Bay.resetCause (x : Bay) : Bay :=
  { x with
    batch := { x.batch with stopCause := if x.batch.stopCause = some .aborted then some .reset else x.batch.stopCause } }

/-- A line reset of BAY_RESET in READY or FAULT; the tamper response's own serves where it runs (R28; log 19). -/
def State.resetLine (b : BayId) (s : State) : State :=
  if (s.bay b).tamperOff then s else s.updBay b (fun x => { x with line := x.line.startReset s.time })

/-- READY from FAULT, the fault reason cleared: the held-active watch is armed (R28, R67). -/
def Bay.backToReady (now : Nat) (x : Bay) : Bay :=
  { x with state := .ready, faultReason := none, line := { x.line with armedAt := now } }

/-- BAY_RESET taken, by state (R28). -/
def State.takeBayReset (args : List Byte) (s : State) : State :=
  match readBay args with
  | none => s.answer .badArgument []
  | some b =>
    match (s.bay b).state with
    | .powering => s.answer .bayState []
    | .off => s.answer .ok [BayState.off.code]
    | .rolling | .loading => State.work [b] (((s.awaitReset b).beginStop b .reset none).cutAndStop b)
    | .stopping => State.work [b] (((s.awaitReset b).updBay b Bay.resetCause).cutAndStop b)
    | .ready => (s.awaitReset b).resetLine b
    | .fault =>
      match (s.bay b).faultReason with
      | some .echoMismatch | some .lineStuckPassive => (s.awaitReset b).resetLine b
      | some .lineHeldActive | none =>
        (s.updBay b (Bay.backToReady s.time)).answer .ok [BayState.ready.code]
      | some .overCurrent | some .powerTimeout => (s.updBay b Bay.toOff).answer .ok [BayState.off.code]

/-- LINE_TEST taken: the loopback switch closes and the test frame begins (R70). It begins at once, whether or not a minimum gap
is still being counted on the bay line: no rule says that it waits (log 21). -/
def State.takeLineTest (args : List Byte) (s : State) : State :=
  match readBay args with
  | none => s.answer .badArgument []
  | some b =>
    let x := s.bay b
    if s.latched then s.answer .tampered []
    else if (x.state ≠ .ready ∧ x.state ≠ .fault) ∨ x.supply = false then s.answer .bayState []
    else s.updBay b (fun x => { x with line := { x.line with loopback := true, tx := .test s.time, free := false } })

/-- The line reset of a bay has ended: the rate is STANDARD, the line is free at once, and the owner goes on (R28, R56,
R81). -/
def State.lineResetOver (b : BayId) (s : State) : State :=
  match (s.bay b).line.tx with
  | .reset _ =>
    let s1 := s.updBay b (fun x => { x with line := x.line.resetOver s.time })
    if (s.bay b).state = .stopping then State.work [b] (s1.finishStop b)
    else if (s.bay b).tamperOff then (s1.updBay b Bay.toOff).replyReset b
    else (s1.updBay b (fun x => { x with state := .ready, faultReason := none })).replyReset b
  | _ => s

/-- The test frame of LINE_TEST has come to its frame end, or its echo shows a fault (R70). -/
def State.lineTestOver (b : BayId) (delay : Nat) (echo : List Nat) (s : State) : State :=
  match (s.bay b).line.tx with
  | .test _ =>
    (s.updBay b (fun x => { x with line := x.line.endTest s.time })).answer .ok
      [match echoFault .standard testFrame delay echo with | none => 0x00#8 | some f => f.reason.code]
  | _ => s

/-! ### BAY_POWER and the power-up wait -/

/-- The supply is applied: POWERING, the quiet-line wait and the time limit begin (R73, R75, R76). -/
def Bay.powerUp (now : Nat) (x : Bay) : Bay :=
  { x with
    state := .powering
    supply := true
    line := x.line.powered now
    limitAt := some (now + Config.ms 5000) }

/-- BAY_POWER with setting ON (R73). -/
def State.bayPowerUp (b : BayId) (s : State) : State :=
  if s.latched then s.answer .tampered []
  else
    let s1 := if (s.bay b).state = .off then s.updBay b (Bay.powerUp s.time) else s
    s1.answer .ok [(s1.bay b).state.code]

/-- BAY_POWER with setting OFF (R73, R74). Where the tamper response's line reset still runs on the bay, the supply is removed at
once and the reset is cut, as R74 says of READY and FAULT (log 48). -/
def State.bayPowerDown (b : BayId) (s : State) : State :=
  if (s.bay b).isRunning then s.answer .bayState []
  else
    let s1 := if (s.bay b).state = .off then s else s.updBay b Bay.toOff
    s1.answer .ok [(s1.bay b).state.code]

/-- BAY_POWER taken (R73). -/
def State.takeBayPower (args : List Byte) (s : State) : State :=
  match readBayPower args with
  | none => s.answer .badArgument []
  | some (b, true) => s.bayPowerUp b
  | some (b, false) => s.bayPowerDown b

/-- The start of the quiet count that runs in POWERING, the line passive: the supply or the change of level that made the line
passive, whichever came later, glitches merged (R75; log 35). -/
def Bay.quietSince (x : Bay) : Option Nat :=
  if x.state = .powering ∧ x.line.active = false then some x.line.since else none

/-- A bay whose quiet count has reached 100 ms: READY, the limit cancelled and the held-active watch armed (R75). -/
def Bay.becomeReady (now : Nat) (x : Bay) : Bay :=
  { x with state := .ready, limitAt := none, line := { x.line with armedAt := now } }

/-- The quiet count reaches 100 ms (R75). -/
def State.quietReached (b : BayId) (s : State) : State :=
  if (s.bay b).quietSince.isSome then s.updBay b (Bay.becomeReady s.time) else s

/-- The quiet count has reached 100 ms by now (R76). -/
def Bay.quietLongEnough (now : Nat) (x : Bay) : Bool :=
  match x.quietSince with
  | some t => decide (t + Config.ms 100 ≤ now)
  | none => false

/-- The 5,000 ms limit runs out; a quiet count reaching 100 ms at that very moment counts as reached (R76). -/
def State.powerTimeout (b : BayId) (s : State) : State :=
  let x := s.bay b
  if x.state = .powering then
    if x.quietLongEnough s.time then s.updBay b (Bay.becomeReady s.time) else s.enterFault b .powerTimeout
  else s

/-! ### Over-current -/

/-- Over-current on a bay with a running batch: the frame is cut and the batch ends POWER_FAULT, or, in the stop of the tamper
response, TAMPER (R30, R78; log 18). -/
def State.overCurrentStop (b : BayId) (s : State) : State :=
  let s1 := s.updBay b (fun x => { x with line := x.line.cut s.time })
  if (s.bay b).batch.stopCause = some .tamper ∧ (s.bay b).state = .stopping then s1.finishStop b
  else
    ((s1.beginStop b .powerFault none).updBay b (fun x => { x with faultReason := some .overCurrent })).finishStop b

/-- Over-current sensed on a bay whose supply is on (R78). -/
def State.senseOverCurrent (b : BayId) (s : State) : State :=
  let x := s.bay b
  if x.supply = false then s
  else if x.isRunning then State.work [b] (s.overCurrentStop b)
  else if x.tamperOff then (s.updBay b Bay.toOff).replyReset b
  else (s.enterFault b .overCurrent).replyReset b

end Sys2Proof.Machine
end

