-- ==== Sys2Proof/Machine/KeyStore.lean ====
section
/-! DEFINITION. The key store: the two-token tests it and others apply (R125, R146), assembly (R125 to R128), import (R129 to
R131), retirement, erasure and reading (R132 to R134), and its emptying (R135). -/

namespace Sys2Proof.Machine

/-! ### Tokens as the key store, the window and the enclosure monitor see them -/

/-- The token of a port in READ (R137). -/
def PortState.token : PortState → Option Token
  | .read t => some t
  | _ => none

/-- The answer to the two-token condition (R146). -/
inductive TwoTokens where
  | absent
  | invalid
  | satisfied (idA idB : Word32)
deriving DecidableEq, Repr

/-- The two-token condition (R146). -/
def State.twoTokens (s : State) : TwoTokens :=
  match s.portA.state.token, s.portB.state.token with
  | some a, some b =>
    if a.role ≠ .custodianA ∨ b.role ≠ .custodianB then .invalid
    else if a.id = b.id then .invalid
    else .satisfied a.id b.id
  | _, _ => .absent

/-- The two components, when both tokens are read and carry one (R125, R126). -/
def State.components (s : State) : Option (Key × Key) :=
  match s.portA.state.token.bind (·.component), s.portB.state.token.bind (·.component) with
  | some (a, _), some (b, _) => some (a, b)
  | _, _ => none

/-! ### Slots -/

/-- A slot is ACTIVE (R119). -/
def Slot.isActive (x : Slot) : Bool := match x.content with | .active _ _ => true | _ => false

/-- The description of a slot that is not EMPTY (R119). -/
def Slot.info (x : Slot) : Option KeyInfo :=
  match x.content with
  | .empty => none
  | .active i _ => some i
  | .retired i => some i

/-- A slot as the tamper response leaves it: EMPTY, its last generation kept (R135). -/
def Slot.emptied (x : Slot) : Slot := { lastGen := x.lastGen, content := .empty }

/-- Storing a key: every field of the slot is the new key's, and the last generation is its generation (R119, R121, R127,
R130). -/
def storedSlot (r : KeyRequest) (origin : Origin) (key : Key) (check : CheckValue) : Slot :=
  { lastGen := r.gen
    content := .active { kind := r.kind, gen := r.gen, check := check, origin := origin, uses := 0, label := r.label } key }

/-- The contents of an OK reply to KEY_ASSEMBLE or KEY_IMPORT: slot, generation, check value (R127, R130, R185). -/
def storedReply (r : KeyRequest) (check : CheckValue) : List Byte :=
  [finByte r.slot] ++ wordBytes 2 r.gen ++ wordBytes 3 check

/-! ### Assembly and import -/

/-- KEY_ASSEMBLE taken (R125, R126). -/
def State.takeKeyAssemble (args : List Byte) (s : State) : State :=
  match readKeyAssemble args with
  | none => s.answer .badArgument []
  | some r =>
    if s.latched then s.answer .tampered []
    else if (s.slot r.slot).isActive then s.answer .slotState []
    else if r.gen ≤ (s.slot r.slot).lastGen then s.answer .generationStale []
    else
      match s.components, s.twoTokens with
      | some (a, b), .satisfied idA idB =>
        if s.room then
          State.work []
            { s with
              keys := { s.keys with progress := some (.assembly r (a ^^^ b) idA idB) }
              cipher := s.cipher.place (.storeCheck (a ^^^ b)) false }
        else s.answer .queueFull []
      | some _, .invalid => s.answer .tokenInvalid []
      | _, _ => s.answer .tokenAbsent []

/-- KEY_IMPORT taken (R129, R130). -/
def State.takeKeyImport (args : List Byte) (s : State) : State :=
  match readKeyImport args with
  | none => s.answer .badArgument []
  | some (r, transfer, wrapped) =>
    if s.latched then s.answer .tampered []
    else if s.window.isNone then s.answer .windowClosed []
    else if (s.slot r.slot).isActive then s.answer .slotState []
    else if r.gen ≤ (s.slot r.slot).lastGen then s.answer .generationStale []
    else if ((s.slot transfer).available .transfer).isNone then s.answer .keyUnavailable []
    else if s.room then
      State.work []
        { s with
          keys := { s.keys with progress := some (.importing r transfer) }
          cipher := s.cipher.place (.importKey transfer wrapped) false }
    else s.answer .queueFull []

/-- The assembly holder emptied and the request answered (R126, R130). -/
def State.endProgress (code : ResultCode) (contents : List Byte) (s : State) : State :=
  { s with keys := { s.keys with progress := none } }.answer code contents

/-- The CHECK of an assembly has completed with a check value (R127). -/
def State.assemblyChecked (check : CheckValue) (s : State) : State :=
  match s.keys.progress with
  | some (.assembly r key idA idB) =>
    if check ≠ r.expected then s.endProgress .checkMismatch []
    else if s.room then
      ((s.setSlot r.slot (storedSlot r .assembled key check)).appendRecord
        (.keyChange { slot := r.slot, action := .assembled, kind := r.kind, gen := r.gen, check := some check,
                      custodians := some (idA, idB) })).endProgress .ok (storedReply r check)
    else s.endProgress .queueFull []
  | _ => s

/-- The IMPORT has completed with a deciphered key and its check value (R130). -/
def State.importDeciphered (key : Key) (check : CheckValue) (s : State) : State :=
  match s.keys.progress with
  | some (.importing r transfer) =>
    if check ≠ r.expected then s.endProgress .checkMismatch []
    else if s.room then
      let s1 := s.setSlot r.slot (storedSlot r .imported key check)
      let s2 := s1.setSlot transfer (s1.slot transfer).countUse
      (s2.appendRecord
        (.keyChange { slot := r.slot, action := .imported, kind := r.kind, gen := r.gen, check := some check,
                      custodians := none })).endProgress .ok (storedReply r check)
    else s.endProgress .queueFull []
  | _ => s

/-- A token has left READ: an assembly in progress withdraws its CHECK and is answered TOKEN_ABSENT (R128). -/
def State.assemblyLosesToken (s : State) : State :=
  match s.keys.progress with
  | some (.assembly _ _ _ _) =>
    { s with cipher := s.cipher.withdraw CipherJob.isStoreJob }.endProgress .tokenAbsent []
  | _ => s

/-- The key store's part of the tamper response: an assembly or import is answered TAMPERED, every slot is emptied (R128,
R131, R135). -/
def State.emptyKeys (s : State) : State :=
  let s1 := if s.keys.progress.isSome then s.answer .tampered [] else s
  { s1 with keys := { s1.keys with progress := none } }.setSlots (s1.keys.slots.map Slot.emptied)

/-! ### Retirement, erasure, reading -/

/-- A KEY_CHANGE record for a key already described (R124). -/
def changeRecord (k : SlotId) (action : KeyAction) (i : KeyInfo) (check : Option CheckValue) : RecordBody :=
  .keyChange { slot := k, action := action, kind := i.kind, gen := i.gen, check := check, custodians := none }

/-- KEY_RETIRE taken (R132). -/
def State.takeKeyRetire (args : List Byte) (s : State) : State :=
  match readSlot args with
  | none => s.answer .badArgument []
  | some k =>
    match (s.slot k).content with
    | .active i _ =>
      if s.cipher.names k || s.slotHeld k then s.answer .inUse []
      else if s.room then
        ((s.setSlot k { s.slot k with content := .retired i }).appendRecord
          (changeRecord k .retired i (some i.check))).answer .ok []
      else s.answer .queueFull []
    | _ => s.answer .slotState []

/-- KEY_ERASE taken (R133). -/
def State.takeKeyErase (args : List Byte) (s : State) : State :=
  match readSlot args with
  | none => s.answer .badArgument []
  | some k =>
    match (s.slot k).content with
    | .retired i =>
      if s.room then
        ((s.setSlot k (s.slot k).emptied).appendRecord (changeRecord k .erased i none)).answer .ok []
      else s.answer .queueFull []
    | _ => s.answer .slotState []

/-- The contents of a KEY_INFO reply: slot, state, last generation, and the description or zeros (R134, R185, R187). -/
def State.slotReply (s : State) (k : SlotId) : List Byte :=
  let x := s.slot k
  [finByte k, x.content.code] ++ wordBytes 2 x.lastGen ++
    match x.info with
    | some i =>
      [i.kind.code] ++ wordBytes 2 i.gen ++ wordBytes 3 i.check ++ [i.origin.code] ++ wordBytes 4 i.uses ++
        wordBytes 8 i.label
    | none => List.replicate 19 0x00#8

/-- KEY_INFO taken (R134). -/
def State.takeKeyInfo (args : List Byte) (s : State) : State :=
  match readSlot args with
  | none => s.answer .badArgument []
  | some k => s.answer .ok (s.slotReply k)

end Sys2Proof.Machine
end

