-- ==== Sys2Proof/Machine/Token.lean ====
section
/-! DEFINITION. The token ports: settling, reading and checking a token (R138 to R141), removal, faults and fresh starts (R142
to R144), and TOKEN_STATUS (R145). -/

namespace Sys2Proof.Machine

/-- A port changes its state: TOKEN is raised (R137). -/
def State.portTo (p : PortId) (x : PortState) (s : State) : State :=
  (s.updPort p (fun q => { q with state := x })).raise .token

/-- A step of a read, which leaves the port in READING and raises no flag (R139). -/
def State.portStep (p : PortId) (x : PortState) (s : State) : State := s.updPort p (fun q => { q with state := x })

/-- The READ_TOKEN frame (R139). -/
def readTokenFrame : LineFrame := { kind := .readToken, addr := 0, body := [] }

/-- A READ_TOKEN due is sent when the line is free (R139). -/
def State.portSend (p : PortId) (s : State) : State :=
  let q := s.port p
  match q.state with
  | .reading n d .due =>
    if q.line.tx = .idle ∧ q.line.free = true then
      s.updPort p (fun q =>
        { q with
          state := .reading n d .inFlight
          line := q.line.transmit (.frame readTokenFrame .standard s.time false) s.time })
    else s
  | _ => s

/-- An answer that is no use to the read: attempts or deferrals rise, and at their limits the port is UNREADABLE (R139). -/
def State.readFailed (p : PortId) (ans : Answer) (s : State) : State :=
  match (s.port p).state with
  | .reading n d _ =>
    match ans with
    | .deferral =>
      if 6 ≤ d + 1 then s.portTo p (.unreadable .deferred)
      else s.portStep p (.reading n (d + 1) (.waiting (s.time + Config.ms 50)))
    | .absent =>
      if 3 ≤ n + 1 then s.portTo p (.unreadable .noAnswer) else (s.portStep p (.reading (n + 1) d .due)).portSend p
    | _ =>
      if 3 ≤ n + 1 then s.portTo p (.unreadable .garbled) else (s.portStep p (.reading (n + 1) d .due)).portSend p
  | _ => s

/-- What the content of a clean answer says (R140). -/
inductive TokenContent where
  | bad
  | plain (token : Token)
  | carrying (token : Token) (component : Key)
deriving DecidableEq, Repr

/-- The three tests on a clean answer of 25 bytes, in order (R140, R188). -/
def tokenContent (bytes : List Byte) : TokenContent :=
  let id : Word32 := beWord 32 (bytes.take 4)
  if id = 0 then .bad
  else
    match Role.ofCode (bytes.getD 4 0x00#8) with
    | none => .bad
    | some role =>
      if bytes.getD 5 0xFF#8 = 0x00#8 then .plain { id := id, role := role, component := none }
      else if bytes.getD 5 0xFF#8 = 0x01#8 then
        let component : Key := beWord 128 ((bytes.drop 6).take 16)
        .carrying { id := id, role := role, component := some (component, beWord 24 ((bytes.drop 22).take 3)) } component
      else .bad

/-- A clean answer to READ_TOKEN (R140, R141). -/
def State.tokenRead (p : PortId) (bytes : List Byte) (s : State) : State :=
  match (s.port p).state with
  | .reading n d _ =>
    match tokenContent bytes with
    | .bad => s.portTo p (.unreadable .badContent)
    | .plain t => s.portTo p (.read t)
    | .carrying t component =>
      let s1 := s.portStep p (.reading n d (.checking t))
      State.work [] { s1 with cipher := s1.cipher.place (.portCheck p component) false }
  | _ => s

/-- A fault on a token line: a port in READING is UNREADABLE with cause LINE_FAULT, its CHECK withdrawn (R106, R143). -/
def State.portLineFault (p : PortId) (s : State) : State :=
  let s1 := s.updPort p (fun q => { q with line := q.line.faulted s.time })
  match (s.port p).state with
  | .reading _ _ _ =>
    State.work [] (({ s1 with cipher := s1.cipher.withdraw (CipherJob.isPortCheck p) }).portTo p (.unreadable .lineFault))
  | _ => s1

/-- The READ_TOKEN frame in flight has ended with this answer (R139). -/
def State.portAnswer (p : PortId) (ans : Answer) (s : State) : State :=
  match ans with
  | .fault _ => s.portLineFault p
  | _ =>
    let s1 := s.updPort p (fun q => { q with line := q.line.ended s.time })
    match ans with
    | .clean bytes => s1.tokenRead p bytes
    | _ => s1.readFailed p ans

/-- The port's frame has ended, the line having shown these periods (R139). -/
def State.portFrameEnded (p : PortId) (shown : List Nat) (s : State) : State :=
  match (s.port p).line.tx with
  | .frame _ rate _ _ => s.portAnswer p (judgeAnswer rate 25 shown)
  | _ => s

/-- The answer limit of a READ_TOKEN frame (R38). -/
def State.portAnswerLimit (p : PortId) (s : State) : State :=
  match (s.port p).line.tx with
  | .frame _ _ _ _ => s.portAnswer p .garbled
  | _ => s

/-- The data end of a READ_TOKEN frame passes (R39). -/
def State.portDataEnd (p : PortId) (s : State) : State :=
  match (s.port p).line.tx with
  | .frame f rate sentAt _ => s.updPort p (fun q => { q with line := { q.line with tx := .frame f rate sentAt true } })
  | _ => s

/-- A fault the echo monitor declares on a token line (R65, R66, R143). -/
def State.portEchoFault (p : PortId) (s : State) : State :=
  if (s.port p).line.tx.sending then s.portLineFault p else s

/-- The watch has ended 12U after a fault report, whatever the line shows, so that a token that goes on holding its line is
reported once (R143; log 42). -/
def LineEnd.watchOver (now : Nat) (l : LineEnd) : Bool :=
  l.tx == .idle && l.afterFault && decide (l.gapAt + 12 * l.gapRate.unit ≤ now)

/-- The held-active watch of a token line end: from the frame start until the minimum gap has run, the transmitter not
sending (R67, R143). -/
def Port.watched (now : Nat) (q : Port) : Bool :=
  (q.line.tx != .idle || !q.line.free) && !q.line.tx.sending && !q.line.watchOver now

/-- A token line held active (R67, R143). -/
def State.portHeldActive (p : PortId) (s : State) : State := if (s.port p).watched s.time then s.portLineFault p else s

/-- The minimum gap has run on a token line (R55). -/
def State.portLineFree (p : PortId) (s : State) : State :=
  let l := (s.port p).line
  if l.tx = .idle ∧ l.free = false then
    (s.updPort p (fun q => { q with line := { q.line with free := true } })).portSend p
  else s

/-- The CHECK of a component has completed with a check value (R141). -/
def State.componentChecked (p : PortId) (check : CheckValue) (s : State) : State :=
  match (s.port p).state with
  | .reading _ _ (.checking t) =>
    if t.component.map (·.2) = some check then s.portTo p (.read t) else s.portTo p (.unreadable .checkMismatch)
  | _ => s

/-- The presence contact closes; acted on in EMPTY (R138). -/
def State.contactCloses (p : PortId) (s : State) : State :=
  let s1 := s.updPort p (fun q => { q with contact := true })
  match (s.port p).state with
  | .empty => s1.portTo p (.settling s.time)
  | _ => s1

/-- The settling time has run with the contact closed throughout (R138). -/
def State.settled (p : PortId) (s : State) : State :=
  match (s.port p).state with
  | .settling _ => (s.portTo p (.reading 0 0 .due)).portSend p
  | _ => s

/-- The wait of a deferred READ_TOKEN ends (R139). -/
def State.readResend (p : PortId) (s : State) : State :=
  match (s.port p).state with
  | .reading n d (.waiting _) => (s.portStep p (.reading n d .due)).portSend p
  | _ => s

/-- The presence contact opens: in any state other than EMPTY the port enters EMPTY, and an assembly loses its token (R128,
R142). -/
def State.contactOpens (p : PortId) (s : State) : State :=
  let s1 := s.updPort p (fun q => { q with contact := false })
  match (s.port p).state with
  | .empty => s1
  | x =>
    let s2 := s1.updPort p (fun q => { q with line := q.line.cutFrame s.time })
    let s3 : State := { s2 with cipher := s2.cipher.withdraw (CipherJob.isPortCheck p) }
    let s4 := s3.portTo p .empty
    State.work [] (match x with | .read _ => s4.assemblyLosesToken | _ => s4)

/-- A port put into a fresh state from its presence contact; what it was doing is ended and nothing is raised (R144). Its
line end holds no frame (R39). -/
def Port.fresh (now : Nat) (q : Port) : Port :=
  { state := if q.contact then .settling now else .empty, contact := q.contact, line := q.line.cutFrame now }

/-- The state of a port changes to SETTLING or EMPTY at the tamper response and raises TOKEN (R144, R163). -/
def PortState.raisesAtTamper : PortState → Bool
  | .read _ => true
  | .reading _ _ _ => true
  | .unreadable _ => true
  | _ => false

/-- The ports' part of the tamper response (R144). -/
def State.tamperPorts (s : State) : State :=
  let s1 : State := { s with portA := s.portA.fresh s.time, portB := s.portB.fresh s.time }
  if s.portA.state.raisesAtTamper || s.portB.state.raisesAtTamper then s1.raise .token else s1

/-- A port in the TOKEN_STATUS reply: state, token ID, role, component flag, failure cause (R145, R185, R187). -/
def PortState.bytes (x : PortState) : List Byte :=
  match x with
  | .read t => [x.code] ++ wordBytes 4 t.id ++ [t.role.code, boolByte t.component.isSome, 0x00#8]
  | .unreadable cause => [x.code, 0, 0, 0, 0, 0, 0, cause.code]
  | _ => [x.code, 0, 0, 0, 0, 0, 0, 0]

/-- TOKEN_STATUS taken (R145). -/
def State.takeTokenStatus (args : List Byte) (s : State) : State :=
  match args with
  | [] => s.answer .ok (s.portA.state.bytes ++ s.portB.state.bytes)
  | _ => s.answer .badArgument []

end Sys2Proof.Machine
end

