-- ==== Sys2Proof/Machine/Window.lean ====
section
/-! DEFINITION. The injection window (R147 to R150), its closing at the cipher unit and the bays (R24, R115), the completion
of the running cipher request (R105), and the part clock's advance (R160). -/

namespace Sys2Proof.Machine

/-! ### Completions -/

/-- The result of a completed request is handed to its requester, unless it was withdrawn (R105). -/
def State.deliver (r : Running) (s : State) : State :=
  if r.withdrawn then s
  else
    match r.job, r.result with
    | .transport b a _ _, .transportKey working => { s with cipher := s.cipher.setHolder b a (some working) }
    | .prepare b a pos _ _ _ _, .prepared x => s.updBay b (fun y => y.fillBuffer a pos x)
    | .portCheck p _, .check c => s.componentChecked p c
    | .storeCheck _, .check c => s.assemblyChecked c
    | .importKey _ _, .imported key c => s.importDeciphered key c
    | job, .failed reason => s.failRequest job reason
    | _, _ => s

/-- The running request completes: its result is handed over, its place is freed and the waiting list examined, and after
the bay has gone on the engine takes its next request (R105; log 14). -/
def State.complete (kind : CipherJob → Bool) (s : State) : State :=
  match s.cipher.running with
  | some r => if kind r.job then State.work r.job.bay.toList (s.deliver r).freeEngine else s
  | none => s

/-- A TRANSPORT request. -/
def CipherJob.isTransport : CipherJob → Bool | .transport _ _ _ _ => true | _ => false

/-- A PREPARE request. -/
def CipherJob.isPrepare : CipherJob → Bool | .prepare _ _ _ _ _ _ _ => true | _ => false

/-- A CHECK request. -/
def CipherJob.isCheck : CipherJob → Bool | .portCheck _ _ => true | .storeCheck _ => true | _ => false

/-- An IMPORT request. -/
def CipherJob.isImport : CipherJob → Bool | .importKey _ _ => true | _ => false

/-! ### The closing of the window -/

/-- The contexts of the TRANSPORT and PREPARE requests queued and waiting, in that order (R115; log 15). -/
def Cipher.derivations (c : Cipher) : List (BayId × Addr) :=
  (c.queue ++ c.waiting).filterMap (fun r => r.job.context)

/-- Every TRANSPORT and PREPARE that is queued or waiting is completed; a running one is left alone (R115). -/
def Cipher.closeDerivations (c : Cipher) : Cipher :=
  Cipher.examine
    { c with
      queue := c.queue.filter (fun r => !r.job.isDerivation)
      waiting := c.waiting.filter (fun r => !r.job.isDerivation) }

/-- The contexts of the completed requests fail WINDOW_CLOSED (R21, R24, R115). -/
def State.failAll (l : List (BayId × Addr)) (s : State) : State :=
  l.foldl (fun s x => s.decideOutcome x.1 x.2 (.failed .windowClosed)) s

/-- A bay in ROLLING ends its roll phase when the window closes (R12, R24). -/
def State.endRollIfRolling (s : State) (b : BayId) : State :=
  if (s.bay b).state = .rolling ∧ (s.bay b).rollOver = false then s.endRoll b else s

/-- Every bay, in order. -/
def allBays : List BayId := List.finRange 12

/-- The closing of an OPEN window by WINDOW_CLOSE or expiry, in the event of the closing (R24, R115, R147, R150). -/
def State.closeWindow (s : State) : State :=
  let failed := s.cipher.derivations
  let s1 : State := { s with window := none, cipher := s.cipher.closeDerivations }
  State.work allBays (allBays.foldl State.endRollIfRolling (s1.failAll failed))

/-! ### Requests and the clock -/

/-- The minutes granted: fewer than 15 as 15, more than 480 as 480 (R148). -/
def grantMinutes (m : Nat) : Nat := if m < 15 then 15 else if 480 < m then 480 else m

/-- WINDOW_OPEN taken (R148). -/
def State.takeWindowOpen (args : List Byte) (s : State) : State :=
  match readMinutes args with
  | none => s.answer .badArgument []
  | some asked =>
    if s.latched then s.answer .tampered []
    else
      match s.twoTokens with
      | .absent => s.answer .tokenAbsent []
      | .invalid => s.answer .tokenInvalid []
      | .satisfied idA idB =>
        if s.room then
          let m := grantMinutes asked
          let expiry := s.clock + BitVec.ofNat 32 (m * 60)
          ({ s with window := some (m * 60) }.appendRecord (.windowOpen idA idB m expiry)).answer .ok
            (beBytes 2 m ++ wordBytes 4 expiry)
        else s.answer .queueFull []

/-- WINDOW_CLOSE taken (R150). -/
def State.takeWindowClose (args : List Byte) (s : State) : State :=
  match args with
  | [] => (if s.window.isSome then s.closeWindow else s).answer .ok []
  | _ => s.answer .badArgument []

/-- The window expires: it closes and WINDOW_EXPIRED is raised (R149). -/
def State.expireWindow (s : State) : State := s.closeWindow.raise .windowExpired

/-- The expiry by itself: an OPEN window whose last second has run expires, and any other goes on (R149; log 28). -/
def State.expireIfOver (s : State) : State :=
  match s.window with
  | none => s
  | some n => if n ≤ 1 then s.expireWindow else s

/-- The part clock advances by one second, and with it the remaining seconds of an OPEN window; at 0 the window expires
(R149, R160; log 28). -/
def State.advanceClock (s : State) : State :=
  let s1 : State := { s with clock := s.clock + 1, lastAdvance := s.time }
  match s.window with
  | none => s1
  | some n => if n ≤ 1 then s1.expireWindow else { s1 with window := some (n - 1) }

end Sys2Proof.Machine
end

