-- ==== Sys2Proof/Machine/Enclosure.lean ====
section
/-! DEFINITION. The enclosure monitor: the tamper response at every block (R31, R81, R178, R179), TAMPER_CLEAR (R181), and the
loss of power and the start-up (R176, R182, R183). -/

namespace Sys2Proof.Machine

/-! ### The tamper response -/

/-- A loopback test under the tamper response: the frame is cut, the switch opens, the reply is TAMPERED (R71, R179). -/
def State.tamperTest (b : BayId) (s : State) : State :=
  match (s.bay b).line.tx with
  | .test _ =>
    (s.updBay b (fun x => { x with line := { x.line.cut s.time with loopback := false } })).answer .tampered []
  | _ => s

/-- A BAY_RESET that waits is answered TAMPERED when the bay has entered OFF (R179). -/
def Bay.tamperReply (x : Bay) : Bay := { x with resetReply := x.resetReply.map (fun _ => .tampered) }

/-- The tamper response's line reset on a bay without a batch; one already running serves (R81, R179). -/
def Bay.tamperReset (now : Nat) (x : Bay) : Bay :=
  match x.line.tx with
  | .reset _ => { x with tamperOff := true }
  | _ => { x with tamperOff := true, line := x.line.startReset now }

/-- A bay without a batch: OFF after a line reset where the line is powered and not held active, and at once elsewhere
(R81). -/
def State.tamperIdleBay (b : BayId) (s : State) : State :=
  match (s.bay b).state, (s.bay b).faultReason with
  | .off, _ => s
  | .ready, _ => s.updBay b (Bay.tamperReset s.time)
  | .fault, some .echoMismatch | .fault, some .lineStuckPassive => s.updBay b (Bay.tamperReset s.time)
  | _, _ => (s.updBay b Bay.toOff).replyReset b

/-- A bay's part of the tamper response; the result buffers are cleared in the event itself, and the rate in force becomes
STANDARD (R31, R52, R81, R179). -/
def State.tamperBay (s : State) (b : BayId) : State :=
  let s1 := (s.tamperTest b).updBay b (fun x =>
    { x.tamperReply with buffers := [.free, .free], line := { x.line with rate := .standard } })
  if (s.bay b).isRunning then (s1.beginStop b .tamper none).cutAndStop b else s1.tamperIdleBay b

/-- The tamper response, in the event in which the latch is set (R179; log 32). -/
def State.tamperResponse (s : State) : State :=
  let s1 : State := { s with enclosure := s.enclosure.setLatch true }
  let s2 := (s1.raise .tamper).emptyKeys
  let s3 : State := { s2 with cipher := s2.cipher.flush, window := none }
  allBays.foldl State.tamperBay s3.tamperPorts

/-- An enclosure input sampled (R177). -/
def Enclosure.setInput (i : EnclosureInput) (active : Bool) (e : Enclosure) : Enclosure :=
  match i with
  | .lid => { e with lid := active }
  | .mesh => { e with mesh := active }

/-- An enclosure input (R177). -/
def Enclosure.input (e : Enclosure) : EnclosureInput → Bool
  | .lid => e.lid
  | .mesh => e.mesh

/-- An input becomes active: while the latch is clear it sets the latch and starts the response (R178). -/
def State.inputActive (i : EnclosureInput) (s : State) : State :=
  let s1 : State := { s with enclosure := s.enclosure.setInput i true }
  if s.enclosure.input i || s.latched then s1 else s1.tamperResponse

/-- An input becomes inactive: only its state changes (R178). -/
def State.inputInactive (i : EnclosureInput) (s : State) : State :=
  { s with enclosure := s.enclosure.setInput i false }

/-- The contents of every TAMPER_CLEAR reply but the first row's: lid, mesh, latch (R181, R185). -/
def State.enclosureReply (s : State) : List Byte :=
  [boolByte s.enclosure.lid, boolByte s.enclosure.mesh, boolByte s.latched]

/-- TAMPER_CLEAR taken (R181). -/
def State.takeTamperClear (args : List Byte) (s : State) : State :=
  match args with
  | [] =>
    if s.latched = false then s.answer .ok s.enclosureReply
    else if s.enclosure.lid || s.enclosure.mesh then s.answer .badArgument s.enclosureReply
    else
      match s.twoTokens with
      | .absent => s.answer .tokenAbsent s.enclosureReply
      | .invalid => s.answer .tokenInvalid s.enclosureReply
      | .satisfied _ _ =>
        let s1 : State := { s with enclosure := s.enclosure.setLatch false }
        s1.answer .ok s1.enclosureReply
  | _ => s.answer .badArgument []

/-! ### Loss of power and start-up -/

/-- Loss of power: everything not retained is lost; the retained stores, the latch and the part clock stay (R31, R98, R136,
R156, R160, R177). -/
def State.losePower (s : State) : State :=
  { s with
    powered := false
    started := false
    enclosure := { s.enclosure with lid := false, mesh := false }
    notice := { flags := noFlags, armed := true }
    link := coldLink
    report := { s.report with waiting := [] }
    window := none
    keys := { s.keys with progress := none }
    cipher := coldCipher
    portA := emptyPort
    portB := emptyPort
    bays := Vector.replicate 12 coldBay }

/-- A port at power-on, from its presence contact (R144). -/
def startPort (now : Nat) (contact : Bool) : Port :=
  { emptyPort with contact := contact, state := if contact then .settling now else .empty }

/-- A retained store as start-up finds it: as its memory reads where that changed, and otherwise as it was left (R183). -/
def foundOr {α : Type} (f : Option (Found α)) (contents : α) (check : BitVec 16) : Found α :=
  f.getD { contents := contents, check := check }

/-- The counters of the report queue (R152). -/
def Report.counters (r : Report) : Counters := { record := r.recordCounter, batch := r.batchCounter }

/-- The four retained stores as start-up finds them, each with the CRC-16 held with it (R183). -/
def State.foundKeys (f : PowerOnFinds) (s : State) : Found (Vector Slot 32) :=
  foundOr f.keyStore s.keys.slots s.checks.keyStore

/-- The profile table as start-up finds it (R98, R183). -/
def State.foundProfiles (f : PowerOnFinds) (s : State) : Found (Vector Entry 24) :=
  foundOr f.profiles s.profiles s.checks.profiles

/-- The report queue as start-up finds it (R156, R183). -/
def State.foundQueue (f : PowerOnFinds) (s : State) : Found (List Record) :=
  foundOr f.queue s.report.records s.checks.queue

/-- The counters as start-up finds them (R156, R183). -/
def State.foundCounters (f : PowerOnFinds) (s : State) : Found Counters :=
  foundOr f.counters s.report.counters s.checks.counters

/-- The four start-up checks: true where the CRC-16 over the contents is not the one held with them (R183, R184). -/
def State.startResults (f : PowerOnFinds) (s : State) : StoreBits :=
  { keyStore := keyStoreCheck (s.foundKeys f).contents != (s.foundKeys f).check
    profiles := profileCheck (s.foundProfiles f).contents != (s.foundProfiles f).check
    queue := queueCheck (s.foundQueue f).contents != (s.foundQueue f).check
    counters := counterCheck (s.foundCounters f).contents != (s.foundCounters f).check }

/-- The counters after the start-up checks of the queue, whose records these are, and of the counters (R156). -/
def Counters.checked (failed : Bool) (records : List Record) (c : Counters) : Counters :=
  if failed then { record := (match records.getLast? with | some x => x.number | none => 0), batch := 0 } else c

/-- Stages 1 to 4 of the start-up: the stores checked, each that fails written afresh with a CRC-16 that agrees; the inputs
sampled, the latch decided, the key store emptied where the latch is set (R182, R183). -/
def State.startChecks (f : PowerOnFinds) (s : State) : State :=
  let failed := s.startResults f
  let found := f.latchFound.getD (s.enclosure.latchCopy, s.enclosure.latchComplement)
  let e : Enclosure :=
    { lid := f.lid, mesh := f.mesh, latchCopy := found.1, latchComplement := found.2, failed := failed }
  let latched := f.lid || f.mesh || e.latched
  let slots := if failed.keyStore then Vector.replicate 32 emptySlot else (s.foundKeys f).contents
  let records := if failed.queue then [] else (s.foundQueue f).contents
  let counters := (s.foundCounters f).contents.checked failed.counters records
  let s1 : State :=
    { s with
      enclosure := e.setLatch latched
      report := { s.report with waiting := [] }
      keys := { s.keys with progress := none }
      clock := f.clockFound.getD s.clock }
  (((s1.setSlots (if latched then slots.map Slot.emptied else slots)).setEntries
    (if failed.profiles then Vector.replicate 24 .empty else (s.foundProfiles f).contents)).setRecords records).setCounters
    counters

/-- The latch is set at this start-up: by an active input, or by disagreeing copies (R182, stage 3). -/
def setAtStart (f : PowerOnFinds) (s : State) : Bool :=
  let found := f.latchFound.getD (s.enclosure.latchCopy, s.enclosure.latchComplement)
  f.lid || f.mesh || found.1 == found.2

/-- The flags the start-up raises: STARTED, RECORDS if the queue holds any record, TAMPER if the latch was set at this
start-up (R163, R182, stage 5). -/
def startFlags (tamper : Bool) (s : State) : Flags :=
  { noFlags with started := true, records := !s.report.records.isEmpty, tamper := tamper }

end Sys2Proof.Machine
end

