-- ==== Sys2Proof/Machine/Link.lean ====
section
/-! DEFINITION. The station link interface and the request handler: the owners of the requests (R171, 10.5), the request queue
(R168, R170), the receive assembler (R167, R168), the outgoing direction's end of a frame (R172), RESTART (R175), and the
start-up seen from the link (R176, R182). -/

namespace Sys2Proof.Machine

/-! ### Owners -/

/-- RESTART taken by the station link: the reply is built at once and the restart follows its last byte (R175). -/
def State.takeRestart (args : List Byte) (s : State) : State :=
  match args with
  | [] => s.answer .ok []
  | _ => s.answer .badArgument []

/-- The owner of each request takes it (R171, 10.5). -/
def State.takeRequest (c : RequestCode) (args : List Byte) (s : State) : State :=
  match c with
  | .batchStart => s.takeBatchStart args
  | .batchAbort => s.takeBatchAbort args
  | .bayStatus => s.takeBayStatus args
  | .bayReset => s.takeBayReset args
  | .bayPower => s.takeBayPower args
  | .lineTest => s.takeLineTest args
  | .profileWrite => s.takeProfileWrite args
  | .profileRead => s.takeProfileRead args
  | .profileEnable => s.takeProfileEnable args
  | .profileDisable => s.takeProfileDisable args
  | .profileClear => s.takeProfileClear args
  | .keyInfo => s.takeKeyInfo args
  | .keyAssemble => s.takeKeyAssemble args
  | .keyImport => s.takeKeyImport args
  | .keyRetire => s.takeKeyRetire args
  | .keyErase => s.takeKeyErase args
  | .tokenStatus => s.takeTokenStatus args
  | .windowOpen => s.takeWindowOpen args
  | .windowClose => s.takeWindowClose args
  | .recordsFetch =>
    State.work (s.report.waiting.map (·.bay)) (s.takeRecordsFetch args)
  | .timeSet => s.takeTimeSet args
  | .status => s.takeStatus args
  | .tamperClear => s.takeTamperClear args
  | .restart => s.takeRestart args

/-- The head of the request queue, if it has not been given yet, is given to its owner, once the start-up checks have been
made (R171, R176). -/
def State.giveHead (s : State) : State :=
  match s.started, s.link.head, s.link.queue with
  | true, .notGiven, r :: _ =>
    let s1 : State := { s with link := { s.link with head := .withOwner } }
    match RequestCode.ofByte r.code with
    | some c => s1.takeRequest c r.args
    | none => s1
  | _, _, _ => s

/-- A well-formed request: BUSY while the queue holds 4, and otherwise it joins the tail, and as the head it is given to its
owner at once (R168, R170, R171). -/
def State.requestArrives (tag code : Byte) (args : List Byte) (s : State) : State :=
  if Config.requestPlaces ≤ s.link.queue.length then s.placeReject tag .busy
  else
    State.giveHead
      { s with link := { s.link with queue := s.link.queue ++ [{ tag := tag, code := code, args := args }] } }

/-! ### Receiving -/

/-- The kind code of a REQUEST (R185). -/
def requestKind : Byte := 0x01#8

/-- A completed frame judged: the bytes after the start byte, its CRC included (R168). -/
def State.judgeFrame (bytes : List Byte) (s : State) : State :=
  let tag := bytes.getD 3 0x00#8
  if crc16 bytes ≠ 0 then s.placeReject tag .frameCheck
  else if bytes.getD 2 0x00#8 ≠ requestKind then s.placeReject tag .unknownKind
  else
    match (bytes.drop 4).take (bytes.length - 6) with
    | [] => s.placeReject tag .unknownKind
    | code :: args =>
      if (RequestCode.ofByte code).isNone then s.placeReject tag .unknownKind else s.requestArrives tag code args

/-- The assembler set, the time of the byte noted (R167, R168). -/
def State.setAssembler (a : Assembler) (s : State) : State :=
  { s with link := { s.link with assembler := a, lastByteAt := s.time } }

/-- The length field of a frame being assembled (R165). -/
def frameLength (held : List Byte) : Nat := beNat (held.take 2)

/-- A received byte (R167). -/
def State.receiveByte (byte : Byte) (s : State) : State :=
  match s.link.assembler with
  | .hunting => if byte = 0xC3#8 then s.setAssembler (.assembling []) else s.setAssembler .hunting
  | .assembling held =>
    let bytes := held ++ [byte]
    if bytes.length < 2 then s.setAssembler (.assembling bytes)
    else if bytes.length = 2 then
      if frameLength bytes < 2 ∨ 514 < frameLength bytes then (s.setAssembler .hunting).placeReject 0x00#8 .frameLength
      else s.setAssembler (.assembling bytes)
    else if frameLength bytes + 4 ≤ bytes.length then (s.setAssembler .hunting).judgeFrame bytes
    else s.setAssembler (.assembling bytes)

/-- A run of received bytes; a frame that begins waiting while the direction is free is begun before the next byte (R167,
R172). -/
def State.receiveBytes (bytes : List Byte) (s : State) : State :=
  bytes.foldl (fun s b => (s.receiveByte b).beginFrame) s

/-- The gap of 50 ms has passed: the partial frame is discarded (R168). -/
def State.receiveGap (s : State) : State := { s with link := { s.link with assembler := .hunting } }

/-! ### RESTART -/

/-- A bay's part of RESTART: a running batch ends RESTART without a line reset, and the bay is in OFF with no context, no result
buffer held and nothing due (R31, R80, R175). -/
def State.restartBay (s : State) (b : BayId) : State :=
  let s1 := s.updBay b (fun x =>
    { x with
      line := { x.line.cut s.time with loopback := false, rate := .standard }
      resetReply := none })
  let s2 :=
    if (s.bay b).isRunning then (s1.beginStop b .restart none).finishStop b
    else if (s.bay b).state = .off then s1
    else s1.updBay b Bay.toOff
  s2.updBay b (fun x =>
    { x with
      contexts := [], buffers := [.free, .free], roll := .none, rollOver := false, rateOwed := false, resendAt := none })

/-- The notice machine started afresh: ARMED with every flag lowered, STARTED raised, RECORDS raised if the queue holds a
record; the notice asked for (R163). -/
def State.startNotice (tamper : Bool) (s : State) : State :=
  { s with
    notice := { flags := startFlags tamper s, armed := false }
    link := { s.link with noticeWanted := true } }

/-- The restart, when the RESTART reply has been sent (R175; log 31). -/
def State.restart (s : State) : State :=
  let s1 := allBays.foldl State.restartBay { s with link := coldLink }
  let s2 : State :=
    { s1 with
      cipher := s1.cipher.flush
      portA := s1.portA.fresh s.time
      portB := s1.portB.fresh s.time
      window := none }
  s2.startNotice false

/-! ### Sending -/

/-- The reply being sent is the OK reply of a RESTART at the head (R175). -/
def Link.restartSent (l : Link) : Bool :=
  match l.sending, l.queue with
  | some (.reply _ body), r :: _ => r.code == RequestCode.restart.code && body == [ResultCode.ok.code]
  | _, _ => false

/-- The frame being sent has been sent to its last byte: a reply's request leaves the queue and the next request is given to
its owner (R170, R172); after a RESTART reply the restart takes place (R175). -/
def State.frameSent (s : State) : State :=
  match s.link.sending with
  | none => s
  | some (.reply _ _) =>
    if s.link.restartSent then s.restart
    else
      State.giveHead
        { s with link := { s.link with sending := none, queue := s.link.queue.tail, head := .notGiven } }
  | some _ => { s with link := { s.link with sending := none } }

/-! ### Start-up -/

/-- Power-on: the start-up checks, the blocks in their power-on states, the bytes that arrive meanwhile, then the notice
machine, whose notice is the first frame begun unless a REJECT is being sent, and after it the head of the request queue
(R176, R182; log 9). Behind a REJECT still being sent the notice is begun only after that request has been taken, so that an early
STATUS withdraws it and an early RECORDS_FETCH lowers its count (R162, R164; log 43). -/
def State.startUp (f : PowerOnFinds) (s : State) : State :=
  let tamper := setAtStart f s
  let s1 := s.losePower.startChecks f
  let s2 : State :=
    { s1 with
      powered := true
      portA := startPort s.time f.contactA
      portB := startPort s.time f.contactB }
  let s3 := s2.receiveBytes f.early
  State.giveHead ({ s3.startNotice tamper with started := true } : State).beginFrame

end Sys2Proof.Machine
end

