-- ==== Sys2Proof/Machine/Requests.lean ====
section
/-! DEFINITION. The meanings of the station's requests: the arrival of each as one well-formed frame (R168; log 2). A request
that becomes the head is taken by its owner in the same event (R171); one behind the head waits. -/

namespace Sys2Proof.Machine

/-- An event of a powered unit: what it does, and then the frame the free outgoing direction begins (R172; log 12). An
unpowered unit does nothing (log 26). -/
def event (f : State → State) (s : State) : Host.Outcome State Fault Refusal :=
  .next (if s.powered then (f s).beginFrame else s)

/-- The arrival of a request. -/
def request (c : RequestCode) (tag : Byte) (args : List Byte) (s : State) : Host.Outcome State Fault Refusal :=
  event (State.requestArrives tag c.code args) s

/-- BATCH_START (R4). -/
def execBatchStart (tag : Byte) (args : List Byte) (s : State) : Host.Outcome State Fault Refusal :=
  request .batchStart tag args s

/-- BATCH_ABORT (R27). -/
def execBatchAbort (tag : Byte) (args : List Byte) (s : State) : Host.Outcome State Fault Refusal :=
  request .batchAbort tag args s

/-- BAY_STATUS (R32). -/
def execBayStatus (tag : Byte) (args : List Byte) (s : State) : Host.Outcome State Fault Refusal :=
  request .bayStatus tag args s

/-- BAY_RESET (R28). -/
def execBayReset (tag : Byte) (args : List Byte) (s : State) : Host.Outcome State Fault Refusal :=
  request .bayReset tag args s

/-- LINE_TEST (R70). -/
def execLineTest (tag : Byte) (args : List Byte) (s : State) : Host.Outcome State Fault Refusal :=
  request .lineTest tag args s

/-- PROFILE_WRITE (R90, R91). -/
def execProfileWrite (tag : Byte) (args : List Byte) (s : State) : Host.Outcome State Fault Refusal :=
  request .profileWrite tag args s

/-- PROFILE_READ (R92). -/
def execProfileRead (tag : Byte) (args : List Byte) (s : State) : Host.Outcome State Fault Refusal :=
  request .profileRead tag args s

/-- PROFILE_ENABLE (R93). -/
def execProfileEnable (tag : Byte) (args : List Byte) (s : State) : Host.Outcome State Fault Refusal :=
  request .profileEnable tag args s

/-- PROFILE_DISABLE (R94). -/
def execProfileDisable (tag : Byte) (args : List Byte) (s : State) : Host.Outcome State Fault Refusal :=
  request .profileDisable tag args s

/-- PROFILE_CLEAR (R95). -/
def execProfileClear (tag : Byte) (args : List Byte) (s : State) : Host.Outcome State Fault Refusal :=
  request .profileClear tag args s

/-- KEY_INFO (R134). -/
def execKeyInfo (tag : Byte) (args : List Byte) (s : State) : Host.Outcome State Fault Refusal :=
  request .keyInfo tag args s

/-- KEY_ASSEMBLE (R125, R126). -/
def execKeyAssemble (tag : Byte) (args : List Byte) (s : State) : Host.Outcome State Fault Refusal :=
  request .keyAssemble tag args s

/-- KEY_IMPORT (R129, R130). -/
def execKeyImport (tag : Byte) (args : List Byte) (s : State) : Host.Outcome State Fault Refusal :=
  request .keyImport tag args s

/-- KEY_RETIRE (R132). -/
def execKeyRetire (tag : Byte) (args : List Byte) (s : State) : Host.Outcome State Fault Refusal :=
  request .keyRetire tag args s

/-- KEY_ERASE (R133). -/
def execKeyErase (tag : Byte) (args : List Byte) (s : State) : Host.Outcome State Fault Refusal :=
  request .keyErase tag args s

/-- TOKEN_STATUS (R145). -/
def execTokenStatus (tag : Byte) (args : List Byte) (s : State) : Host.Outcome State Fault Refusal :=
  request .tokenStatus tag args s

/-- WINDOW_OPEN (R148). -/
def execWindowOpen (tag : Byte) (args : List Byte) (s : State) : Host.Outcome State Fault Refusal :=
  request .windowOpen tag args s

/-- WINDOW_CLOSE (R150). -/
def execWindowClose (tag : Byte) (args : List Byte) (s : State) : Host.Outcome State Fault Refusal :=
  request .windowClose tag args s

/-- RECORDS_FETCH (R155). -/
def execRecordsFetch (tag : Byte) (args : List Byte) (s : State) : Host.Outcome State Fault Refusal :=
  request .recordsFetch tag args s

/-- TIME_SET (R160). -/
def execTimeSet (tag : Byte) (args : List Byte) (s : State) : Host.Outcome State Fault Refusal :=
  request .timeSet tag args s

/-- STATUS (R164). -/
def execStatus (tag : Byte) (args : List Byte) (s : State) : Host.Outcome State Fault Refusal :=
  request .status tag args s

/-- TAMPER_CLEAR (R181). -/
def execTamperClear (tag : Byte) (args : List Byte) (s : State) : Host.Outcome State Fault Refusal :=
  request .tamperClear tag args s

/-- RESTART (R175). -/
def execRestart (tag : Byte) (args : List Byte) (s : State) : Host.Outcome State Fault Refusal :=
  request .restart tag args s

/-- BAY_POWER with setting ON (R73). -/
def execBayPowerOn (tag bay : Byte) (s : State) : Host.Outcome State Fault Refusal :=
  request .bayPower tag [bay, 0x01#8] s

/-- BAY_POWER with setting OFF (R73, R74). -/
def execBayPowerOff (tag bay : Byte) (s : State) : Host.Outcome State Fault Refusal :=
  request .bayPower tag [bay, 0x00#8] s

end Sys2Proof.Machine
end

