-- ==== Sys2Proof/Machine/Events.lean ====
section
/-! DEFINITION. The meanings of the events: the station link's, the line ends', the timers', the cipher unit's, the token
ports', the enclosure's and the supply's. The command says that its event's moment has come
(log 3). An event that cannot occur in the state it meets has no effect (log 4). -/

namespace Sys2Proof.Machine

/-- A bay in ROLLING or LOADING, the states in which POLLs and the batch's own frames are sent (R7, R22). -/
def BayState.sends : BayState → Bool
  | .rolling => true
  | .loading => true
  | _ => false

/-- The 1,000 ms since a context's last-addressed time have run out: a POLL is due to it (R22). -/
def State.pollFallsDue (b : BayId) (a : Addr) (s : State) : State :=
  if (s.bay b).state.sends then
    State.work [b] (s.updBay b (fun x => x.updCtx a (fun c =>
      if c.phase = .done then c else { c with pollDue := true })))
  else s

/-- A roll-phase frame with its wait ended (R8, R9). -/
def RollNext.due : RollNext → RollNext
  | .none => .none
  | .rollCall _ => .rollCall Option.none
  | .enrol serial fast a n _ => .enrol serial fast a n Option.none

/-- The next roll-phase frame is a ROLL_CALL. -/
def RollNext.isRollCall : RollNext → Bool
  | .rollCall _ => true
  | _ => false

/-- The wait before the next ROLL_CALL ends (R8, R9). -/
def State.rollFallsDue (b : BayId) (s : State) : State :=
  if (s.bay b).state = .rolling ∧ (s.bay b).roll.isRollCall then
    State.work [b] (s.updBay b (fun x => { x with roll := x.roll.due }))
  else s

/-- The 50 ms wait of a deferred KEY, COMMIT or ENROL ends (R9, R18, R19). -/
def State.resendFallsDue (b : BayId) (s : State) : State :=
  match (s.bay b).state with
  | .loading => State.work [b] (s.updBay b (fun x => { x with resendAt := none }))
  | .rolling =>
    if (s.bay b).roll.isRollCall then s else State.work [b] (s.updBay b (fun x => { x with roll := x.roll.due }))
  | _ => s

/-- The part clock advances while the KT12 is powered and while it is on its battery (R160). -/
def execClockAdvance (s : State) : Host.Outcome State Fault Refusal :=
  if s.powered then event State.advanceClock s else .next s.advanceClock

/-- POWER_ON of an unpowered unit (R182). -/
def execPowerOn (finds : PowerOnFinds) (s : State) : Host.Outcome State Fault Refusal :=
  .next (if s.powered then s else (s.startUp finds).beginFrame)

/-- POWER_LOSS (R31, R176). -/
def execPowerLoss (s : State) : Host.Outcome State Fault Refusal :=
  .next (if s.powered then s.losePower else s)

/-- FRAME_LENGTH_FAULT: the second length byte of a frame (R167). -/
def execFrameLengthFault (byte : Byte) (s : State) : Host.Outcome State Fault Refusal :=
  event (State.receiveBytes [byte]) s

/-- FRAME_RECEIVED: the run of bytes whose last one completes a frame (R167, R168). -/
def execFrameReceived (bytes : List Byte) (s : State) : Host.Outcome State Fault Refusal :=
  event (State.receiveBytes bytes) s

/-- STATION_BYTE_RECEIVED (R167). -/
def execStationByteReceived (byte : Byte) (s : State) : Host.Outcome State Fault Refusal :=
  event (State.receiveBytes [byte]) s

/-- RECEIVE_GAP_TIMEOUT (R168). -/
def execReceiveGapTimeout (s : State) : Host.Outcome State Fault Refusal :=
  event State.receiveGap s

/-- OUTGOING_FRAME_SENT (R170, R172, R175). -/
def execOutgoingFrameSent (s : State) : Host.Outcome State Fault Refusal :=
  event State.frameSent s

/-- LINE_FREE (R55). -/
def execLineFree (line : LineId) (s : State) : Host.Outcome State Fault Refusal :=
  match line with
  | .bay b => event (State.bayLineFree b) s
  | .port p => event (State.portLineFree p) s

/-- DATA_END_PASSED (R36, R39). -/
def execDataEndPassed (line : LineId) (s : State) : Host.Outcome State Fault Refusal :=
  match line with
  | .bay b => event (State.bayDataEnd b) s
  | .port p => event (State.portDataEnd p) s

/-- ANSWER_LIMIT (R38). -/
def execAnswerLimit (line : LineId) (s : State) : Host.Outcome State Fault Refusal :=
  match line with
  | .bay b => event (State.bayAnswerLimit b) s
  | .port p => event (State.portAnswerLimit p) s

/-- ROLL_CALL_ENDED (R8, R11). -/
def execRollCallEnded (bay : BayId) (shown : List Nat) (s : State) : Host.Outcome State Fault Refusal :=
  event (State.frameEnded .rollCall bay shown) s

/-- ENROL_ENDED (R9, R10). -/
def execEnrolEnded (bay : BayId) (shown : List Nat) (s : State) : Host.Outcome State Fault Refusal :=
  event (State.frameEnded .enrol bay shown) s

/-- RATE_ENDED (R13, R52). -/
def execRateEnded (bay : BayId) (s : State) : Host.Outcome State Fault Refusal :=
  event (State.frameRanOut .rate bay) s

/-- KEY_ENDED (R18). -/
def execKeyEnded (bay : BayId) (shown : List Nat) (s : State) : Host.Outcome State Fault Refusal :=
  event (State.frameEnded .key bay shown) s

/-- COMMIT_ENDED (R19). -/
def execCommitEnded (bay : BayId) (shown : List Nat) (s : State) : Host.Outcome State Fault Refusal :=
  event (State.frameEnded .commit bay shown) s

/-- POLL_ENDED (R22). -/
def execPollEnded (bay : BayId) (shown : List Nat) (s : State) : Host.Outcome State Fault Refusal :=
  event (State.frameEnded .poll bay shown) s

/-- DISMISS_ENDED (R20). -/
def execDismissEnded (bay : BayId) (s : State) : Host.Outcome State Fault Refusal :=
  event (State.frameRanOut .dismiss bay) s

/-- POLL_DUE (R22). -/
def execPollDue (bay : BayId) (addr : Addr) (s : State) : Host.Outcome State Fault Refusal :=
  event (State.pollFallsDue bay addr) s

/-- ROLL_CALL_DUE (R8, R9). -/
def execRollCallDue (bay : BayId) (s : State) : Host.Outcome State Fault Refusal :=
  event (State.rollFallsDue bay) s

/-- RESEND_DELAY_EXPIRED (R9, R18, R19). -/
def execResendDelayExpired (bay : BayId) (s : State) : Host.Outcome State Fault Refusal :=
  event (State.resendFallsDue bay) s

/-- LINE_STUCK_PASSIVE (R65). -/
def execLineStuckPassive (line : LineId) (s : State) : Host.Outcome State Fault Refusal :=
  match line with
  | .bay b => event (State.bayEchoFault b .stuckPassive) s
  | .port p => event (State.portEchoFault p) s

/-- ECHO_MISMATCH (R66). -/
def execEchoMismatch (line : LineId) (s : State) : Host.Outcome State Fault Refusal :=
  match line with
  | .bay b => event (State.bayEchoFault b .echoMismatch) s
  | .port p => event (State.portEchoFault p) s

/-- LINE_HELD_ACTIVE (R67). -/
def execLineHeldActive (line : LineId) (s : State) : Host.Outcome State Fault Refusal :=
  match line with
  | .bay b => event (State.bayHeldActive b) s
  | .port p => event (State.portHeldActive p) s

/-- LINE_RESET_ENDED (R26, R28, R56, R81). -/
def execLineResetEnded (bay : BayId) (s : State) : Host.Outcome State Fault Refusal :=
  event (State.lineResetOver bay) s

/-- LINE_TEST_FRAME_ENDED (R70). -/
def execLineTestFrameEnded (bay : BayId) (delay : Nat) (echo : List Nat) (s : State) : Host.Outcome State Fault Refusal :=
  event (State.lineTestOver bay delay echo) s

/-- LINE_LEVEL_CHANGE (R57, R75). -/
def execLineLevelChange (line : LineId) (active : Bool) (s : State) : Host.Outcome State Fault Refusal :=
  event (fun s => s.updLine line (LineEnd.shows s.time active)) s

/-- QUIET_COUNT_REACHED (R75). -/
def execQuietCountReached (bay : BayId) (s : State) : Host.Outcome State Fault Refusal :=
  event (State.quietReached bay) s

/-- POWER_TIMEOUT (R76). -/
def execPowerTimeout (bay : BayId) (s : State) : Host.Outcome State Fault Refusal :=
  event (State.powerTimeout bay) s

/-- OVER_CURRENT (R30, R78). -/
def execOverCurrent (bay : BayId) (s : State) : Host.Outcome State Fault Refusal :=
  event (State.senseOverCurrent bay) s

/-- TRANSPORT_COMPLETE (R105, R108). -/
def execTransportComplete (s : State) : Host.Outcome State Fault Refusal :=
  event (State.complete CipherJob.isTransport) s

/-- PREPARE_COMPLETE (R105, R111). -/
def execPrepareComplete (s : State) : Host.Outcome State Fault Refusal :=
  event (State.complete CipherJob.isPrepare) s

/-- CHECK_COMPLETE (R105, R112, R127, R141). -/
def execCheckComplete (s : State) : Host.Outcome State Fault Refusal :=
  event (State.complete CipherJob.isCheck) s

/-- IMPORT_COMPLETE (R105, R113, R130). -/
def execImportComplete (s : State) : Host.Outcome State Fault Refusal :=
  event (State.complete CipherJob.isImport) s

/-- PRESENCE_CONTACT_CLOSES (R138). -/
def execPresenceContactCloses (port : PortId) (s : State) : Host.Outcome State Fault Refusal :=
  event (State.contactCloses port) s

/-- PRESENCE_CONTACT_OPENS (R138, R142). -/
def execPresenceContactOpens (port : PortId) (s : State) : Host.Outcome State Fault Refusal :=
  event (State.contactOpens port) s

/-- SETTLING_TIME_EXPIRES (R138). -/
def execSettlingTimeExpires (port : PortId) (s : State) : Host.Outcome State Fault Refusal :=
  event (State.settled port) s

/-- READ_TOKEN_ENDED (R139, R140). -/
def execReadTokenEnded (port : PortId) (shown : List Nat) (s : State) : Host.Outcome State Fault Refusal :=
  event (State.portFrameEnded port shown) s

/-- READ_TOKEN_RESEND_DUE (R139). -/
def execReadTokenResendDue (port : PortId) (s : State) : Host.Outcome State Fault Refusal :=
  event (State.readResend port) s

/-- WINDOW_EXPIRY: the last second of an OPEN window has run. With more seconds left, as after a WINDOW_OPEN taken first, no
expiry happens (R149; log 28). -/
def execWindowExpiry (s : State) : Host.Outcome State Fault Refusal :=
  event State.expireIfOver s

/-- ENCLOSURE_INPUT_ACTIVE (R178, R179). -/
def execEnclosureInputActive (input : EnclosureInput) (s : State) : Host.Outcome State Fault Refusal :=
  event (State.inputActive input) s

/-- ENCLOSURE_INPUT_INACTIVE (R178). -/
def execEnclosureInputInactive (input : EnclosureInput) (s : State) : Host.Outcome State Fault Refusal :=
  event (State.inputInactive input) s

end Sys2Proof.Machine
end

