-- ==== Sys2Proof/Machine/Dispatch.lean ====
section
/-! DEFINITION. The meaning of every command, one arm for each constructor of Instr. -/

namespace Sys2Proof.Machine

def exec (i : Instr) (s : State) : Host.Outcome State Fault Refusal :=
  match i with
  | .batchStart tag args => Sys2Proof.Machine.execBatchStart tag args s
  | .batchAbort tag args => Sys2Proof.Machine.execBatchAbort tag args s
  | .bayStatus tag args => Sys2Proof.Machine.execBayStatus tag args s
  | .bayReset tag args => Sys2Proof.Machine.execBayReset tag args s
  | .bayPowerOn tag bay => Sys2Proof.Machine.execBayPowerOn tag bay s
  | .bayPowerOff tag bay => Sys2Proof.Machine.execBayPowerOff tag bay s
  | .lineTest tag args => Sys2Proof.Machine.execLineTest tag args s
  | .profileWrite tag args => Sys2Proof.Machine.execProfileWrite tag args s
  | .profileRead tag args => Sys2Proof.Machine.execProfileRead tag args s
  | .profileEnable tag args => Sys2Proof.Machine.execProfileEnable tag args s
  | .profileDisable tag args => Sys2Proof.Machine.execProfileDisable tag args s
  | .profileClear tag args => Sys2Proof.Machine.execProfileClear tag args s
  | .keyInfo tag args => Sys2Proof.Machine.execKeyInfo tag args s
  | .keyAssemble tag args => Sys2Proof.Machine.execKeyAssemble tag args s
  | .keyImport tag args => Sys2Proof.Machine.execKeyImport tag args s
  | .keyRetire tag args => Sys2Proof.Machine.execKeyRetire tag args s
  | .keyErase tag args => Sys2Proof.Machine.execKeyErase tag args s
  | .tokenStatus tag args => Sys2Proof.Machine.execTokenStatus tag args s
  | .windowOpen tag args => Sys2Proof.Machine.execWindowOpen tag args s
  | .windowClose tag args => Sys2Proof.Machine.execWindowClose tag args s
  | .recordsFetch tag args => Sys2Proof.Machine.execRecordsFetch tag args s
  | .timeSet tag args => Sys2Proof.Machine.execTimeSet tag args s
  | .status tag args => Sys2Proof.Machine.execStatus tag args s
  | .tamperClear tag args => Sys2Proof.Machine.execTamperClear tag args s
  | .restart tag args => Sys2Proof.Machine.execRestart tag args s
  | .frameLengthFault byte => Sys2Proof.Machine.execFrameLengthFault byte s
  | .frameReceived bytes => Sys2Proof.Machine.execFrameReceived bytes s
  | .receiveGapTimeout => Sys2Proof.Machine.execReceiveGapTimeout s
  | .outgoingFrameSent => Sys2Proof.Machine.execOutgoingFrameSent s
  | .lineFree line => Sys2Proof.Machine.execLineFree line s
  | .dataEndPassed line => Sys2Proof.Machine.execDataEndPassed line s
  | .answerLimit line => Sys2Proof.Machine.execAnswerLimit line s
  | .rollCallEnded bay shown => Sys2Proof.Machine.execRollCallEnded bay shown s
  | .enrolEnded bay shown => Sys2Proof.Machine.execEnrolEnded bay shown s
  | .rateEnded bay => Sys2Proof.Machine.execRateEnded bay s
  | .keyEnded bay shown => Sys2Proof.Machine.execKeyEnded bay shown s
  | .commitEnded bay shown => Sys2Proof.Machine.execCommitEnded bay shown s
  | .pollEnded bay shown => Sys2Proof.Machine.execPollEnded bay shown s
  | .dismissEnded bay => Sys2Proof.Machine.execDismissEnded bay s
  | .pollDue bay addr => Sys2Proof.Machine.execPollDue bay addr s
  | .rollCallDue bay => Sys2Proof.Machine.execRollCallDue bay s
  | .resendDelayExpired bay => Sys2Proof.Machine.execResendDelayExpired bay s
  | .lineStuckPassive line => Sys2Proof.Machine.execLineStuckPassive line s
  | .echoMismatch line => Sys2Proof.Machine.execEchoMismatch line s
  | .lineHeldActive line => Sys2Proof.Machine.execLineHeldActive line s
  | .lineResetEnded bay => Sys2Proof.Machine.execLineResetEnded bay s
  | .lineTestFrameEnded bay delay echo => Sys2Proof.Machine.execLineTestFrameEnded bay delay echo s
  | .lineLevelChange line active => Sys2Proof.Machine.execLineLevelChange line active s
  | .quietCountReached bay => Sys2Proof.Machine.execQuietCountReached bay s
  | .powerTimeout bay => Sys2Proof.Machine.execPowerTimeout bay s
  | .overCurrent bay => Sys2Proof.Machine.execOverCurrent bay s
  | .transportComplete => Sys2Proof.Machine.execTransportComplete s
  | .prepareComplete => Sys2Proof.Machine.execPrepareComplete s
  | .checkComplete => Sys2Proof.Machine.execCheckComplete s
  | .importComplete => Sys2Proof.Machine.execImportComplete s
  | .presenceContactCloses port => Sys2Proof.Machine.execPresenceContactCloses port s
  | .presenceContactOpens port => Sys2Proof.Machine.execPresenceContactOpens port s
  | .settlingTimeExpires port => Sys2Proof.Machine.execSettlingTimeExpires port s
  | .readTokenEnded port shown => Sys2Proof.Machine.execReadTokenEnded port shown s
  | .readTokenResendDue port => Sys2Proof.Machine.execReadTokenResendDue port s
  | .clockAdvance => Sys2Proof.Machine.execClockAdvance s
  | .windowExpiry => Sys2Proof.Machine.execWindowExpiry s
  | .enclosureInputActive input => Sys2Proof.Machine.execEnclosureInputActive input s
  | .enclosureInputInactive input => Sys2Proof.Machine.execEnclosureInputInactive input s
  | .powerOn finds => Sys2Proof.Machine.execPowerOn finds s
  | .powerLoss => Sys2Proof.Machine.execPowerLoss s
  | .stationByteReceived byte => Sys2Proof.Machine.execStationByteReceived byte s

end Sys2Proof.Machine
end

