-- ==== Sys2Proof/Machine/Timers.lean ====
section
/-! DEFINITION. The KT12's own timers and transmitters: the events that have run out at a moment of the timebase. They are
what an idle step queues (log 1; log 33 for the moments that are the sender's). -/

namespace Sys2Proof.Machine

/-- A command, if a condition holds. -/
def whenDue (p : Bool) (c : Instr) : List Instr := if p then [c] else []

/-- A moment that has come. -/
def momentReached (now : Nat) : Option Nat → Bool
  | some t => decide (t ≤ now)
  | none => false

/-- The event of a fault that an echo monitor declares (R65, R66). -/
def faultEvent (line : LineId) : LineFault → Instr
  | .stuckPassive => .lineStuckPassive line
  | .echoMismatch => .echoMismatch line
  | .heldActive => .lineHeldActive line

/-- The event of the end of a frame of a kind on a line, with what the line has shown (R39). -/
def endEvent (line : LineId) (kind : FrameKind) (shown : List Nat) : Option Instr :=
  match line, kind with
  | .bay b, .rollCall => some (.rollCallEnded b shown)
  | .bay b, .enrol => some (.enrolEnded b shown)
  | .bay b, .rate => some (.rateEnded b)
  | .bay b, .key => some (.keyEnded b shown)
  | .bay b, .commit => some (.commitEnded b shown)
  | .bay b, .poll => some (.pollEnded b shown)
  | .bay b, .dismiss => some (.dismissEnded b)
  | .bay _, .readToken => none
  | .port p, .readToken => some (.readTokenEnded p shown)
  | .port _, _ => none

/-- The periods, active first, that the closed loop shows of the test frame: every symbol but the last passive one, which runs
on (R64, R70). -/
def perfectEcho (f : LineFrame) : List Nat := (f.periods Rate.standard.unit).dropLast

/-- What a transmitter has come to: the data end of a frame that draws an answer (R39), the end of a line reset (R56) or of the
test frame (R70). -/
def transmitterDue (line : LineId) (now : Nat) : Tx → List Instr
  | .idle => []
  | .frame f rate sentAt passed =>
    whenDue (f.kind.drawsAnswer && !passed && decide (sentAt + f.ticks rate.unit ≤ now)) (.dataEndPassed line)
  | .reset since =>
    match line with
    | .bay b => whenDue (decide (since + Config.resetActive + Config.resetGuard ≤ now)) (.lineResetEnded b)
    | .port _ => []
  | .test since =>
    match line with
    | .bay b => whenDue (decide (since + Config.testFrameTicks ≤ now)) (.lineTestFrameEnded b 0 (perfectEcho testFrame))
    | .port _ => []

/-- The end of the frame in flight (R36, R38, R59). -/
def frameEndDue (line : LineId) (now : Nat) (l : LineEnd) : List Instr :=
  match l.tx, l.frameEnd now with
  | .frame f _ _ _, some (.ended shown) => (endEvent line f.kind shown).toList
  | .frame _ _ _ _, some .limit => [.answerLimit line]
  | _, _ => []

/-- What this moment brings on a line, in this order: the edge of the transmitter's own next symbol, which the line follows
unless a change of level reported beside it says otherwise (log 3); an echo fault (R64 to R66); the data end or another end of
the transmitter's own; the end of the frame (R36, R59); the end of the gap (R55); and a line held active, where the watch is
armed (R67). -/
def lineDue (line : LineId) (now : Nat) (watched : Bool) (l : LineEnd) : List Instr :=
  ((l.edge now).map (Instr.lineLevelChange line)).toList ++ ((l.echoFault now).map (faultEvent line)).toList ++
    transmitterDue line now l.tx ++ frameEndDue line now l ++ whenDue (l.gapRun now) (.lineFree line) ++
    whenDue (watched && l.held now) (.lineHeldActive line)

/-- The keep-alive of a context: 1,000 ms since its last-addressed time (R22). -/
def pollsDue (b : BayId) (now : Nat) (x : Bay) : List Instr :=
  if x.state.sends then
    (x.contexts.filter (fun c => !c.pollDue && c.phase != .done && decide (c.lastAddressed + Config.ms 1000 ≤ now))).map
      (fun c => .pollDue b c.addr)
  else []

/-- The wait of the roll phase's next frame (R8, R9). -/
def rollDue (b : BayId) (now : Nat) (x : Bay) : List Instr :=
  match x.state, x.roll with
  | .rolling, .rollCall wait => whenDue (momentReached now wait) (.rollCallDue b)
  | .rolling, .enrol _ _ _ _ wait => whenDue (momentReached now wait) (.resendDelayExpired b)
  | _, _ => []

/-- A bay's events that have run out. -/
def bayDue (b : BayId) (now : Nat) (x : Bay) : List Instr :=
  lineDue (.bay b) now x.watched x.line ++ pollsDue b now x ++ rollDue b now x ++
    whenDue (x.state == .loading && momentReached now x.resendAt) (.resendDelayExpired b) ++
    whenDue (x.state == .powering && x.quietLongEnough now) (.quietCountReached b) ++
    whenDue (x.state == .powering && momentReached now x.limitAt) (.powerTimeout b)

/-- A token port's events that have run out (R39, R55, R138, R139). -/
def portDue (p : PortId) (now : Nat) (q : Port) : List Instr :=
  lineDue (.port p) now (q.watched now) q.line ++
    match q.state with
    | .settling since => whenDue (decide (since + Config.ms 200 ≤ now)) (.settlingTimeExpires p)
    | .reading _ _ (.waiting t) => whenDue (decide (t ≤ now)) (.readTokenResendDue p)
    | _ => []

/-- The gap between bytes of a frame being assembled is more than 50 ms (R168). -/
def gapTimeoutDue (now : Nat) (l : Link) : Bool :=
  match l.assembler with
  | .assembling _ => decide (l.lastByteAt + Config.ms 50 < now)
  | .hunting => false

/-- Every event that has run out now, in a fixed order (log 25). An unpowered unit has its part clock only (R160). -/
def State.due (s : State) : List Instr :=
  whenDue (decide (s.lastAdvance + Config.ms 1000 ≤ s.time)) .clockAdvance ++
    if s.powered then
      whenDue (gapTimeoutDue s.time s.link) .receiveGapTimeout ++ portDue .a s.time s.portA ++ portDue .b s.time s.portB ++
        (allBays.map (fun b => bayDue b s.time (s.bay b))).flatten
    else []

/-- A tick of the timebase on an empty queue (log 1). -/
def State.tick (s : State) : State :=
  let s1 : State := { s with time := s.time + 1 }
  { s1 with pending := s1.due }

end Sys2Proof.Machine
end

