-- ==== Sys2Proof/Machine/Terminal.lean ====
section
/-! DEFINITION. The conduct of terminals and tokens on which the KT12's rules rely (R41, R43 to R51). It stands beside the
machine and is no part of its State: what a responder does reaches the KT12 as the periods a line shows (log 34). -/

namespace Sys2Proof.Machine

/-! ### Terminals -/

/-- A key a terminal holds under a position tag, with its generation (R43). -/
structure HeldKey where
  tag : Byte
  gen : Generation
  key : Key
deriving DecidableEq, Repr

/-- The dialogue states of a terminal, and a terminal without supply (R44). -/
inductive Dialogue where
  | unpowered
  | booting
  | unenrolled
  | enrolled (addr : Addr)
  | silent
deriving DecidableEq, Repr

/-- A terminal that works correctly (R43, R44). Its own acceptance test of a key is the manual's example: it may demand odd
parity (R48). -/
structure Terminal where
  serial : Serial
  fastCapable : Bool
  /-- The working transport key it was prepared with (R43). -/
  working : Key
  /-- The position tags it keeps (R48). -/
  keeps : List Byte
  demandsOdd : Bool
  committed : List HeldKey
  uncommitted : List HeldKey
  state : Dialogue
  rate : Rate
  /-- The rate of a RATE frame heard, which it takes at that frame's end (R50). -/
  rateNext : Option Rate
  /-- The last restart of its lapse timer (R47). -/
  restarted : Nat
  /-- Keys have been committed since enrolment (R40). -/
  committedSince : Bool
deriving DecidableEq, Repr

/-- The key held under a tag (R43). -/
def heldUnder (tag : Byte) (l : List HeldKey) : Option HeldKey := l.find? (fun k => k.tag == tag)

/-- Holding a key under its tag in place of the one held before (R43, R48, R49). -/
def holdKey (k : HeldKey) (l : List HeldKey) : List HeldKey := k :: l.filter (fun x => x.tag != k.tag)

/-- Every byte of a key has an odd number of one bits (R48, R109). -/
def oddThroughout (k : Key) : Bool := (wordBytes 16 k).all (fun b => oneBits b % 2 == 1)

/-- A terminal back to UNENROLLED at STANDARD rate, its uncommitted keys discarded: by a lapse or a line reset (R47, R50). -/
def Terminal.unenrol (t : Terminal) : Terminal :=
  { t with uncommitted := [], state := .unenrolled, rate := .standard, rateNext := none, committedSince := false }

/-- A line reset reaches every terminal but one that is booting or unpowered (R50). -/
def Terminal.lineReset (t : Terminal) : Terminal :=
  match t.state with
  | .unpowered | .booting => t
  | _ => t.unenrol

/-- An active period of `d` ticks on the line of a terminal whose own unit is `u` ticks: at 16 of its units or more it is a line
reset (R50). A frame that it interrupts is not heard, since its data end has not lasted its 8U (R45). -/
def Terminal.activePeriod (u d : Nat) (t : Terminal) : Terminal := if 16 * u ≤ d then t.lineReset else t

/-- An ENROLLED terminal lapses when 2,000 ms pass without a restart of its timer (R47). -/
def Terminal.lapse (now : Nat) (t : Terminal) : Terminal :=
  match t.state with
  | .enrolled _ => if t.restarted + Config.ms 2000 ≤ now then t.unenrol else t
  | _ => t

/-- The supply is removed: uncommitted keys are lost (R44, R50). -/
def Terminal.unpower (t : Terminal) : Terminal := { t with uncommitted := [], state := .unpowered, rate := .standard, rateNext := none }

/-- The supply is applied: the terminal boots (R44). -/
def Terminal.powerUp (t : Terminal) : Terminal := { t with state := .booting }

/-- Start-up completed: the terminal is UNENROLLED (R44). -/
def Terminal.booted (t : Terminal) : Terminal :=
  match t.state with
  | .booting => { t with state := .unenrolled }
  | _ => t

/-- A terminal in BOOTING drives its line active until its start-up is complete and then releases it; in every other state it
drives the line in its answers only (R44). -/
def Terminal.drives (t : Terminal) : Bool :=
  match t.state with
  | .booting => true
  | _ => false

/-- The level at which the terminals of a tray hold their line outside their answers: active while any of them drives it, until the
last has let go (R44, R52). -/
def trayActive (tray : List Terminal) : Bool := tray.any Terminal.drives

/-- What the line end of a bay is given when its tray goes from one state to another: the change of level, if the line changes
(R44, R57, R75). -/
def trayChange (b : BayId) (before after : List Terminal) : Option Instr :=
  if trayActive before = trayActive after then none else some (.lineLevelChange (.bay b) (trayActive after))

/-- The answer bytes of a terminal to a KEY, and what it then holds (R48). R48 gives the position echo for OK only; a REFUSED
or INTEGRITY answer carries the tag there and zero check value bytes (log 34). R48 does not say which of the two a KEY draws that
meets the conditions of both: it draws REFUSED (log 51). -/
def Terminal.takeKey (t : Terminal) (tag : Byte) (gen : Generation) (wrapped : Key) : Terminal × List Byte :=
  let key := Config.decipher t.working wrapped
  let stale := match heldUnder tag t.committed with | some k => decide (gen < k.gen) | none => false
  if !t.keeps.contains tag || stale then (t, [tag, 0, 0, 0, 0x05#8])
  else if t.demandsOdd && !oddThroughout key then (t, [tag, 0, 0, 0, 0x06#8])
  else
    ({ t with uncommitted := holdKey { tag := tag, gen := gen, key := key } t.uncommitted },
      [tag] ++ wordBytes 3 (checkValue key) ++ [0x02#8])

/-- A listed position is held uncommitted, or committed, with the listed generation (R49). -/
def listedIn (l : List HeldKey) (x : Byte × Generation) : Bool :=
  match heldUnder x.1 l with
  | some k => k.gen == x.2
  | none => false

/-- The answer of a terminal to a COMMIT, and what it then holds (R49). To a COMMIT that lists no position, which R34 does not have,
it answers COMMITTED, and no key has been committed by it (log 53). -/
def Terminal.takeCommit (t : Terminal) (list : List (Byte × Generation)) : Terminal × List Byte :=
  if list.all (listedIn t.uncommitted) then
    let chosen := t.uncommitted.filter (fun k => list.any (fun x => x.1 == k.tag))
    ({ t with
       committed := chosen.foldl (fun l k => holdKey k l) t.committed
       uncommitted := t.uncommitted.filter (fun k => !list.any (fun x => x.1 == k.tag))
       committedSince := t.committedSince || !list.isEmpty }, [0x04#8])
  else if list.all (listedIn t.committed) then (t, [0x04#8])
  else (t, [0x05#8])

/-- The holding state a POLL is answered with (R40, R49). -/
def Terminal.holding (t : Terminal) : Byte :=
  if !t.uncommitted.isEmpty then 0x03#8 else if t.committedSince then 0x04#8 else 0x02#8

/-- The positions listed in a COMMIT body after its count (R34, R185). The list is read to its end, its count byte is not compared
with it, and one or two bytes left over at the end are no position: what a terminal does with a body whose count and list differ the
manual does not say (log 53). -/
def commitList : List Byte → List (Byte × Generation)
  | t :: g1 :: g0 :: rest => (t, beWord 16 [g1, g0]) :: commitList rest
  | _ => []

/-- A frame addressed to an enrolled terminal restarts its lapse timer (R47). -/
def Terminal.restart (now : Nat) (t : Terminal) : Terminal := { t with restarted := now }

/-- An ENROL carrying the terminal's serial: it takes the address, restarts its lapse timer and answers ACCEPT; any other it ignores
(R46). An ENROL heard while ENROLLED begins a new enrolment, after which nothing has been committed yet: R40 does not say whether it
does (log 44). An ENROL of its serial that offers no address 1 to 4, in a body that R34 does not have, restarts the timer (R47) and is
otherwise ignored: the manual does not say what a terminal does with it (log 53). -/
def Terminal.hearEnrol (now : Nat) (f : LineFrame) (t : Terminal) : Terminal × Option (List Byte) :=
  if f.body.take 8 = wordBytes 8 t.serial then
    match f.body.drop 8 with
    | [a] =>
      match (finOfByte 4 a : Option Addr) with
      | some x => ({ t.restart now with state := .enrolled x, committedSince := false }, some [0x01#8])
      | none => (t.restart now, none)
    | _ => (t.restart now, none)
  else (t, none)

/-- A KEY to the terminal's address: its lapse timer restarts (R47), and it takes the key of the body (R48). A body that is no tag,
generation and wrapped key of 16 bytes, which R34 does not have, is otherwise ignored: the manual does not say what a terminal does
with it (log 53). -/
def Terminal.hearKey (now : Nat) (body : List Byte) (t : Terminal) : Terminal × Option (List Byte) :=
  match body with
  | tag :: g1 :: g0 :: wrapped =>
    if wrapped.length = 16 then
      let r := (t.restart now).takeKey tag (beWord 16 [g1, g0]) (beWord 128 wrapped)
      (r.1, some r.2)
    else (t.restart now, none)
  | _ => (t.restart now, none)

/-- A RATE frame heard: the terminal takes the rate it carries from the end of that frame; one that is not FAST capable does not
switch to FAST (R50). A RATE whose body is not one byte with the code of a rate is ignored: the manual does not say what a terminal
does with it (log 53). -/
def Terminal.hearRate (body : List Byte) (t : Terminal) : Terminal :=
  if body = [Rate.code .fast] then (if t.fastCapable then { t with rateNext := some .fast } else t)
  else if body = [Rate.code .standard] then { t with rateNext := some .standard }
  else t

/-- The end of a frame on the line: a terminal that heard RATE switches now (R50). -/
def Terminal.frameOver (t : Terminal) : Terminal := { t with rate := t.rateNext.getD t.rate, rateNext := none }

/-- What a terminal does with a frame it hears at the end of its data end, and the bytes it answers, if any (R44 to R50). The
address in the header is read in the kinds that R34 gives an address; of a ROLL_CALL, an ENROL or a RATE, whose header address R34
gives as 0, it is not read, and one with another is acted on (log 50). The body of a ROLL_CALL, a POLL or a DISMISS, which R34 gives as
none, is not read, and one that has a body is acted on (log 53). -/
def Terminal.hear (now : Nat) (f : LineFrame) (t : Terminal) : Terminal × Option (List Byte) :=
  match t.state with
  | .unenrolled =>
    match f.kind with
    | .rollCall => (t, some (wordBytes 8 t.serial ++ [if t.fastCapable then 0x01#8 else 0x00#8]))
    | .enrol => t.hearEnrol now f
    | _ => (t, none)
  | .enrolled a =>
    match f.kind with
    | .enrol => t.hearEnrol now f
    | .rate => (t.hearRate f.body, none)
    | .key => if f.addr = a.val + 1 then t.hearKey now f.body else (t, none)
    | .commit =>
      if f.addr = a.val + 1 then
        let r := (t.restart now).takeCommit (commitList f.body.tail)
        (r.1, some r.2)
      else (t, none)
    | .poll => if f.addr = a.val + 1 then (t.restart now, some [t.holding]) else (t, none)
    | .dismiss =>
      if f.addr = a.val + 1 then ({ t.restart now with uncommitted := [], state := .silent }, none) else (t, none)
    | _ => (t, none)
  | _ => (t, none)

/-! ### Hearing a frame (R45) -/

/-- The frame kind of a kind number (R34). -/
def FrameKind.ofNumber (n : Nat) : Option FrameKind :=
  [FrameKind.rollCall, .enrol, .rate, .key, .commit, .poll, .dismiss, .readToken].find? (fun k => k.number == n)

/-- The bits that periods stand for, the first on the level given; none where one of them is no bit (R54, R58). -/
def readBits (u : Nat) : Bool → List Nat → Option (List Bool)
  | _, [] => some []
  | active, d :: rest =>
    match classBit active (classify u d), readBits u (!active) rest with
    | some b, some bits => some (b :: bits)
    | _, _ => none

/-- The frame that a party whose own unit is `u` ticks reads from the periods before the data end: a frame start and a whole
number of bytes whose integrity test passes (R33, R35, R45). -/
def readFrame (u : Nat) : List Nat → Option LineFrame
  | [] => none
  | start :: periods =>
    if classify u start ≠ .frameEdge then none
    else
      match readBits u false periods with
      | none => none
      | some bits =>
        let bytes := bitsBytes bits
        if bits.length % 8 = 0 ∧ crc8 bytes = 0x00#8 then
          match bytes.dropLast with
          | [] => none
          | header :: body =>
            (FrameKind.ofNumber (header.toNat / 16)).map
              (fun k => { kind := k, addr := header.toNat % 16, body := body })
        else none

/-- The frame a party hears that holds a rate and whose own unit is `u` ticks, once the data end has run for `dataEnd` ticks: it
is sent at the rate held, it can be read, and its data end has lasted the full 8U, U being the nominal unit of that rate (R45,
R52; log 45). -/
def heardFrame (rate : Rate) (u : Nat) (periods : List Nat) (dataEnd : Nat) : Option LineFrame :=
  if inRange rate u ∧ 8 * rate.unit ≤ dataEnd then readFrame u periods else none

/-- What a party does on the line after a data end: nothing, the deferral mark alone, or an answer mark with its answer (R36,
R45). -/
inductive Reply where
  | silent
  | deferral
  | answer (bytes : List Byte)
deriving DecidableEq, Repr

/-- What the line shows from the start of the data end of a frame sent at unit `nominal`, when a party of unit `u` replies alone:
its mark begins when the data end has lasted 8 nominal units (R36, R41, R45; log 45). -/
def Reply.shown (nominal u : Nat) : Reply → List Nat
  | .silent => []
  | .deferral => [8 * nominal, 6 * u]
  | .answer bytes => answerPeriods nominal u bytes

/-- A terminal's reply to a frame heard: where it cannot produce its answer in time it sends the deferral mark, and expects the
same frame again; it has heard the frame, so its lapse timer runs from it (R45, R47; log 34). -/
def Terminal.reply (now : Nat) (ready : Bool) (f : LineFrame) (t : Terminal) : Terminal × Reply :=
  let heard := t.hear now f
  match heard.2 with
  | none => (heard.1, .silent)
  | some bytes => if ready then (heard.1, .answer bytes) else ({ t with restarted := heard.1.restarted }, .deferral)

/-- A terminal at the moment the data end has lasted 8U: a frame it does not hear it ignores entirely (R45). -/
def Terminal.respond (now u : Nat) (ready : Bool) (periods : List Nat) (dataEnd : Nat) (t : Terminal) : Terminal × Reply :=
  match heardFrame t.rate u periods dataEnd with
  | some f => t.reply now ready f
  | none => (t, .silent)

/-! ### Contention (R41, R42) -/

/-- Several parties that keep common time send bit lists on the wired-OR line: at each bit a 1 prevails, and those that sent 0
against it drop out. What the line shows, bit by bit (R41). -/
def contend : (length : Nat) → List (List Bool) → List Bool
  | 0, _ => []
  | n + 1, parties =>
    let shown := parties.any (fun p => p.headD false)
    shown :: contend n ((parties.filter (fun p => p.headD false == shown)).map List.tail)

/-- The length of a symbol that several parties form together: a passive one ends at the earliest edge to active, an active one
at the last release (R42). -/
def jointLength (active : Bool) : List Nat → Nat
  | [] => 0
  | d :: ds => ds.foldl (if active then max else min) d

/-- A party of unit `u` whose bit the line shows as a period of `d` ticks stays in the contest unless it sends 0 and measures
another symbol than its own (R41; log 46). -/
def staysIn (active : Bool) (d : Nat) (party : Nat × List Bool) : Bool :=
  party.2.headD false || classBit active (classify party.1 d) == some false

/-- Parties of units of their own contend with their bits, each symbol timed from the line's last change of level: the periods the
line shows, the first of them on the level given (R41, R42; log 46). -/
def contest : (length : Nat) → (active : Bool) → List (Nat × List Bool) → List Nat
  | 0, _, _ => []
  | _ + 1, _, [] => []
  | n + 1, active, p :: ps =>
    let d := jointLength active ((p :: ps).map (fun x => bitUnits active (x.2.headD false) * x.1))
    d :: contest n (!active) (((p :: ps).filter (staysIn active d)).map (fun x => (x.1, x.2.tail)))

/-- The length of the mark of a party with its unit (R36, R41). -/
def markLength : Nat × Reply → Nat
  | (_, .silent) => 0
  | (u, .deferral) => 6 * u
  | (u, .answer _) => 4 * u

/-- The parties that go on to their bits after a mark that the line showed for `m` ticks: those that answer and do not find the
line active beyond their own 4U, behind which another is deferring (R41; log 46). -/
def contestants (m : Nat) (parties : List (Nat × Reply)) : List (Nat × List Bool) :=
  parties.filterMap (fun x =>
    match x.2 with
    | .answer bytes => if classify x.1 m = .long then some (x.1, bytesBits (bytes ++ [crc8 bytes])) else none
    | _ => none)

/-- What the line shows from the start of the data end of a ROLL_CALL sent at unit `nominal`, when terminals with their units reply
to it: the marks begin at one moment and the line is released by the last of them, and those that stay contend bit by bit over
the serial, the capability and the integrity byte (R41, R42; log 45, 46). -/
def rollCallShown (nominal : Nat) (parties : List (Nat × Reply)) : List Nat :=
  let m := jointLength true (parties.map markLength)
  if m = 0 then [] else [8 * nominal, m] ++ contest 80 false (contestants m parties)

/-! ### Several answers to one frame (R42) -/

/-- The symbols of a reply in units, active first: its mark and its bits (R36, R54). -/
def Reply.units : Reply → List Nat
  | .silent => []
  | .deferral => [6]
  | .answer bytes => 4 :: bitPeriods 1 false (bytesBits (bytes ++ [crc8 bytes]))

/-- What the line shows of parties of units of their own that each send their symbols whole, none overruled, at most `n` of them and
the first on the level given: each symbol is timed from the line's last change of level, a passive one ends at the earliest edge to
active and an active one at the last release, and a party that has sent its last drives nothing more (R42; log 52). -/
def together : (n : Nat) → (active : Bool) → List (Nat × List Nat) → List Nat
  | 0, _, _ => []
  | n + 1, active, parties =>
    match parties.filter (fun x => !x.2.isEmpty) with
    | [] => []
    | sending =>
      jointLength active (sending.map (fun x => x.2.headD 0 * x.1)) ::
        together n (!active) (sending.map (fun x => (x.1, x.2.tail)))

/-- What the line shows from the start of the data end of a frame of a kind, when several parties with their units reply: to a
ROLL_CALL they contend; to any other frame, which two terminals of one serial both take for theirs, each sends its answer whole, and
the line carries them together (R41, R42; log 52). -/
def repliesShown (nominal : Nat) (kind : FrameKind) (parties : List (Nat × Reply)) : List Nat :=
  match kind with
  | .rollCall => rollCallShown nominal parties
  | _ =>
    let sent := parties.map (fun x => (x.1, x.2.units))
    match together ((sent.map (fun x => x.2.length)).foldl max 0) true sent with
    | [] => []
    | symbols => 8 * nominal :: symbols

/-! ### Tokens -/

/-- A custodian token that works correctly: it is ready some time after its insertion (R51). -/
structure CustodianToken where
  id : Word32
  role : Role
  component : Option Key
  ready : Bool
deriving DecidableEq, Repr

/-- The 25 bytes a token answers READ_TOKEN with (R51). -/
def Token.answerBytes (t : Token) : List Byte :=
  wordBytes 4 t.id ++ [t.role.code] ++
    match t.component with
    | some (c, check) => [0x01#8] ++ wordBytes 16 c ++ wordBytes 3 check
    | none => 0x00#8 :: List.replicate 19 0x00#8

/-- What a token holds, its component check the check value of its component (R51, R110). -/
def CustodianToken.holds (x : CustodianToken) : Token :=
  { id := x.id, role := x.role, component := x.component.map (fun k => (k, checkValue k)) }

/-- A token's reply: to READ_TOKEN its 25 bytes, or a deferral mark while it is not ready; to any other kind of frame none
(R51). It reads neither the header address nor the body of a READ_TOKEN, which R34 gives as 0 and none (log 53). -/
def CustodianToken.reply (f : LineFrame) (x : CustodianToken) : Reply :=
  match f.kind with
  | .readToken => if x.ready then .answer x.holds.answerBytes else .deferral
  | _ => .silent

/-- A token whose own unit is `u` ticks at the moment the data end has lasted 8U; it hears at STANDARD (R45, R51). -/
def CustodianToken.respond (u : Nat) (periods : List Nat) (dataEnd : Nat) (x : CustodianToken) : Reply :=
  match heardFrame .standard u periods dataEnd with
  | some f => x.reply f
  | none => .silent

end Sys2Proof.Machine
end

