-- ==== Sys2Proof/Safety.lean ====
section
/-! DEFINITION. The terms in which the statements speak: invariants from the rules that speak of the KT12 as a whole, the
conditions under which a request is taken at once, and the reply it then gets. -/

namespace Sys2Proof.Machine

/-! ### Invariants -/

/-- The report queue with the reservations of the running batches never exceeds 64 (R153). -/
def ReservationHolds (s : State) : Prop := s.report.records.length + s.running ≤ 64

/-- Records stand in append order, each number one more than its predecessor's, and the newest has the counter's value
(R152). -/
def NumbersRise (s : State) : Prop :=
  s.report.records.IsChain (fun x y => y.number = nextNumber x.number) ∧
    ∀ x ∈ s.report.records.getLast?, x.number = s.report.recordCounter

/-- At most 16 cipher requests hold places, and at most 2 of any one bay (R100). -/
def SharesHold (s : State) : Prop := s.cipher.held ≤ 16 ∧ ∀ b, s.cipher.heldBy b ≤ 2

/-- No stored match value has a bit set where its mask is clear (R83). -/
def ValuesMasked (s : State) : Prop := ∀ e p, (s.entry e).profile = some p → p.value &&& p.mask = p.value

/-- While OPEN the window holds 1 to 28,800 remaining seconds (R147). -/
def WindowInRange (s : State) : Prop := ∀ n ∈ s.window, 1 ≤ n ∧ n ≤ 28800

/-- The supply of a bay, by its state and fault reason (R72). -/
def Bay.supplyExpected (x : Bay) : Bool :=
  match x.state, x.faultReason with
  | .off, _ => false
  | .fault, some .overCurrent => false
  | .fault, some .powerTimeout => false
  | _, _ => true

/-- A line reset is in flight. -/
def Tx.isReset : Tx → Bool
  | .reset _ => true
  | _ => false

/-- The power state of every bay follows from its state, and a line reset is sent only on a powered line (R72). -/
def SupplyFollows (s : State) : Prop :=
  ∀ b, (s.bay b).supply = (s.bay b).supplyExpected ∧ ((s.bay b).line.tx.isReset = true → (s.bay b).supply = true)

/-- The request queue and the reject list of the station link hold at most 4 each (R169, R170). -/
def LinkBounded (s : State) : Prop := s.link.queue.length ≤ 4 ∧ s.link.rejects ≤ 4

/-- The address an ENROL under way offers: the one its serial's context holds, or else the number of contexts plus 1 (R5,
R9, R10). -/
def Bay.offerFits (x : Bay) : Prop :=
  match x.roll with
  | .enrol serial _ a _ _ =>
    (∃ c ∈ x.contexts, c.serial = serial ∧ c.addr = a) ∨
      ((∀ c ∈ x.contexts, c.serial ≠ serial) ∧ a.val = x.contexts.length)
  | _ => True

/-- The context tables hold at most 4 contexts each, at the addresses 1, 2, … in order, with distinct serials (R5). -/
def TablesOrdered (s : State) : Prop :=
  ∀ b, (s.bay b).contexts.length ≤ 4 ∧
    (s.bay b).contexts.map (fun c => c.addr.val) = List.range (s.bay b).contexts.length ∧
    ((s.bay b).contexts.map (fun c => c.serial)).Nodup ∧ (s.bay b).offerFits

/-- The generation of the assembly or import in progress is above the last generation of its slot (R121, R125, R129). -/
def ProgressFresh (s : State) : Prop :=
  match s.keys.progress with
  | some (.assembly r _ _ _) => (s.slot r.slot).lastGen < r.gen
  | some (.importing r _) => (s.slot r.slot).lastGen < r.gen
  | none => True

/-- The CRC-16 held with every retained store agrees with its contents (R98, R136, R156). -/
def ChecksAgree (s : State) : Prop :=
  s.checks.keyStore = keyStoreCheck s.keys.slots ∧ s.checks.profiles = profileCheck s.profiles ∧
    s.checks.queue = queueCheck s.report.records ∧ s.checks.counters = counterCheck s.report.counters

/-- A start-up finds no retained store changed under a CRC-16 that still agrees: what passes its check is what was left
(R183). The check is 16 bits, so a change that it does not see is possible; the invariants of the stores are stated for
start-ups that meet none. -/
def DecaySeen (f : PowerOnFinds) (s : State) : Prop :=
  (∀ x ∈ f.keyStore, keyStoreCheck x.contents = x.check → x.contents = s.keys.slots) ∧
    (∀ x ∈ f.profiles, profileCheck x.contents = x.check → x.contents = s.profiles) ∧
    (∀ x ∈ f.queue, queueCheck x.contents = x.check → x.contents = s.report.records) ∧
    ∀ x ∈ f.counters, counterCheck x.contents = x.check → x.contents = s.report.counters

/-- No start-up that a step would take now misses a decay (R183). -/
def FrontSeen (s : State) : Prop := ∀ f rest, s.pending = .powerOn f :: rest → DecaySeen f s

/-- While the tamper latch is set every slot is EMPTY, no assembly or import is in progress and the window is CLOSED (R135,
R150, R180). -/
def LatchedIsEmpty (s : State) : Prop :=
  s.latched = true →
    (∀ k, (s.slot k).content = .empty) ∧ s.keys.progress = none ∧ s.window = none

/-- While a context's key set is worked, every DERIVE position before its position index is confirmed, and in COMMITTING
every DERIVE position is (R17, R19). -/
def PositionsInOrder (s : State) : Prop :=
  ∀ b, ∀ c ∈ (s.bay b).contexts, ∀ p, s.profileOf c = some p →
    (c.phase = .loading → ∀ x ∈ p.numbered, x.1.derives = true → x.2 < c.posIndex →
      ((c.confirmed[x.2 - 1]?).join).isSome = true) ∧
    (c.phase = .committing → ∀ x ∈ p.numbered, x.1.derives = true → ((c.confirmed[x.2 - 1]?).join).isSome = true)

/-! ### Requests taken at once -/

/-- The unit is running and its request queue is empty, so that a request that arrives is given to its owner at once (R171,
R176). -/
def LinkIdle (s : State) : Prop :=
  s.powered = true ∧ s.started = true ∧ s.link.queue = [] ∧ s.link.head = .notGiven

/-- The cipher engine has nothing to take: it runs a request, or none is queued or waiting (R101, R103). -/
def EngineQuiet (s : State) : Prop := s.cipher.running.isSome = true ∨ (s.cipher.queue = [] ∧ s.cipher.waiting = [])

/-- The cipher unit has no request at all. -/
def CipherEmpty (s : State) : Prop := s.cipher.running = none ∧ s.cipher.queue = [] ∧ s.cipher.waiting = []

/-- A state whose request queue holds one request, given to its owner and not answered yet. -/
def State.holding (s : State) (c : RequestCode) (tag : Byte) (args : List Byte) : State :=
  { s with link := { s.link with queue := [{ tag := tag, code := c.code, args := args }], head := .withOwner } }

/-- A state whose request queue holds one request, answered with a result code and contents: the reply with the request's tag
waits for the outgoing direction, and is begun if it is free and no notice waits (R171, R172). -/
def State.answered (s : State) (c : RequestCode) (tag : Byte) (args : List Byte) (code : ResultCode)
    (contents : List Byte) : State :=
  State.beginFrame
    { s with
      link := { s.link with
        queue := [{ tag := tag, code := c.code, args := args }]
        head := .replyReady
        waiting := s.link.waiting ++ [.reply tag (code.code :: contents)] } }

/-- The command that is the arrival of a request; BAY_POWER has two (R185). -/
def requestOf (c : RequestCode) (tag : Byte) (args : List Byte) : Option Instr :=
  match c with
  | .batchStart => some (.batchStart tag args)
  | .batchAbort => some (.batchAbort tag args)
  | .bayStatus => some (.bayStatus tag args)
  | .bayReset => some (.bayReset tag args)
  | .bayPower =>
    match args with
    | [b, setting] =>
      if setting = 0x01#8 then some (.bayPowerOn tag b) else if setting = 0x00#8 then some (.bayPowerOff tag b) else none
    | _ => none
  | .lineTest => some (.lineTest tag args)
  | .profileWrite => some (.profileWrite tag args)
  | .profileRead => some (.profileRead tag args)
  | .profileEnable => some (.profileEnable tag args)
  | .profileDisable => some (.profileDisable tag args)
  | .profileClear => some (.profileClear tag args)
  | .keyInfo => some (.keyInfo tag args)
  | .keyAssemble => some (.keyAssemble tag args)
  | .keyImport => some (.keyImport tag args)
  | .keyRetire => some (.keyRetire tag args)
  | .keyErase => some (.keyErase tag args)
  | .tokenStatus => some (.tokenStatus tag args)
  | .windowOpen => some (.windowOpen tag args)
  | .windowClose => some (.windowClose tag args)
  | .recordsFetch => some (.recordsFetch tag args)
  | .timeSet => some (.timeSet tag args)
  | .status => some (.status tag args)
  | .tamperClear => some (.tamperClear tag args)
  | .restart => some (.restart tag args)

/-! ### Bays and lines -/

/-- The ROLL_CALL frame (R34). -/
def rollCallFrame : LineFrame := { kind := .rollCall, addr := 0, body := [] }

/-- A frame of a kind is in flight on a bay line, at the rate and from the moment given. -/
def Bay.hasFrame (x : Bay) (f : LineFrame) (rate : Rate) (sentAt : Nat) : Prop :=
  ∃ passed, x.line.tx = .frame f rate sentAt passed

/-- A bay line that is free, with nothing in flight (R55). -/
def Bay.lineReady (x : Bay) : Prop := x.line.tx = .idle ∧ x.line.free = true ∧ x.line.loopback = false

/-- A line end just after a frame sent at a rate has ended: the transmitter has released the line, the minimum gap is counted
from now (R55), and the held-active watch is armed since the data end of a frame that draws an answer, or from now (R67). -/
def LineEnd.gapFrom (now : Nat) (rate : Rate) (l : LineEnd) : LineEnd :=
  { l.released now with tx := .idle, free := false, gapAt := now, gapRate := rate, armedAt := l.armed now, afterFault := false }

/-- A line end just after it has reported a fault: as after a frame's end, but the held-active count starts afresh (R68). -/
def LineEnd.reported (now : Nat) (rate : Rate) (l : LineEnd) : LineEnd :=
  { l.gapFrom now rate with armedAt := now, afterFault := true }

/-- A line end that begins to transmit: the first tick of the drive takes its line active (R52, R53). -/
def LineEnd.begins (now : Nat) (tx : Tx) (l : LineEnd) : LineEnd :=
  { l with tx := tx, free := false, active := true, changes := l.recorded now }

/-- Nothing but the batch's own frame is due on a bay line (R7). -/
def Bay.onlyBatchFrame (x : Bay) : Prop :=
  ∀ c ∈ x.contexts, ¬ (c.pollDue = true ∧ c.phase ≠ .done) ∧ ¬ (c.phase = .reportWait ∧ c.recordAppended = true)

/-- A bay in LOADING works a DERIVE position of the terminal in hand, under a profile (R15, R17). -/
def PositionWorked (s : State) (b : BayId) (c : Context) (p : Profile) (d : Descriptor) : Prop :=
  s.powered = true ∧ (s.bay b).state = .loading ∧ (s.bay b).batch.hand = some c.addr ∧ (s.bay b).ctx c.addr = some c ∧
    c.phase = .loading ∧ c.outcome = none ∧ s.profileOf c = some p ∧ c.nextPosition p = some (d, c.posIndex)

/-- The KEY frame of the position worked is in flight, and the engine has nothing to take (R17). -/
def KeyInFlight (s : State) (b : BayId) (c : Context) (p : Profile) (d : Descriptor) (r : Prepared) (rate : Rate)
    (sentAt : Nat) : Prop :=
  PositionWorked s b c p d ∧ (s.bay b).result c.addr c.posIndex = some r ∧
    (s.bay b).hasFrame (keyFrame c.addr r) rate sentAt ∧ EngineQuiet s

/-- The COMMIT frame of the terminal in hand is in flight, and the engine has nothing to take (R19). -/
def CommitInFlight (s : State) (b : BayId) (c : Context) (p : Profile) (rate : Rate) (sentAt : Nat) : Prop :=
  s.powered = true ∧ (s.bay b).state = .loading ∧ (s.bay b).batch.hand = some c.addr ∧ (s.bay b).ctx c.addr = some c ∧
    c.phase = .committing ∧ c.outcome = none ∧ s.profileOf c = some p ∧
    (s.bay b).hasFrame (commitFrame c p) rate sentAt ∧ EngineQuiet s

/-- A PREPARE for a context would pass its start checks for every DERIVE position of its profile (R104). -/
def PreparesStart (s : State) (b : BayId) (c : Context) (p : Profile) : Prop :=
  s.window ≠ none ∧ s.latched = false ∧ (s.cipher.holder b c.addr).isSome = true ∧
    ∀ d ∈ p.keySet, ∀ slot, d.action = .derive slot → ((s.slot slot).available .base).isSome = true

/-- The terminal in hand of a bay needs nothing of the cipher unit now: it is committing or its position's result is held, and
prepare-ahead is OFF (R16, R17, R23). -/
def HandServed (s : State) (b : BayId) : Prop :=
  ∃ c p d, (s.bay b).handCtx = some c ∧ s.profileOf c = some p ∧ p.ahead = false ∧
    (c.phase = .committing ∨
      c.phase = .loading ∧ c.nextPosition p = some (d, c.posIndex) ∧
        ((s.bay b).result c.addr c.posIndex).isSome = true)

/-- A bay whose going on places no cipher request: it is not in LOADING, its terminal in hand is served, or it has none in hand
and none to take (R15 to R17). -/
def BayServed (s : State) (b : BayId) : Prop :=
  (s.bay b).state ≠ .loading ∨ HandServed s b ∨ ((s.bay b).batch.hand = none ∧ (s.bay b).nextToLoad = none)

/-- A batch is being aborted with a frame in flight, and no fault reason is recorded (R27). -/
def Aborting (s : State) (b : BayId) (f : LineFrame) (rate : Rate) (sentAt : Nat) : Prop :=
  s.powered = true ∧ EngineQuiet s ∧ (s.bay b).state = .stopping ∧ (s.bay b).batch.stopCause = some .aborted ∧
    (s.bay b).faultReason = none ∧ (s.bay b).hasFrame f rate sentAt

/-- A line end whose frame has ended and on which a line reset begins in the same event (R26, R27). -/
def LineEnd.resets (now : Nat) (rate : Rate) (l : LineEnd) : LineEnd := (l.gapFrom now rate).begins now (.reset now)

/-- Between two states only one bay, the cipher unit, the use counts, the report queue, the notice machine, the station link and
the CRC-16 of a store that changed may differ: every other bay, the profiles, the ports, the window, the enclosure, the clock,
the batch counter and the key store but for its use counts are as they were. -/
def OnlyBay (b : BayId) (s t : State) : Prop :=
  (∀ b', b' ≠ b → t.bay b' = s.bay b') ∧ t.profiles = s.profiles ∧ t.portA = s.portA ∧ t.portB = s.portB ∧
    t.window = s.window ∧ t.enclosure = s.enclosure ∧ t.checks.profiles = s.checks.profiles ∧ t.clock = s.clock ∧
    t.lastAdvance = s.lastAdvance ∧ t.time = s.time ∧ t.powered = s.powered ∧ t.started = s.started ∧
    t.pending = s.pending ∧ t.report.batchCounter = s.report.batchCounter ∧ t.keys.progress = s.keys.progress ∧
    (∀ k, t.slot k = s.slot k ∨ t.slot k = (s.slot k).countUse) ∧ t.link.queue = s.link.queue ∧
    t.link.assembler = s.link.assembler

/-- The bits of a serial as a terminal sends them (R33, R41). -/
def serialBits (serial : Serial) : List Bool := bytesBits (wordBytes 8 serial)

end Sys2Proof.Machine
end

