-- ==== Sys2Proof/Certificates/Slice0/Obligations.lean ====
section
/-! DEFINITION. The statements for the provers. Where a statement rests on a choice of the model, its docstring names the
log entry. -/

open Sys2Proof Sys2Proof.Machine

/-! ### The machine as a whole -/

/-- A step takes the command at the front of the queue and answers exec of it with the queue's rest; on an empty queue, the
model's own step (log 1), the timebase advances by one tick and the events that have run out are queued, and nothing else
changes. -/
def Obligations.StepRunsFront : Prop :=
  (∀ (c : Instr) (rest : List Instr) (s : State),
    step { s with pending := c :: rest } = exec c { s with pending := rest }) ∧
  ∀ s : State, s.pending = [] →
    step s = .next { s with time := s.time + 1, pending := State.due { s with time := s.time + 1 } }

/-- The state after reset, which is the state just after the first power-on from manufacture with the enclosure closed and no
token seated (log 10), meets every invariant stated below. -/
def Obligations.ResetMeetsInvariants : Prop :=
  exec (.powerOn { lid := false, mesh := false, contactA := false, contactB := false, keyStore := none,
                   profiles := none, queue := none, counters := none, latchFound := none, clockFound := none,
                   early := [] }) State.manufactured = .next State.reset ∧
    ReservationHolds State.reset ∧ NumbersRise State.reset ∧ SharesHold State.reset ∧ ValuesMasked State.reset ∧
    WindowInRange State.reset ∧ SupplyFollows State.reset ∧ LinkBounded State.reset ∧ TablesOrdered State.reset ∧
    ProgressFresh State.reset ∧ LatchedIsEmpty State.reset ∧ PositionsInOrder State.reset ∧ ChecksAgree State.reset

/-! ### Invariants that every step keeps -/

/-- The report queue with the reservations of the running batches never exceeds 64, and record numbers rise by one with the
counter holding the newest (R152, R153); stated for steps that start the unit up on no store changed under a CRC-16 that agrees
(R183). -/
def Obligations.ReportQueueKept : Prop :=
  ∀ s t : State, FrontSeen s → step s = .next t →
    (ReservationHolds s → ReservationHolds t) ∧ (NumbersRise s → NumbersRise t)

/-- The cipher request queue holds at most 16 requests, at most 2 of any one bay (R100). -/
def Obligations.CipherSharesKept : Prop :=
  ∀ s t : State, SharesHold s → step s = .next t → SharesHold t

/-- What every step keeps of the stores and queues: a stored match value never has a bit set where its mask is clear (R83;
stated for steps that start the unit up on no store changed under a CRC-16 that agrees, R183), an OPEN window holds 1 to 28,800
remaining seconds (R147), the request queue and the reject list hold at most 4 each (R169, R170), and the CRC-16 held with each
retained store agrees with its contents (R98, R136, R156; what it is computed over is a free value, log 8). -/
def Obligations.RangesKept : Prop :=
  ∀ s t : State, step s = .next t →
    (FrontSeen s → ValuesMasked s → ValuesMasked t) ∧ (WindowInRange s → WindowInRange t) ∧
      (LinkBounded s → LinkBounded t) ∧ (ChecksAgree s → ChecksAgree t)

/-- The power state of every bay follows from its state and fault reason, and a line reset runs only on a powered line
(R72). -/
def Obligations.SupplyKept : Prop :=
  ∀ s t : State, SupplyFollows s → step s = .next t → SupplyFollows t

/-- Every context table holds at most 4 contexts, at addresses 1, 2, … in order, with distinct serials (R5). -/
def Obligations.ContextTablesKept : Prop :=
  ∀ s t : State, TablesOrdered s → step s = .next t → TablesOrdered t

/-- A slot's last generation never decreases, except when a failed start-up check of the key store resets it (R121); with
it goes that the generation of an assembly or import in progress is above its slot's last generation. Stated for start-ups on
no store changed under a CRC-16 that agrees (R183). -/
def Obligations.LastGenerationNeverFalls : Prop :=
  (∀ s t : State, ProgressFresh s → step s = .next t → ProgressFresh t) ∧
    ∀ (c : Instr) (s t : State), (∀ f, c = .powerOn f → DecaySeen f s) → ProgressFresh s → exec c s = .next t →
      (∀ k, (s.slot k).lastGen ≤ (t.slot k).lastGen) ∨
        ∃ f, c = .powerOn f ∧ s.powered = false ∧
          keyStoreCheck (s.foundKeys f).contents ≠ (s.foundKeys f).check

/-- While the tamper latch is set every slot is EMPTY, nothing is being stored and the window is CLOSED (R135, R150,
R180). -/
def Obligations.LatchedStaysEmpty : Prop :=
  ∀ s t : State, LatchedIsEmpty s → step s = .next t → LatchedIsEmpty t

/-- The key set of every context is worked in order: no DERIVE position is passed over unconfirmed, and COMMITTING is
reached only with every one confirmed (R17, R19). -/
def Obligations.PositionsKept : Prop :=
  ∀ s t : State, TablesOrdered s → PositionsInOrder s → step s = .next t → PositionsInOrder t

/-! ### Rules that speak of the whole machine -/

/-- The cipher unit starts a TRANSPORT or PREPARE only while the window is open and the tamper latch is clear (R104). -/
def Obligations.DerivationsStartUnderWindow : Prop :=
  ∀ (s t : State) (r : Running), step s = .next t → t.cipher.running = some r → r.job.isDerivation = true →
    s.cipher.running.map (·.job) ≠ some r.job → t.window.isSome = true ∧ t.latched = false

/-- COMMIT is due only when every DERIVE position of the key set is confirmed, and it names every one of them (R19). -/
def Obligations.CommitOnlyConfirmed : Prop :=
  ∀ (s : State) (b : BayId) (f : LineFrame), PositionsInOrder s → s.nextFrame b = some f → f.kind = .commit →
    ∃ c ∈ (s.bay b).contexts, ∃ p, s.profileOf c = some p ∧ c.phase = .committing ∧ f = commitFrame c p ∧
      ∀ x ∈ p.numbered, x.1.derives = true → ((c.confirmed[x.2 - 1]?).join).isSome = true

/-- The order in which a bay controller sends what is due: a POLL of lowest address, then a DISMISS of lowest address to a
context whose record is appended, then the batch's own frame; in no other state than ROLLING and LOADING (R7, R20). -/
def Obligations.FramesInOrder : Prop :=
  ∀ (s : State) (b : BayId), TablesOrdered s →
    let x := s.bay b
    let polled := fun c : Context => c.pollDue = true ∧ c.phase ≠ .done
    let owed := fun c : Context => c.phase = .reportWait ∧ c.recordAppended = true
    (x.state ≠ .rolling → x.state ≠ .loading → s.nextFrame b = none) ∧
    (x.state = .rolling ∨ x.state = .loading →
      (∀ c ∈ x.contexts, polled c → (∀ d ∈ x.contexts, polled d → c.addr ≤ d.addr) →
        s.nextFrame b = some (bareFrame .poll c.addr)) ∧
      ((∀ d ∈ x.contexts, ¬ polled d) → ∀ c ∈ x.contexts, owed c → (∀ d ∈ x.contexts, owed d → c.addr ≤ d.addr) →
        s.nextFrame b = some (bareFrame .dismiss c.addr)) ∧
      ((∀ d ∈ x.contexts, ¬ polled d ∧ ¬ owed d) → s.nextFrame b = s.batchFrame b))

/-! ### Lines -/

/-- The integrity byte of R35: its calculation byte by byte, the bytes it covers in a frame and in an answer, the register that
reads 0x00 after the right byte and after no other, and the judgement of an assembled answer by it. -/
def Obligations.IntegrityByte : Prop :=
  crc8 [] = 0xFF#8 ∧
  (∀ (bytes : List Byte) (b : Byte),
    crc8 (bytes ++ [b]) =
      (fun r : Byte => if r.msb then (r <<< 1) ^^^ 0x07#8 else r <<< 1)^[8] (crc8 bytes ^^^ b)) ∧
  (∀ (bytes : List Byte) (last : Byte), crc8 (bytes ++ [last]) = 0x00#8 ↔ last = crc8 bytes) ∧
  (∀ f : LineFrame, f.bytes = (f.header :: f.body) ++ [crc8 (f.header :: f.body)]) ∧
  (∀ (nominal u : Nat) (bytes : List Byte),
    answerPeriods nominal u bytes = [8 * nominal, 4 * u] ++ bitPeriods u false (bytesBits (bytes ++ [crc8 bytes]))) ∧
  ∀ (len endAt : Nat) (bytes : List Byte), bytes.length = len + 1 → endAt < 50000 →
    judgeBits len endAt (bytesBits bytes) = if crc8 bytes = 0x00#8 then .clean (bytes.take len) else .garbled

/-- The CRC of a station-link frame, R166: its calculation byte by byte, the bytes it covers and its place in the frame, the
register that reads 0x0000 after the right CRC bytes and after no others, the judgement of a received frame by it, and the
manual's test of nine bytes. -/
def Obligations.FrameCheck : Prop :=
  crc16 [] = 0xFFFF#16 ∧
  (∀ (bytes : List Byte) (b : Byte),
    crc16 (bytes ++ [b]) =
      (fun r : BitVec 16 => if r.msb then (r <<< 1) ^^^ 0x1021#16 else r <<< 1)^[8] (crc16 bytes ^^^ (b ++ 0x00#8))) ∧
  (∀ (kind tag : Byte) (body : List Byte),
    let covered := beBytes 2 (body.length + 2) ++ [kind, tag] ++ body
    linkFrameBytes kind tag body = [0xC3#8] ++ covered ++ wordBytes 2 (crc16 covered)) ∧
  (∀ (bytes : List Byte) (c : BitVec 16), crc16 (bytes ++ wordBytes 2 c) = 0x0000#16 ↔ c = crc16 bytes) ∧
  (∀ (s : State) (bytes : List Byte), crc16 bytes ≠ 0x0000#16 →
    s.judgeFrame bytes = s.placeReject (bytes.getD 3 0x00#8) .frameCheck) ∧
  (∀ (s : State) (c : RequestCode) (n1 n0 tag : Byte) (args check : List Byte), check.length = 2 →
    let frame := [n1, n0, 0x01#8, tag, c.code] ++ args ++ check
    crc16 frame = 0x0000#16 → s.judgeFrame frame = s.requestArrives tag c.code args) ∧
  crc16 [0x31#8, 0x32#8, 0x33#8, 0x34#8, 0x35#8, 0x36#8, 0x37#8, 0x38#8, 0x39#8] = 0x29B1#16

/-- Answer-mark calibration: the decision of R62 and the unit it gives, for every length of the mark. -/
def Obligations.MarkCalibration : Prop :=
  ∀ (rate : Rate) (m : Nat),
    let u4 := (m + 2) / 4
    let u6 := (m + 3) / 6
    let low := rate.unit - rate.unit / 8
    let high := rate.unit + rate.unit / 8
    ((low ≤ u4 ∧ u4 ≤ high) → calibrate rate m = .answer u4 ∧ ¬ (low ≤ u6 ∧ u6 ≤ high)) ∧
    (¬ (low ≤ u4 ∧ u4 ≤ high) → (low ≤ u6 ∧ u6 ≤ high) → calibrate rate m = .deferral u6) ∧
    (¬ (low ≤ u4 ∧ u4 ≤ high) → ¬ (low ≤ u6 ∧ u6 ≤ high) → calibrate rate m = .garbled)

/-- What the receiver makes of an answer whose unit is anywhere in the calibration range: one sent by R33 is judged clean and
read back whole; silence is absent; a deferral mark alone is a deferral; an answer whose last byte is not the integrity byte of
the others is garbled (R33, R35, R37, R54, R58, R60, R62). -/
def Obligations.AnswersJudged : Prop :=
  (∀ (rate : Rate) (u : Nat) (bytes : List Byte), inRange rate u = true → bytes.length ≤ 25 →
    judgeAnswer rate bytes.length (answerPeriods rate.unit u bytes) = .clean bytes) ∧
  (∀ (rate : Rate) (len : Nat), judgeAnswer rate len [] = .absent) ∧
  (∀ (rate : Rate) (len u : Nat), inRange rate u = true → judgeAnswer rate len [8 * rate.unit, 6 * u] = .deferral) ∧
  (∀ (rate : Rate) (u : Nat) (bytes : List Byte) (last : Byte), inRange rate u = true → bytes.length ≤ 25 →
    last ≠ crc8 bytes →
    judgeAnswer rate bytes.length ([8 * rate.unit, 4 * u] ++ bitPeriods u false (bytesBits (bytes ++ [last]))) = .garbled)

/-- Of the terminals that contend for a roll call, the line shows the serial that is greatest as a 64-bit number: its bits, and,
where they keep one unit, its periods whole, the first of them passive (R41, R54). -/
def Obligations.GreatestSerialWins : Prop :=
  ∀ (serials : List Serial) (m : Serial), m ∈ serials → (∀ x ∈ serials, x ≤ m) →
    contend 64 (serials.map serialBits) = serialBits m ∧
    ∀ u, 0 < u → contest 64 false (serials.map (fun x => (u, serialBits x))) = bitPeriods u false (serialBits m)

/-! ### Profiles, derivation, the engine -/

/-- A serial matches an entry when, byte by byte, serial AND mask equals the value byte; with the particular masks R86 names:
all zero, all ones, and whole bytes set. -/
def Obligations.MatchIsBytewise : Prop :=
  ∀ (p : Profile) (serial : Serial),
    (p.matches serial = true ↔
      ∀ i < 8, ((wordBytes 8 serial).getD i 0 &&& (wordBytes 8 p.mask).getD i 0) = (wordBytes 8 p.value).getD i 0) ∧
    (p.mask = 0 → p.value = 0 → p.matches serial = true) ∧
    (p.mask = BitVec.allOnes 64 → (p.matches serial = true ↔ serial = p.value)) ∧
    (p.value &&& p.mask = p.value → (∀ i < 8, (wordBytes 8 p.mask).getD i 0 = 0x00#8 ∨ (wordBytes 8 p.mask).getD i 0 = 0xFF#8) →
      (p.matches serial = true ↔
        ∀ i < 8, (wordBytes 8 p.mask).getD i 0 = 0xFF#8 → (wordBytes 8 serial).getD i 0 = (wordBytes 8 p.value).getD i 0))

/-- The lookup answers the candidate of greatest priority and of those the lowest entry number, or no entry (R87). -/
def Obligations.LookupIsBestCandidate : Prop :=
  ∀ (s : State) (serial : Serial),
    (s.lookup serial = none ↔ ∀ e, (s.entry e).candidate serial = none) ∧
    ∀ e, s.lookup serial = some e ↔
      ∃ n, (s.entry e).candidate serial = some n ∧
        ∀ e' n', (s.entry e').candidate serial = some n' → n' < n ∨ (n' = n ∧ e ≤ e')

/-- The derivation block and the parity adjustment. R107: the block's 16 bytes, from which the serial, the tag and the
generation can be read back, enciphered under the base key. R109: ODD gives every byte an odd number of one bits by its least
significant bit alone, NONE keeps the key; the adjusted key is the one checked and wrapped, and the one a terminal with the
same working transport key holds once it unwraps it; a terminal that demands odd parity refuses a key with an even byte with
status INTEGRITY, a failed attempt. -/
def Obligations.DerivationAndParity : Prop :=
  (∀ (base : Key) (serial : Serial) (tag : Byte) (gen : Generation),
    wordBytes 16 (derivationBlock serial tag gen) =
      wordBytes 8 serial ++ [tag] ++ wordBytes 2 gen ++ ((wordBytes 8 serial).take 4).map (fun b => ~~~b) ++ [0x01#8] ∧
    derivedKey base serial tag gen = Config.encipher base (derivationBlock serial tag gen) ∧
    ∀ (serial' : Serial) (tag' : Byte) (gen' : Generation),
      derivationBlock serial tag gen = derivationBlock serial' tag' gen' → serial = serial' ∧ tag = tag' ∧ gen = gen') ∧
  (∀ k : Key, adjustParity .none k = k ∧
    ∀ i < 16,
      let before := (wordBytes 16 k).getD i 0
      let after := (wordBytes 16 (adjustParity .odd k)).getD i 0
      oneBits after % 2 = 1 ∧ (after &&& 0xFE#8) = (before &&& 0xFE#8) ∧ (oneBits before % 2 = 1 → after = before)) ∧
  (∀ (base working : Key) (serial : Serial) (tag : Byte) (gen : Generation) (parity : Parity),
    let position := adjustParity parity (derivedKey base serial tag gen)
    let r := prepare base working serial tag gen parity
    r.check = checkValue position ∧ r.wrapped = Config.encipher working position) ∧
  ∀ (working position : Key) (tag : Byte) (gen : Generation) (r : Prepared) (t : Terminal),
    t.working = working → t.keeps.contains tag = true → (∀ k, heldUnder tag t.committed = some k → k.gen ≤ gen) →
    let heard := t.takeKey tag gen (Config.encipher working position)
    (t.demandsOdd = true → (∃ i < 16, oneBits ((wordBytes 16 position).getD i 0) % 2 = 0) →
      heard.2.getLast? = some 0x06#8 ∧ heard.1 = t ∧ judgeKey r (.clean heard.2) = .failure false) ∧
    ((t.demandsOdd = true → ∀ i < 16, oneBits ((wordBytes 16 position).getD i 0) % 2 = 1) →
      heldUnder tag heard.1.uncommitted = some { tag := tag, gen := gen, key := position })

/-- A terminal that holds the same working transport key, keeps the tag and has no later generation committed confirms the
key the cipher unit prepared: its answer is judged confirmed, and it holds exactly the position key under the tag and
generation sent (R18, R48, R107, R109 to R111). The block transform is a free value (log 23): this holds whatever it is. -/
def Obligations.TerminalConfirmsPreparedKey : Prop :=
  ∀ (base working : Key) (serial : Serial) (tag : Byte) (gen : Generation) (parity : Parity) (t : Terminal),
    t.working = working → t.keeps.contains tag = true →
    (∀ k, heldUnder tag t.committed = some k → k.gen ≤ gen) → (t.demandsOdd = true → parity = .odd) →
    let r := prepare base working serial tag gen parity
    judgeKey r (.clean (t.takeKey tag gen r.wrapped).2) = .confirmed ∧
      heldUnder tag (t.takeKey tag gen r.wrapped).1.uncommitted =
        some { tag := tag, gen := gen, key := adjustParity parity (derivedKey base serial tag gen) }

/-- The engine's choice and its start checks: the URGENT request of earliest arrival, or with none the ORDINARY one, taken
whenever the engine is free and one is queued; the checks in their order, and the use count that rises with a start that passes
them (R103, R104, R122, R123). -/
def Obligations.EngineTakes : Prop :=
  (∀ (s : State) (r : CipherRequest),
    (s.cipher.choice = some r ↔
      ∃ before after, s.cipher.queue = before ++ r :: after ∧
        ((r.urgent = true ∧ ∀ x ∈ before, x.urgent = false) ∨
          (before = [] ∧ ∀ x ∈ s.cipher.queue, x.urgent = false))) ∧
    (s.engineTake = .nothing ↔ s.cipher.running.isSome = true ∨ s.cipher.queue = [])) ∧
  ∀ (s : State) (r : CipherRequest), s.cipher.running = none → s.cipher.choice = some r →
    let begin := fun (m : Material) (s' : State) =>
      Take.started { s' with cipher := s'.cipher.run r { job := r.job, urgent := r.urgent, withdrawn := false, material := m } }
    let stop := fun (reason : FailReason) =>
      Take.ended { job := r.job, urgent := r.urgent, withdrawn := false, material := .none } reason
        { s with cipher := s.cipher.run r { job := r.job, urgent := r.urgent, withdrawn := false, material := .none } }
    match r.job with
    | .transport _ _ _ k =>
      (s.window = none ∨ s.latched = true → s.engineTake = stop .windowClosed) ∧
      (s.window ≠ none → s.latched = false →
        (∀ info key, (s.slot k).content = .active info key → info.kind = .transportBase →
          s.engineTake = begin (.slot key info.gen) (s.setSlot k (s.slot k).countUse)) ∧
        ((∀ info key, (s.slot k).content = .active info key → info.kind ≠ .transportBase) →
          s.engineTake = stop .keyUnavailable))
    | .prepare b a _ _ _ k _ =>
      (s.window = none ∨ s.latched = true → s.engineTake = stop .windowClosed) ∧
      (s.window ≠ none → s.latched = false →
        (∀ info key working, (s.slot k).content = .active info key → info.kind = .base →
          s.cipher.holder b a = some working →
          s.engineTake = begin (.slotAndTransport key info.gen working) (s.setSlot k (s.slot k).countUse)) ∧
        ((∀ info key, (s.slot k).content = .active info key → info.kind ≠ .base) →
          s.engineTake = stop .keyUnavailable))
    | .portCheck _ _ => s.engineTake = begin .none s
    | .storeCheck _ => s.engineTake = begin .none s
    | .importKey k _ =>
      ∀ info key, (s.slot k).content = .active info key → info.kind = .transfer →
        s.engineTake = begin (.slot key info.gen) s

/-- Examining the waiting list: the queue grows by requests of the list in list order, none is lost, and every request that
still waits fails the admission test (R101). -/
def Obligations.WaitingListExamined : Prop :=
  ∀ c : Cipher,
    (∃ admitted, c.examine.queue = c.queue ++ admitted ∧ admitted.Sublist c.waiting ∧
      (admitted ++ c.examine.waiting).Perm c.waiting) ∧
    c.examine.waiting.Sublist c.waiting ∧ ∀ r ∈ c.examine.waiting, c.examine.admits r.job = false

/-- Waiting TERMINAL appends are admitted from the head of the list for as long as the room test passes: as many as there
is room for (R154). -/
def Obligations.WaitingAppendsAdmitted : Prop :=
  ∀ s : State,
    let n := min s.report.waiting.length (64 - (s.report.records.length + s.running))
    let t := s.admitWaiting s.report.waiting
    t.report.records.map (·.body) =
        s.report.records.map (·.body) ++ (s.report.waiting.take n).map (fun w => RecordBody.terminal w.record) ∧
      t.report.waiting = s.report.waiting.drop n

/-! ### Station requests

Each is stated for a request that arrives on an idle link, so that its owner takes it at once (R171). -/

/-- BAY_STATUS, PROFILE_READ, KEY_INFO and TOKEN_STATUS answer with the bay, entry, slot or ports as they stand, or with
BAD_ARGUMENT, and change nothing else (R32, R92, R134, R145); STATUS answers with the state of the whole unit, every flag is
lowered, the notice machine is ARMED and a notice not yet begun is withdrawn (R164). -/
def Obligations.ReadingRequestsAnswer : Prop :=
  ∀ (s : State) (tag : Byte), LinkIdle s →
    (∀ b : BayId, exec (.bayStatus tag [finByte b]) s =
      .next (s.answered .bayStatus tag [finByte b] .ok (s.bay b).reply)) ∧
    (∀ args, readBay args = none →
      exec (.bayStatus tag args) s = .next (s.answered .bayStatus tag args .badArgument [])) ∧
    (∀ e : EntryId, exec (.profileRead tag [finByte e]) s =
      .next (s.answered .profileRead tag [finByte e] .ok (s.entryReply e))) ∧
    (∀ args, readEntry args = none →
      exec (.profileRead tag args) s = .next (s.answered .profileRead tag args .badArgument [])) ∧
    (∀ k : SlotId, exec (.keyInfo tag [finByte k]) s =
      .next (s.answered .keyInfo tag [finByte k] .ok (s.slotReply k))) ∧
    (∀ args, readSlot args = none →
      exec (.keyInfo tag args) s = .next (s.answered .keyInfo tag args .badArgument [])) ∧
    exec (.tokenStatus tag []) s =
      .next (s.answered .tokenStatus tag [] .ok (s.portA.state.bytes ++ s.portB.state.bytes)) ∧
    (∀ args, args ≠ [] →
      exec (.tokenStatus tag args) s = .next (s.answered .tokenStatus tag args .badArgument [])) ∧
    exec (.status tag []) s =
      .next (({ s with notice := { flags := noFlags, armed := true }
                       link := { s.link with noticeWanted := false } } : State).answered .status tag [] .ok s.statusReply) ∧
    ∀ args, args ≠ [] → exec (.status tag args) s = .next (s.answered .status tag args .badArgument [])

/-- TIME_SET sets the part clock alone and answers with the value before and the value now (R160). RECORDS_FETCH returns the
oldest records, 1 to 8 of them as asked, and removes them; TERMINAL appends that wait are admitted in the same event, as many as
there is then room for, and the DISMISSes of their contexts become owed (R20, R154, R155). -/
def Obligations.ClockSetAndRecordsFetched : Prop :=
  ∀ (s : State) (tag : Byte), LinkIdle s →
    (∀ v : Word32, exec (.timeSet tag (wordBytes 4 v)) s =
      .next (({ s with clock := v } : State).answered .timeSet tag (wordBytes 4 v) .ok (wordBytes 4 s.clock ++ wordBytes 4 v))) ∧
    (∀ args, args.length ≠ 4 → exec (.timeSet tag args) s = .next (s.answered .timeSet tag args .badArgument [])) ∧
    (∀ asked : Byte, s.report.waiting = [] → EngineQuiet s →
      let n := if asked.toNat = 0 then 1 else if 8 < asked.toNat then 8 else asked.toNat
      let out := s.report.records.take n
      exec (.recordsFetch tag [asked]) s =
        .next ((s.setRecords (s.report.records.drop n)).answered .recordsFetch tag
          [asked] .ok (natByte out.length :: (out.map Record.bytes).flatten))) ∧
    (∀ asked : Byte, TablesOrdered s → EngineQuiet s → (s.cipher.running.isSome = true ∨ ∀ w ∈ s.report.waiting, BayServed s w.bay) →
      (∀ w ∈ s.report.waiting, ∃ c, (s.bay w.bay).ctx w.addr = some c ∧ c.phase = .reportWait) →
      let n := if asked.toNat = 0 then 1 else if 8 < asked.toNat then 8 else asked.toNat
      let out := s.report.records.take n
      let left := s.report.records.drop n
      let m := min s.report.waiting.length (64 - (left.length + s.running))
      let reply := 0x00#8 :: natByte out.length :: (out.map Record.bytes).flatten
      ∃ t, exec (.recordsFetch tag [asked]) s = .next t ∧
        t.report.records.map (·.body) =
          left.map (·.body) ++ (s.report.waiting.take m).map (fun w => RecordBody.terminal w.record) ∧
        t.report.waiting = s.report.waiting.drop m ∧
        (t.link.sending = some (.reply tag reply) ∨ .reply tag reply ∈ t.link.waiting) ∧
        ∀ w ∈ s.report.waiting.take m, ∃ c, (t.bay w.bay).ctx w.addr = some c ∧ c.phase = .reportWait ∧
          c.recordAppended = true) ∧
    (∀ args, args.length ≠ 1 → s.report.waiting = [] → EngineQuiet s →
      exec (.recordsFetch tag args) s = .next (s.answered .recordsFetch tag args .badArgument []))

/-- PROFILE_WRITE stores the profile with its priority clamped to 1 to 15 and its value masked, keeps the entry's state
(DISABLED if it was EMPTY) and answers with the entry as stored; an entry in use and a malformed body are refused and
change nothing. PROFILE_ENABLE, PROFILE_DISABLE and PROFILE_CLEAR: the state of a stored entry changes and its profile does
not, an EMPTY entry stays EMPTY with nothing changed, and an entry in use is not cleared (R82, R90, R91, R93 to R95). -/
def Obligations.ProfilesChanged : Prop :=
  (∀ (s : State) (tag : Byte) (args : List Byte), LinkIdle s →
      (readProfileWrite args = none →
        exec (.profileWrite tag args) s = .next (s.answered .profileWrite tag args .badArgument [])) ∧
      ∀ e p, readProfileWrite args = some (e, p) →
        (s.inUse e = true → exec (.profileWrite tag args) s = .next (s.answered .profileWrite tag args .inUse [])) ∧
        (s.inUse e = false →
          let stored := { p with
            priority := if p.priority.toNat < 1 then 1#8 else if 15 < p.priority.toNat then 15#8 else p.priority
            value := p.value &&& p.mask }
          let on := match s.entry e with | .stored true _ => true | _ => false
          let t := s.setEntry e (.stored on stored)
          exec (.profileWrite tag args) s = .next (t.answered .profileWrite tag args .ok (t.entryReply e)))) ∧
  ∀ (s : State) (tag : Byte) (e : EntryId), LinkIdle s →
    (∀ on p, s.entry e = .stored on p →
      exec (.profileEnable tag [finByte e]) s =
        .next ((s.setEntry e (.stored true p)).answered .profileEnable tag [finByte e] .ok [0x02#8]) ∧
      exec (.profileDisable tag [finByte e]) s =
        .next ((s.setEntry e (.stored false p)).answered .profileDisable tag [finByte e] .ok [0x01#8])) ∧
    (s.entry e = .empty → ChecksAgree s →
      exec (.profileEnable tag [finByte e]) s = .next (s.answered .profileEnable tag [finByte e] .ok [0x00#8]) ∧
      exec (.profileDisable tag [finByte e]) s = .next (s.answered .profileDisable tag [finByte e] .ok [0x00#8])) ∧
    (s.inUse e = true →
      exec (.profileClear tag [finByte e]) s = .next (s.answered .profileClear tag [finByte e] .inUse [])) ∧
    (s.inUse e = false →
      exec (.profileClear tag [finByte e]) s =
        .next ((s.setEntry e .empty).answered .profileClear tag [finByte e] .ok [])) ∧
    (∀ args, readEntry args = none →
      exec (.profileEnable tag args) s = .next (s.answered .profileEnable tag args .badArgument []) ∧
      exec (.profileDisable tag args) s = .next (s.answered .profileDisable tag args .badArgument []) ∧
      exec (.profileClear tag args) s = .next (s.answered .profileClear tag args .badArgument []))

/-- KEY_RETIRE and KEY_ERASE, in the order of their conditions: a slot ACTIVE that nothing uses becomes RETIRED with its
description and without its value; a RETIRED slot becomes EMPTY with its last generation kept; each with its KEY_CHANGE
record, in one event (R124, R132, R133). -/
def Obligations.KeysRetiredAndErased : Prop :=
  ∀ (s : State) (tag : Byte) (k : SlotId), LinkIdle s →
    (∀ i key, (s.slot k).content = .active i key →
      ((s.cipher.names k || s.slotHeld k) = true →
        exec (.keyRetire tag [finByte k]) s = .next (s.answered .keyRetire tag [finByte k] .inUse [])) ∧
      (s.cipher.names k = false → s.slotHeld k = false → s.room = false →
        exec (.keyRetire tag [finByte k]) s = .next (s.answered .keyRetire tag [finByte k] .queueFull [])) ∧
      (s.cipher.names k = false → s.slotHeld k = false → s.room = true →
        exec (.keyRetire tag [finByte k]) s =
          .next (((s.setSlot k { lastGen := (s.slot k).lastGen, content := .retired i }).appendRecord
            (.keyChange { slot := k, action := .retired, kind := i.kind, gen := i.gen, check := some i.check,
                          custodians := none })).answered .keyRetire tag [finByte k] .ok [])) ∧
      exec (.keyErase tag [finByte k]) s = .next (s.answered .keyErase tag [finByte k] .slotState [])) ∧
    (∀ i, (s.slot k).content = .retired i →
      exec (.keyRetire tag [finByte k]) s = .next (s.answered .keyRetire tag [finByte k] .slotState []) ∧
      (s.room = false →
        exec (.keyErase tag [finByte k]) s = .next (s.answered .keyErase tag [finByte k] .queueFull [])) ∧
      (s.room = true →
        exec (.keyErase tag [finByte k]) s =
          .next (((s.setSlot k { lastGen := (s.slot k).lastGen, content := .empty }).appendRecord
            (.keyChange { slot := k, action := .erased, kind := i.kind, gen := i.gen, check := none,
                          custodians := none })).answered .keyErase tag [finByte k] .ok []))) ∧
    ((s.slot k).content = .empty →
      exec (.keyRetire tag [finByte k]) s = .next (s.answered .keyRetire tag [finByte k] .slotState []) ∧
      exec (.keyErase tag [finByte k]) s = .next (s.answered .keyErase tag [finByte k] .slotState [])) ∧
    (∀ args, readSlot args = none →
      exec (.keyRetire tag args) s = .next (s.answered .keyRetire tag args .badArgument []) ∧
      exec (.keyErase tag args) s = .next (s.answered .keyErase tag args .badArgument []))

/-- KEY_ASSEMBLE: the table of its conditions, and an accepted one: the assembly holder takes the exclusive OR of the
components with the request and the token IDs, and its CHECK is placed, which an idle cipher unit runs at once (R103,
R125, R126). -/
def Obligations.AssemblyAccepted : Prop :=
  ∀ (s : State) (tag : Byte) (args : List Byte), LinkIdle s →
    let refused := fun code => exec (.keyAssemble tag args) s = .next (s.answered .keyAssemble tag args code [])
    (readKeyAssemble args = none → refused .badArgument) ∧
    ∀ r, readKeyAssemble args = some r →
      (s.latched = true → refused .tampered) ∧
      (s.latched = false →
        ((s.slot r.slot).isActive = true → refused .slotState) ∧
        ((s.slot r.slot).isActive = false →
          (r.gen ≤ (s.slot r.slot).lastGen → refused .generationStale) ∧
          ((s.slot r.slot).lastGen < r.gen →
            (s.components = none → refused .tokenAbsent) ∧
            (∀ a b, s.components = some (a, b) →
              (s.twoTokens = .invalid → refused .tokenInvalid) ∧
              (∀ idA idB, s.twoTokens = .satisfied idA idB →
                (s.room = false → refused .queueFull) ∧
                (s.room = true → CipherEmpty s →
                  exec (.keyAssemble tag args) s =
                    .next ((({ s with
                        keys := { s.keys with progress := some (.assembly r (a ^^^ b) idA idB) }
                        cipher := { s.cipher with
                          running := some { job := .storeCheck (a ^^^ b), urgent := false, withdrawn := false,
                                            material := .none } } } : State).holding
                      .keyAssemble tag args).beginFrame)))))))

/-- KEY_IMPORT: the table of its conditions, and an accepted one, whose IMPORT an idle cipher unit runs at once with the
transfer key it reads at the start (R103, R123, R129, R130). -/
def Obligations.ImportAccepted : Prop :=
  ∀ (s : State) (tag : Byte) (args : List Byte), LinkIdle s →
    let refused := fun code => exec (.keyImport tag args) s = .next (s.answered .keyImport tag args code [])
    (readKeyImport args = none → refused .badArgument) ∧
    ∀ r transfer wrapped, readKeyImport args = some (r, transfer, wrapped) →
      (s.latched = true → refused .tampered) ∧
      (s.latched = false →
        (s.window = none → refused .windowClosed) ∧
        (s.window ≠ none →
          ((s.slot r.slot).isActive = true → refused .slotState) ∧
          ((s.slot r.slot).isActive = false →
            (r.gen ≤ (s.slot r.slot).lastGen → refused .generationStale) ∧
            ((s.slot r.slot).lastGen < r.gen →
              ((s.slot transfer).available .transfer = none → refused .keyUnavailable) ∧
              (∀ key gen, (s.slot transfer).available .transfer = some (key, gen) →
                (s.room = false → refused .queueFull) ∧
                (s.room = true → CipherEmpty s →
                  exec (.keyImport tag args) s =
                    .next ((({ s with
                        keys := { s.keys with progress := some (.importing r transfer) }
                        cipher := { s.cipher with
                          running := some { job := .importKey transfer wrapped, urgent := false, withdrawn := false,
                                            material := .slot key gen } } } : State).holding
                      .keyImport tag args).beginFrame)))))))

/-- WINDOW_OPEN: the table of its conditions, and an accepted one: 15 to 480 minutes are granted, the window holds sixty
times as many seconds, and the WINDOW_OPEN record and the reply carry the expiry time (R146, R148). -/
def Obligations.WindowOpened : Prop :=
  ∀ (s : State) (tag m1 m0 : Byte), LinkIdle s →
    let args := [m1, m0]
    let refused := fun code => exec (.windowOpen tag args) s = .next (s.answered .windowOpen tag args code [])
    (s.latched = true → refused .tampered) ∧
    (s.latched = false →
      ((s.portA.state.token = none ∨ s.portB.state.token = none) → refused .tokenAbsent) ∧
      (∀ a b, s.portA.state.token = some a → s.portB.state.token = some b →
        (a.role ≠ .custodianA ∨ b.role ≠ .custodianB ∨ a.id = b.id → refused .tokenInvalid) ∧
        (a.role = .custodianA → b.role = .custodianB → a.id ≠ b.id →
          (64 ≤ s.report.records.length + s.running → refused .queueFull) ∧
          (s.report.records.length + s.running < 64 →
            let minutes := max 15 (min 480 (m1.toNat * 256 + m0.toNat))
            let expiry := s.clock + BitVec.ofNat 32 (minutes * 60)
            exec (.windowOpen tag args) s =
              .next ((({ s with window := some (minutes * 60) } : State).appendRecord
                (.windowOpen a.id b.id minutes expiry)).answered .windowOpen tag args .ok
                  (beBytes 2 minutes ++ wordBytes 4 expiry)))))) ∧
    (∀ other, other.length ≠ 2 →
      exec (.windowOpen tag other) s = .next (s.answered .windowOpen tag other .badArgument []))

/-- WINDOW_CLOSE answers OK and leaves the window CLOSED; on a unit with no cipher request and no bay in a batch it changes
nothing else. WINDOW_EXPIRY once the last second has run, and the advance of the part clock that takes the remaining seconds to 0,
do the same and raise WINDOW_EXPIRED; with more seconds left, as after a WINDOW_OPEN taken first, no expiry happens, and any other
advance takes one from the remaining seconds. In the event of the closing, every context that has a TRANSPORT or PREPARE queued or
waiting fails WINDOW_CLOSED, the running request is left alone, and every bay in ROLLING ends its roll phase: after the ROLL_CALL
or ENROL in flight, or at once by the rate decision (R12, R13, R21, R24, R115, R147, R149, R150, R160; log 28). -/
def Obligations.WindowClosesAndRunsDown : Prop :=
  (∀ (s : State) (tag : Byte), LinkIdle s →
    (s.window = none → exec (.windowClose tag []) s = .next (s.answered .windowClose tag [] .ok [])) ∧
    (s.window ≠ none → CipherEmpty s → (∀ b, (s.bay b).isRunning = false) →
      exec (.windowClose tag []) s =
        .next (({ s with window := none } : State).answered .windowClose tag [] .ok [])) ∧
    (∃ t, exec (.windowClose tag []) s = .next t ∧ t.window = none ∧ t.clock = s.clock) ∧
    (∀ args, args ≠ [] → exec (.windowClose tag args) s = .next (s.answered .windowClose tag args .badArgument []))) ∧
  (∀ s : State, s.powered = true →
    (s.window = none ∨ s.window = some 1 → ∃ t, exec .windowExpiry s = .next t ∧ t.window = none ∧ t.clock = s.clock) ∧
    (∀ n, s.window = some n → 2 ≤ n → exec .windowExpiry s = .next s.beginFrame) ∧
    (s.window = some 1 → CipherEmpty s → (∀ b, (s.bay b).isRunning = false) →
      exec .windowExpiry s = .next (({ s with window := none } : State).raise .windowExpired).beginFrame)) ∧
  (∀ (s : State) (tag : Byte) (i : Instr), s.powered = true → s.window ≠ none →
    (i = .windowClose tag [] ∧ LinkIdle s) ∨ ((i = .windowExpiry ∨ i = .clockAdvance) ∧ s.window = some 1) →
    ∃ t, exec i s = .next t ∧ t.window = none ∧
      (∀ r ∈ s.cipher.queue ++ s.cipher.waiting, ∀ b a c, r.job.context = some (b, a) → (s.bay b).ctx a = some c →
        c.outcome = none → ∃ c', (t.bay b).ctx a = some c' ∧ c'.outcome = some (.failed .windowClosed)) ∧
      (∀ r, s.cipher.running = some r →
        ∃ r', t.cipher.running = some r' ∧ r'.job = r.job ∧ r'.material = r.material) ∧
      ∀ b, (s.bay b).state = .rolling → (s.bay b).rollOver = false →
        ((s.bay b).rollInFlight = true → (t.bay b).state = .rolling ∧ (t.bay b).rollOver = true) ∧
        ((s.bay b).rollInFlight = false →
          ((∃ c ∈ (s.bay b).contexts, c.phase ≠ .done) → (t.bay b).state = .loading ∧
            (t.bay b).batch.inUse =
              (if (s.bay b).batch.requested = .fast ∧ ∀ c ∈ (s.bay b).contexts, c.fastCapable = true then .fast
                else .standard)) ∧
          ((∀ c ∈ (s.bay b).contexts, c.phase = .done ∧ c.outcome.isSome = true) → (t.bay b).state = .ready ∧ (t.bay b).contexts = [] ∧
            (t.bay b).batch.stopCause = some .complete))) ∧
  (∀ s : State,
    (s.powered = false → s.window = none →
      exec .clockAdvance s = .next { s with clock := s.clock + 1, lastAdvance := s.time }) ∧
    (s.powered = true →
      (s.window = none → exec .clockAdvance s =
        .next ({ s with clock := s.clock + 1, lastAdvance := s.time } : State).beginFrame) ∧
      (∀ n, s.window = some n → 2 ≤ n → exec .clockAdvance s =
        .next ({ s with clock := s.clock + 1, lastAdvance := s.time, window := some (n - 1) } : State).beginFrame) ∧
      (s.window = some 1 → ∃ t, exec .clockAdvance s = .next t ∧ t.window = none ∧ t.clock = s.clock + 1 ∧
        t.notice.flags.windowExpired = true)))

/-- BATCH_START: the table of its conditions, and an accepted one: the batch record set with the next batch number, the bay
in ROLLING and its first ROLL_CALL on the free line (R3, R4, R7). -/
def Obligations.BatchStarted : Prop :=
  ∀ (s : State) (tag : Byte) (args : List Byte), LinkIdle s →
    let refused := fun code => exec (.batchStart tag args) s = .next (s.answered .batchStart tag args code [])
    (readBatchStart args = none → refused .badArgument) ∧
    ∀ b rate expected, readBatchStart args = some (b, rate, expected) →
      (s.latched = true → refused .tampered) ∧
      (s.latched = false →
        ((s.bay b).state ≠ .ready → refused .bayState) ∧
        ((s.bay b).state = .ready →
          (s.window = none → refused .windowClosed) ∧
          (s.window ≠ none →
            (64 ≤ s.report.records.length + s.running → refused .queueFull) ∧
            (s.report.records.length + s.running < 64 →
              (s.bay b).lineReady → (s.bay b).contexts = [] → EngineQuiet s →
              let n := if s.report.batchCounter = 0xFFFFFFFF#32 then 1#32 else s.report.batchCounter + 1
              let x := s.bay b
              let t := (s.setCounters { record := s.report.recordCounter, batch := n }).setBay b
                { x with
                  state := .rolling
                  batch := { number := n, requested := rate, inUse := .standard, expected := expected, enrolled := 0,
                             loaded := 0, failed := 0, unknown := 0, stopCause := none, emptyRolls := 0, garbles := 0,
                             hand := none }
                  roll := .rollCall none
                  rollOver := false
                  rateOwed := false
                  resendAt := none
                  line := x.line.begins s.time (.frame rollCallFrame x.line.rate s.time false) }
              exec (.batchStart tag args) s =
                .next (t.answered .batchStart tag args .ok (wordBytes 4 n))))))

/-- BATCH_ABORT: refused outside a batch, answered OK without effect in STOPPING, and in ROLLING or LOADING accepted: the
early stop begins with cause ABORTED, a frame in flight runs on, and with none the line reset begins (R26, R27). -/
def Obligations.BatchAborted : Prop :=
  ∀ (s : State) (tag : Byte), LinkIdle s →
    (∀ args, readBay args = none →
      exec (.batchAbort tag args) s = .next (s.answered .batchAbort tag args .badArgument [])) ∧
    ∀ b : BayId,
      ((s.bay b).state = .stopping →
        exec (.batchAbort tag [finByte b]) s = .next (s.answered .batchAbort tag [finByte b] .ok [])) ∧
      ((s.bay b).isRunning = false →
        exec (.batchAbort tag [finByte b]) s = .next (s.answered .batchAbort tag [finByte b] .bayState [])) ∧
      ((s.bay b).state = .rolling ∨ (s.bay b).state = .loading → EngineQuiet s →
        let t := s.beginStop b .aborted none
        OnlyBay b s t ∧ t.keys = s.keys ∧
        (t.bay b).state = .stopping ∧ (t.bay b).batch.stopCause = some .aborted ∧
          (t.bay b).contexts = (s.bay b).contexts ∧ (∀ w ∈ t.report.waiting, w.bay ≠ b) ∧
          t.report.records = s.report.records ∧
        ((s.bay b).line.tx.inFlight = true →
          exec (.batchAbort tag [finByte b]) s = .next (t.answered .batchAbort tag [finByte b] .ok [])) ∧
        ((s.bay b).line.tx = .idle → (s.bay b).faultReason = none →
          exec (.batchAbort tag [finByte b]) s =
            .next ((t.updBay b (fun x => { x with line := x.line.begins s.time (.reset s.time) })).answered
              .batchAbort tag [finByte b] .ok [])))

/-- BAY_RESET by state: POWERING refuses; OFF answers OK; FAULT with a power reason goes to OFF; FAULT with
LINE_HELD_ACTIVE goes to READY; READY and FAULT with another line reason send a line reset, and the reply waits for it; a
batch in ROLLING or LOADING is stopped with cause RESET, its frame cut and a line reset sent; in STOPPING a frame in flight is cut
and the line reset owed begins, one under way runs on, and a stop cause of ABORTED becomes RESET while any other is kept (R26,
R28). -/
def Obligations.BayReset : Prop :=
  ∀ (s : State) (tag : Byte), LinkIdle s →
    (∀ args, readBay args = none →
      exec (.bayReset tag args) s = .next (s.answered .bayReset tag args .badArgument [])) ∧
    ∀ b : BayId,
      let x := s.bay b
      let waits := fun (s' : State) => exec (.bayReset tag [finByte b]) s = .next (s'.holding .bayReset tag [finByte b]).beginFrame
      (x.state = .powering →
        exec (.bayReset tag [finByte b]) s = .next (s.answered .bayReset tag [finByte b] .bayState [])) ∧
      (x.state = .off →
        exec (.bayReset tag [finByte b]) s = .next (s.answered .bayReset tag [finByte b] .ok [0x00#8])) ∧
      (x.state = .fault → x.faultReason = some .overCurrent ∨ x.faultReason = some .powerTimeout →
        exec (.bayReset tag [finByte b]) s =
          .next ((s.setBay b x.toOff).answered .bayReset tag [finByte b] .ok [0x00#8]) ∧
        x.toOff.state = .off ∧ x.toOff.faultReason = none ∧ x.toOff.supply = false) ∧
      (x.state = .fault → x.faultReason = some .lineHeldActive →
        exec (.bayReset tag [finByte b]) s =
          .next ((s.setBay b { x with state := .ready, faultReason := none
                                      line := { x.line with armedAt := s.time } }).answered
            .bayReset tag [finByte b] .ok [0x02#8])) ∧
      (x.state = .ready ∨
          (x.state = .fault ∧ (x.faultReason = some .echoMismatch ∨ x.faultReason = some .lineStuckPassive)) →
        x.tamperOff = false →
        waits (s.setBay b { x with resetReply := some .ok, line := x.line.begins s.time (.reset s.time) })) ∧
      (x.state = .rolling ∨ x.state = .loading → x.faultReason = none → x.line.tx.isReset = false → EngineQuiet s →
        let t := s.beginStop b .reset none
        OnlyBay b s t ∧ t.keys = s.keys ∧
        (t.bay b).state = .stopping ∧ (t.bay b).batch.stopCause = some .reset ∧ (t.bay b).contexts = x.contexts ∧
        waits (t.updBay b (fun y =>
          { y with resetReply := some .ok, line := (y.line.cut s.time).begins s.time (.reset s.time) }))) ∧
      (∀ cause, x.state = .stopping → x.batch.stopCause = some cause → EngineQuiet s →
        let batch := { x.batch with stopCause := some (if cause = .aborted then .reset else cause) }
        (x.line.tx.isReset = true → waits (s.setBay b { x with resetReply := some .ok, batch := batch })) ∧
        (x.line.tx.isReset = false → cause ≠ .restart → cause ≠ .powerFault → x.faultReason ≠ some .lineHeldActive →
          waits (s.setBay b { x with resetReply := some .ok, batch := batch
                                     line := (x.line.cut s.time).begins s.time (.reset s.time) })))

/-- BAY_POWER ON: refused while the latch is set; in OFF the supply is applied, the rate is STANDARD and the quiet-line wait
and its 5,000 ms limit begin; elsewhere nothing changes. BAY_POWER OFF: refused in a batch; elsewhere the bay is in OFF with
its supply off and no fault reason. The reply carries the state afterwards (R73, R74). That OFF is taken at once on a READY or FAULT
bay on which the tamper response's line reset still runs, and cuts that reset, where R81 would remove the supply at its end, is the
model's choice (log 48). -/
def Obligations.BayPowerSwitched : Prop :=
  ∀ (s : State) (tag : Byte), LinkIdle s →
    (∀ x : Byte, x.toNat = 0 ∨ 12 < x.toNat →
      exec (.bayPowerOn tag x) s = .next (s.answered .bayPower tag [x, 0x01#8] .badArgument []) ∧
      exec (.bayPowerOff tag x) s = .next (s.answered .bayPower tag [x, 0x00#8] .badArgument [])) ∧
    ∀ b : BayId,
      let x := s.bay b
      let onArgs := [finByte b, 0x01#8]
      let offArgs := [finByte b, 0x00#8]
      (s.latched = true → exec (.bayPowerOn tag (finByte b)) s = .next (s.answered .bayPower tag onArgs .tampered [])) ∧
      (s.latched = false → x.state = .off →
          ∃ y, exec (.bayPowerOn tag (finByte b)) s =
              .next ((s.setBay b y).answered .bayPower tag onArgs .ok [0x01#8]) ∧
            y = { x with state := .powering, supply := true, line := { x.line with rate := .standard, changes := [s.time] }
                         limitAt := some (s.time + 5000000) } ∧
            y.quietSince = if x.line.active then none else some s.time) ∧
      (s.latched = false → x.state ≠ .off →
        exec (.bayPowerOn tag (finByte b)) s = .next (s.answered .bayPower tag onArgs .ok [x.state.code])) ∧
      (x.isRunning = true →
        exec (.bayPowerOff tag (finByte b)) s = .next (s.answered .bayPower tag offArgs .bayState [])) ∧
      (x.state = .off →
        exec (.bayPowerOff tag (finByte b)) s = .next (s.answered .bayPower tag offArgs .ok [0x00#8])) ∧
      (x.isRunning = false → x.state ≠ .off →
        exec (.bayPowerOff tag (finByte b)) s = .next ((s.setBay b x.toOff).answered .bayPower tag offArgs .ok [0x00#8]) ∧
        x.toOff.state = .off ∧ x.toOff.faultReason = none ∧ x.toOff.supply = false ∧
          x.toOff.quietSince = none ∧ x.toOff.limitAt = none)

/-- LINE_TEST: the table of its conditions; accepted, the switch closes and the test frame begins. At the frame's end the
switch opens and the reply carries PASS, or the code of the fault the echo shows; an echo nobody disturbs passes, and the
bay is left as it was (R70, R189). That the test frame begins whatever the gap, and that a gap is counted after it, is the model's
(log 21). -/
def Obligations.LineTested : Prop :=
  (∀ (s : State) (tag : Byte), LinkIdle s →
    (∀ args, readBay args = none →
      exec (.lineTest tag args) s = .next (s.answered .lineTest tag args .badArgument [])) ∧
    ∀ b : BayId,
      let x := s.bay b
      (s.latched = true → exec (.lineTest tag [finByte b]) s = .next (s.answered .lineTest tag [finByte b] .tampered [])) ∧
      (s.latched = false → (x.state ≠ .ready ∧ x.state ≠ .fault) ∨ x.supply = false →
        exec (.lineTest tag [finByte b]) s = .next (s.answered .lineTest tag [finByte b] .bayState [])) ∧
      (s.latched = false → x.state = .ready ∨ x.state = .fault → x.supply = true →
        exec (.lineTest tag [finByte b]) s =
          .next ((s.setBay b { x with line := { x.line with loopback := true, tx := .test s.time, free := false } }).holding
            .lineTest tag [finByte b]).beginFrame)) ∧
  (∀ (s : State) (b : BayId) (since delay : Nat) (echo : List Nat) (r : Request) (rest : List Request),
    s.powered = true → (s.bay b).line.tx = .test since → s.link.head = .withOwner → s.link.queue = r :: rest →
    let result := match echoFault .standard testFrame delay echo with | none => 0x00#8 | some f => f.reason.code
    let line := (s.bay b).line.gapFrom s.time (s.bay b).line.rate
    exec (.lineTestFrameEnded b delay echo) s =
        .next ({ s.setBay b { s.bay b with line := { line with loopback := false } } with
                 link := { s.link with head := .replyReady, waiting := s.link.waiting ++ [.reply r.tag [0x00#8, result]] } }
                : State).beginFrame) ∧
  (∀ (rate : Rate) (f : LineFrame) (delay : Nat), delay < rate.unit →
    echoFault rate f delay ((f.periods rate.unit).dropLast) = none)

/-- TAMPER_CLEAR: the table of its conditions; accepted, it clears the latch and nothing else; every reply but the first
carries the inputs and the latch (R146, R181). An input that becomes inactive, and one that becomes active while the latch is
set, change only the input's state (R178). -/
def Obligations.TamperCleared : Prop :=
  (∀ (s : State) (tag : Byte), LinkIdle s →
    let inputs := [boolByte s.enclosure.lid, boolByte s.enclosure.mesh]
    let refused := fun code => exec (.tamperClear tag []) s = .next (s.answered .tamperClear tag [] code (inputs ++ [0x01#8]))
    (∀ args, args ≠ [] → exec (.tamperClear tag args) s = .next (s.answered .tamperClear tag args .badArgument [])) ∧
    (s.latched = false →
      exec (.tamperClear tag []) s = .next (s.answered .tamperClear tag [] .ok (inputs ++ [0x00#8]))) ∧
    (s.latched = true →
      (s.enclosure.lid = true ∨ s.enclosure.mesh = true → refused .badArgument) ∧
      (s.enclosure.lid = false → s.enclosure.mesh = false →
        (s.twoTokens = .absent → refused .tokenAbsent) ∧
        (s.twoTokens = .invalid → refused .tokenInvalid) ∧
        (∀ idA idB, s.twoTokens = .satisfied idA idB →
          exec (.tamperClear tag []) s =
            .next (({ s with enclosure := { s.enclosure with latchCopy := false, latchComplement := true } } : State).answered
              .tamperClear tag [] .ok (inputs ++ [0x00#8])))))) ∧
  ∀ s : State, s.powered = true →
    exec (.enclosureInputInactive .lid) s = .next ({ s with enclosure := { s.enclosure with lid := false } } : State).beginFrame ∧
    exec (.enclosureInputInactive .mesh) s = .next ({ s with enclosure := { s.enclosure with mesh := false } } : State).beginFrame ∧
    (s.latched = true →
      exec (.enclosureInputActive .lid) s = .next ({ s with enclosure := { s.enclosure with lid := true } } : State).beginFrame ∧
      exec (.enclosureInputActive .mesh) s = .next ({ s with enclosure := { s.enclosure with mesh := true } } : State).beginFrame)

/-! ### The enclosure, start-up and restart -/

/-- The tamper response: with an input that becomes active while the latch is clear, in one event, the latch is set, every
slot is EMPTY with its last generation kept, the cipher unit is flushed, the window is CLOSED, no port is READ, TAMPER is
raised, every bay's result buffers are cleared, every bay is in OFF with its supply off or sends a line reset that ends there, and
the retained stores but the keys are kept (R31, R81, R117, R135, R144, R150, R178, R179). -/
def Obligations.TamperResponse : Prop :=
  ∀ (s : State) (i : EnclosureInput), s.powered = true → SupplyFollows s → s.latched = false →
    s.enclosure.input i = false →
    ∃ t, exec (.enclosureInputActive i) s = .next t ∧ t.latched = true ∧ t.enclosure.input i = true ∧
      t.enclosure.failed = s.enclosure.failed ∧
      (∀ k, t.slot k = { lastGen := (s.slot k).lastGen, content := .empty }) ∧ t.keys.progress = none ∧
      t.cipher = coldCipher ∧ t.window = none ∧
      t.portA.state = (if s.portA.contact then .settling s.time else .empty) ∧
      t.portB.state = (if s.portB.contact then .settling s.time else .empty) ∧
      t.notice.flags.tamper = true ∧ t.profiles = s.profiles ∧ t.clock = s.clock ∧
      t.report.batchCounter = s.report.batchCounter ∧ s.report.records <+: t.report.records ∧
      ∀ b, (t.bay b).buffers = [.free, .free] ∧
        (((t.bay b).state = .off ∧ (t.bay b).supply = false) ∨
          (t.bay b).line.tx.isReset = true ∧
            (((t.bay b).state = .stopping ∧ (t.bay b).batch.stopCause = some .tamper) ∨ (t.bay b).tamperOff = true))

/-- RESTART answers OK and restarts nothing yet; a body of the wrong length is refused. When the reply has been sent to its
last byte the restart takes place: the link starts afresh with the STARTED notice as its first frame, every bay is in OFF
with its supply off and no context, the cipher unit is flushed, the ports start afresh, the window is CLOSED, and the
retained stores, the latch and the part clock are kept (R31, R80, R117, R144, R150, R163, R175). -/
def Obligations.RestartTakesPlace : Prop :=
  (∀ (s : State) (tag : Byte), LinkIdle s →
    exec (.restart tag []) s = .next (s.answered .restart tag [] .ok []) ∧
    ∀ args, args ≠ [] → exec (.restart tag args) s = .next (s.answered .restart tag args .badArgument [])) ∧
  (∀ (s : State) (tag : Byte) (r : Request) (rest : List Request), s.powered = true → SupplyFollows s →
    s.link.sending = some (.reply tag [0x00#8]) → s.link.queue = r :: rest → r.code = 0x18#8 →
    ∃ t, exec .outgoingFrameSent s = .next t ∧
      t.link.queue = [] ∧ t.link.waiting = [] ∧ t.link.assembler = .hunting ∧
      t.notice.flags = { noFlags with started := true, records := !t.report.records.isEmpty } ∧ t.notice.armed = false ∧
      t.link.sending = some (.notice [t.notice.flags.toByte, natByte t.report.records.length]) ∧
      t.cipher = coldCipher ∧ t.window = none ∧
      t.portA.state = (if s.portA.contact then .settling s.time else .empty) ∧
      t.portB.state = (if s.portB.contact then .settling s.time else .empty) ∧
      t.profiles = s.profiles ∧ t.keys = s.keys ∧ t.enclosure = s.enclosure ∧ t.clock = s.clock ∧
      t.report.batchCounter = s.report.batchCounter ∧
      t.report.records.length = s.report.records.length + s.running ∧ s.report.records <+: t.report.records ∧
      ∀ b, (t.bay b).state = .off ∧ (t.bay b).supply = false ∧ (t.bay b).line.tx = .idle ∧
        (t.bay b).line.rate = .standard ∧ (t.bay b).line.loopback = false ∧ (t.bay b).contexts = [] ∧
        (t.bay b).buffers = [.free, .free] ∧
        ((s.bay b).isRunning = true → (t.bay b).batch.stopCause = some .restart))

/-- POWER_LOSS keeps the retained stores with their CRC-16s, the latch copies and the part clock, and nothing else; that an
unpowered unit shows its inputs and lines inactive is the model's (log 10) (R31, R98, R136, R156, R160, R176, R177). POWER_ON with
nothing arriving early: each store whose CRC-16 over the contents found is not the one found with it is written afresh, the
counters as R156 tabulates; a store found good is kept as found; a latch set empties the slots with their last generations kept,
the ports start from their contacts, every bay is in OFF, every CRC-16 agrees, and the first frame is the notice with STARTED,
with RECORDS if records wait and with TAMPER if the latch was set at this start-up (R156, R163, R176, R182 to R184; the finds of
the start-up are the operand of the command, log 9; what a CRC-16 is computed over is a free value, log 8). -/
def Obligations.PowerLossAndStartUp : Prop :=
  (∀ s : State, s.powered = true →
      exec .powerLoss s = .next { State.manufactured with
        pending := s.pending, time := s.time, clock := s.clock, lastAdvance := s.lastAdvance
        enclosure := { s.enclosure with lid := false, mesh := false }
        checks := s.checks
        report := { s.report with waiting := [] }
        profiles := s.profiles
        keys := { slots := s.keys.slots, progress := none } }) ∧
  ∀ (s : State) (f : PowerOnFinds), s.powered = false → f.early = [] →
    let keys := f.keyStore.getD { contents := s.keys.slots, check := s.checks.keyStore }
    let profiles := f.profiles.getD { contents := s.profiles, check := s.checks.profiles }
    let queue := f.queue.getD { contents := s.report.records, check := s.checks.queue }
    let counters := f.counters.getD
      { contents := { record := s.report.recordCounter, batch := s.report.batchCounter }, check := s.checks.counters }
    let keysFail : Bool := decide (keyStoreCheck keys.contents ≠ keys.check)
    let profilesFail : Bool := decide (profileCheck profiles.contents ≠ profiles.check)
    let queueFail : Bool := decide (queueCheck queue.contents ≠ queue.check)
    let countersFail : Bool := decide (counterCheck counters.contents ≠ counters.check)
    let copies := f.latchFound.getD (s.enclosure.latchCopy, s.enclosure.latchComplement)
    let setNow := f.lid || f.mesh || (copies.1 == copies.2)
    let latched := setNow || copies.1
    ∃ t, exec (.powerOn f) s = .next t ∧ t.powered = true ∧ t.started = true ∧
      t.enclosure = { lid := f.lid, mesh := f.mesh, latchCopy := latched, latchComplement := !latched
                      failed := { keyStore := keysFail, profiles := profilesFail, queue := queueFail, counters := countersFail } } ∧
      ChecksAgree t ∧
      (∀ k : SlotId, t.slot k = (let x := if keysFail then emptySlot else keys.contents[k.val]
                                 if latched then { lastGen := x.lastGen, content := .empty } else x)) ∧
      t.keys.progress = none ∧
      t.profiles = (if profilesFail then Vector.replicate 24 .empty else profiles.contents) ∧
      t.report.records = (if queueFail then [] else queue.contents) ∧
      t.report.recordCounter =
        (if countersFail then (match t.report.records.getLast? with | some x => x.number | none => 0)
         else counters.contents.record) ∧
      t.report.batchCounter = (if countersFail then 0 else counters.contents.batch) ∧ t.report.waiting = [] ∧
      t.clock = f.clockFound.getD s.clock ∧ t.window = none ∧ t.cipher = coldCipher ∧
      t.portA.state = (if f.contactA then .settling s.time else .empty) ∧
      t.portB.state = (if f.contactB then .settling s.time else .empty) ∧
      t.bays = Vector.replicate 12 coldBay ∧
      t.notice = { flags := { noFlags with started := true, records := !t.report.records.isEmpty, tamper := setNow }
                   armed := false } ∧
      t.link = { coldLink with sending := some (.notice [t.notice.flags.toByte, natByte t.report.records.length]) }

/-! ### The station link -/

/-- A well-formed frame received from the start byte on is the arrival of its request: FRAME_RECEIVED with the bytes of the
frame does what the request's own command does (R165 to R168; log 2). Stated where no frame stands ready for a free outgoing
direction, as R172 has it; and a run of bytes received one by one does what the run does (R167). -/
def Obligations.FrameIsItsRequest : Prop :=
  (∀ (s : State) (c : RequestCode) (tag : Byte) (args : List Byte) (i : Instr),
    s.powered = true → s.link.assembler = .hunting → args.length ≤ 511 → requestOf c tag args = some i →
    s.link.sending.isSome = true ∨ (s.link.waiting = [] ∧ s.link.noticeWanted = false) →
    ∃ t, exec i { s with link := { s.link with lastByteAt := s.time } } = .next t ∧
      exec (.frameReceived (linkFrameBytes 0x01#8 tag (c.code :: args))) s = .next t) ∧
  ∀ (bytes : List Byte) (s t : State), s.powered = true → bytes ≠ [] → exec (.frameReceived bytes) s = .next t →
    bytes.foldl (fun (o : Host.Outcome State Fault Refusal) x =>
      match o with
      | .next u => exec (.stationByteReceived x) u
      | o => o) (.next s) = .next t

/-- The receive assembler: a byte other than 0xC3 is discarded while hunting and 0xC3 begins a frame; a length outside 2 to
514 draws a REJECT FRAME_LENGTH with tag 0; a frame whose CRC fails, or that is no known request, draws its REJECT with the
tag received; the gap discards the partial frame without a REJECT (R167 to R169). -/
def Obligations.ReceiveAssembler : Prop :=
  ∀ s : State, s.powered = true →
    (s.link.assembler = .hunting → ∀ x : Byte, exec (.stationByteReceived x) s =
      .next ({ s with link := { s.link with lastByteAt := s.time
                                            assembler := if x = 0xC3#8 then .assembling [] else .hunting } } : State).beginFrame) ∧
    (∀ x y : Byte, s.link.assembler = .assembling [x] →
      (x.toNat * 256 + y.toNat < 2 ∨ 514 < x.toNat * 256 + y.toNat →
        exec (.frameLengthFault y) s =
          .next (({ s with link := { s.link with assembler := .hunting, lastByteAt := s.time } } : State).placeReject 0x00#8
            .frameLength).beginFrame) ∧
      (2 ≤ x.toNat * 256 + y.toNat → x.toNat * 256 + y.toNat ≤ 514 →
        exec (.stationByteReceived y) s =
          .next ({ s with link := { s.link with assembler := .assembling [x, y], lastByteAt := s.time } } : State).beginFrame)) ∧
    (∀ (n1 n0 kind tag : Byte) (rest : List Byte) (last : Byte),
      s.link.assembler = .assembling ([n1, n0, kind, tag] ++ rest) → n1.toNat * 256 + n0.toNat = rest.length + 1 →
      2 ≤ n1.toNat * 256 + n0.toNat →
      let t : State := { s with link := { s.link with assembler := .hunting, lastByteAt := s.time } }
      let frame := [n1, n0, kind, tag] ++ rest ++ [last]
      (crc16 frame ≠ 0 → exec (.stationByteReceived last) s = .next (t.placeReject tag .frameCheck).beginFrame) ∧
      (crc16 frame = 0 →
        kind ≠ 0x01#8 ∨ rest.length = 1 ∨ (∃ code more, more ≠ [] ∧ rest = code :: more ∧ RequestCode.ofByte code = none) →
        exec (.stationByteReceived last) s = .next (t.placeReject tag .unknownKind).beginFrame)) ∧
    exec .receiveGapTimeout s = .next ({ s with link := { s.link with assembler := .hunting } } : State).beginFrame

/-- When a frame has been sent: a notice or REJECT leaves the outgoing direction; after a reply its request leaves the queue
and, with no request behind it, the handler is idle, and otherwise the next is given to its owner, before the free direction
begins a frame (log 12); the free direction begins the notice if one waits, whatever reply waits beside it (log 37), and otherwise
the frame that began waiting first. A request that finds four in the queue is rejected BUSY; one that joins behind a head already
given waits with no effect on its owner, and is given when it becomes the head; a REJECT is dropped while the list holds four
(R168 to R170, R172). -/
def Obligations.OutgoingFrameSent : Prop :=
  (∀ (s : State) (c : RequestCode) (tag : Byte) (args : List Byte) (i : Instr), s.powered = true →
      requestOf c tag args = some i →
      (4 ≤ s.link.queue.length → exec i s = .next (s.placeReject tag .busy).beginFrame) ∧
      (s.link.queue.length < 4 → s.link.head ≠ .notGiven →
        exec i s = .next ({ s with link := { s.link with
          queue := s.link.queue ++ [{ tag := tag, code := c.code, args := args }] } } : State).beginFrame) ∧
      (4 ≤ s.link.rejects → s.placeReject tag .busy = s)) ∧
  ∀ s : State, s.powered = true →
    (∀ body, s.link.sending = some (.notice body) →
      exec .outgoingFrameSent s = .next ({ s with link := { s.link with sending := none } } : State).beginFrame) ∧
    (∀ tag code, s.link.sending = some (.reject tag code) →
      exec .outgoingFrameSent s = .next ({ s with link := { s.link with sending := none } } : State).beginFrame) ∧
    (∀ tag body r, s.link.sending = some (.reply tag body) → s.link.queue = [r] → r.code ≠ 0x18#8 →
      exec .outgoingFrameSent s =
        .next ({ s with link := { s.link with sending := none, queue := [], head := .notGiven } } : State).beginFrame) ∧
    (∀ tag body r c tag' args i, s.link.sending = some (.reply tag body) → s.started = true → r.code ≠ 0x18#8 →
      s.link.queue = [r, { tag := tag', code := RequestCode.code c, args := args }] → requestOf c tag' args = some i →
      ∃ t, exec i { s with link := { s.link with sending := none, queue := [], head := .notGiven } } = .next t ∧
        exec .outgoingFrameSent s = .next t) ∧
    (∀ tag body r q c more, s.link.sending = some (.reply tag body) → s.started = true → r.code ≠ 0x18#8 →
      s.link.queue = r :: q :: more → q.code = RequestCode.code c →
      exec .outgoingFrameSent s =
        .next ((({ s with link := { s.link with sending := none, queue := q :: more, head := .withOwner } } :
          State).takeRequest c q.args).beginFrame)) ∧
    (s.link.sending = none →
      (s.link.noticeWanted = true →
        s.beginFrame = { s with link := { s.link with
          noticeWanted := false
          sending := some (.notice [s.notice.flags.toByte, natByte s.report.records.length]) } }) ∧
      (s.link.noticeWanted = false →
        (∀ tag code rest, s.link.waiting = .reject tag code :: rest →
          s.beginFrame = { s with link := { s.link with waiting := rest, sending := some (.reject tag code) } }) ∧
        (∀ tag body rest, s.link.waiting = .reply tag body :: rest →
          s.beginFrame = { s with link := { s.link with waiting := rest, sending := some (.reply tag body) } })))

/-! ### Roll call and enrolment -/

/-- ROLL_CALL_ENDED in ROLLING, by the outcome of the roll call: the ENROL that follows, the counters, the waits, and the end
of the roll phase at the second empty roll call; the answer limit counts as garbled; the fourth garble in a row ends the batch
as a line fault. That a known serial announced with another capability keeps the capability of its context is the model's choice
(log 38). In STOPPING after BATCH_ABORT it is judged once, its counters count, no frame follows, and the line reset begins
(R8, R10 to R13, R26, R27, R38; log 16). -/
def Obligations.RollCallEnded : Prop :=
  (∀ (s : State) (b : BayId) (rate : Rate) (sentAt : Nat) (shown : List Nat), s.powered = true → EngineQuiet s →
    TablesOrdered s → (s.bay b).state = .rolling → (s.bay b).rollOver = false →
    (s.bay b).hasFrame rollCallFrame rate sentAt →
    let x := s.bay b
    let ans := judgeAnswer rate 9 shown
    let goesOn := fun (i : Instr) (next : RollNext) (empty garbles : Nat) =>
      exec i s = .next (s.setBay b
        { x with line := x.line.gapFrom s.time rate, roll := next
                 batch := { x.batch with emptyRolls := empty, garbles := garbles } }).beginFrame
    (∀ bytes cap, ans = .clean bytes → capabilityOfCode (bytes.getD 8 0xFF#8) = some cap →
      let serial : Serial := beWord 64 (bytes.take 8)
      ((∀ c ∈ x.contexts, c.serial ≠ serial) → ∀ a : Addr, a.val = x.contexts.length →
        goesOn (.rollCallEnded b shown) (.enrol serial cap a 0 none) 0 0) ∧
      (∀ c ∈ x.contexts, c.serial = serial →
        goesOn (.rollCallEnded b shown) (.enrol serial c.fastCapable c.addr 0 none) 0 0)) ∧
    (ans = .garbled ∨ (∃ bytes, ans = .clean bytes ∧ capabilityOfCode (bytes.getD 8 0xFF#8) = none) →
      (x.batch.garbles + 1 < 4 → goesOn (.rollCallEnded b shown) (.rollCall none) 0 (x.batch.garbles + 1)) ∧
      (4 ≤ x.batch.garbles + 1 → x.faultReason = none →
        ∃ t, exec (.rollCallEnded b shown) s = .next t ∧ OnlyBay b s t ∧ t.keys = s.keys ∧ (t.bay b).state = .stopping ∧
          (t.bay b).batch.stopCause = some .lineFault ∧ (t.bay b).faultReason = some .echoMismatch ∧
          (t.bay b).line.tx = .reset s.time)) ∧
    (x.batch.garbles + 1 < 4 → goesOn (.answerLimit (.bay b)) (.rollCall none) 0 (x.batch.garbles + 1)) ∧
    (ans = .deferral → goesOn (.rollCallEnded b shown) (.rollCall (some (s.time + 50000))) 0 0) ∧
    (ans = .absent →
      (x.batch.emptyRolls = 0 → goesOn (.rollCallEnded b shown) (.rollCall (some (s.time + 200000))) 1 0) ∧
      (1 ≤ x.batch.emptyRolls →
        (x.contexts = [] → ∃ t, exec (.rollCallEnded b shown) s = .next t ∧ OnlyBay b s t ∧ t.keys = s.keys ∧
          (t.bay b).state = .ready ∧
          (t.bay b).batch.stopCause = some .complete ∧
          t.report.records.map (·.body) =
            s.report.records.map (·.body) ++
              [.batchEnd (batchEndRecord b x.batch .complete [])]) ∧
        ((∃ c ∈ x.contexts, c.phase ≠ .done) →
          ∃ t, exec (.rollCallEnded b shown) s = .next t ∧ OnlyBay b s t ∧ (t.bay b).state = .loading ∧
            (t.bay b).batch.inUse =
              (if x.batch.requested = .fast ∧ ∀ c ∈ x.contexts, c.fastCapable = true then .fast else .standard))))) ∧
  ∀ (s : State) (b : BayId) (rate : Rate) (sentAt : Nat) (shown : List Nat), Aborting s b rollCallFrame rate sentAt →
    let x := s.bay b
    let ans := judgeAnswer rate 9 shown
    let stops := fun (empty garbles : Nat) (reason : Option FaultReason) =>
      exec (.rollCallEnded b shown) s = .next (s.setBay b
        { x with line := x.line.resets s.time rate, faultReason := reason
                 batch := { x.batch with emptyRolls := empty, garbles := garbles } }).beginFrame
    (∀ bytes cap, ans = .clean bytes → capabilityOfCode (bytes.getD 8 0xFF#8) = some cap → stops 0 0 none) ∧
    (ans = .garbled ∨ (∃ bytes, ans = .clean bytes ∧ capabilityOfCode (bytes.getD 8 0xFF#8) = none) →
      stops 0 (x.batch.garbles + 1) (if 4 ≤ x.batch.garbles + 1 then some .echoMismatch else none)) ∧
    (ans = .deferral → stops 0 0 none) ∧
    (ans = .absent → stops (x.batch.emptyRolls + 1) 0 none)

/-- ENROL_ENDED in ROLLING: ACCEPT creates the context with the profile entry of the lookup, or decides UNKNOWN where none
matches, or refreshes the context of a known serial, to which no POLL is due any more (log 27); anything else is a failed attempt,
with a second ENROL after the first and a hold-back of 2,100 ms after the second. The ACCEPT that makes the fourth context, or
that comes when the roll phase is over, leads to the rate decision. In STOPPING after BATCH_ABORT an ACCEPT creates its context
with no lookup, nothing is sent again, and the line reset begins (R5, R9, R10, R12 to R14, R26, R27; log 16). That a refreshed
context keeps the capability it was created with is the model's choice (log 38). -/
def Obligations.EnrolEnded : Prop :=
  (∀ (s : State) (b : BayId) (rate : Rate) (sentAt : Nat) (shown : List Nat) (serial : Serial) (cap : Bool) (a : Addr)
    (failures : Nat) (wait : Option Nat), s.powered = true → EngineQuiet s →
    TablesOrdered s → (s.bay b).state = .rolling → (s.bay b).rollOver = false →
    (s.bay b).roll = .enrol serial cap a failures wait → (s.bay b).hasFrame (enrolFrame serial a) rate sentAt →
    let x := s.bay b
    let ans := judgeAnswer rate 1 shown
    let line := x.line.gapFrom s.time rate
    let goesOn := fun (next : RollNext) =>
      exec (.enrolEnded b shown) s = .next (s.setBay b { x with line := line, roll := next }).beginFrame
    (ans = .clean [0x01#8] → (∀ c ∈ x.contexts, c.serial ≠ serial) → x.contexts.length < 3 →
      (∀ e p on, s.lookup serial = some e → s.entry e = .stored on p →
        exec (.enrolEnded b shown) s = .next (s.setBay b
          { x with
            line := line
            roll := .rollCall none
            contexts := x.contexts ++ [{
              addr := a, serial := serial, fastCapable := cap, entry := some e, phase := .enrolled, outcome := none,
              posIndex := 1, attempts := 0, deferrals := 0, attemptsTotal := 0,
              confirmed := List.replicate p.keySet.length none, commitSent := false, recordAppended := false,
              pollMisses := 0, lastAddressed := sentAt, pollDue := false, heldInStop := false }]
            batch := { x.batch with enrolled := x.batch.enrolled + 1 } }).beginFrame) ∧
      (s.lookup serial = none →
        ∃ t c, exec (.enrolEnded b shown) s = .next t ∧ OnlyBay b s t ∧ t.keys = s.keys ∧
          (t.bay b).contexts = x.contexts ++ [c] ∧ c.addr = a ∧
          c.serial = serial ∧ c.entry = none ∧ c.phase = .reportWait ∧ c.outcome = some .unknown ∧
          (t.bay b).batch.enrolled = x.batch.enrolled + 1 ∧ (t.bay b).batch.unknown = x.batch.unknown + 1 ∧
          (t.bay b).roll = .rollCall none)) ∧
    (ans = .clean [0x01#8] → x.contexts.length < 4 → ∀ c ∈ x.contexts, c.serial = serial →
      exec (.enrolEnded b shown) s = .next (s.setBay b
        ({ x with line := line, roll := .rollCall none }.updCtx c.addr
          (fun c => { c with pollMisses := 0, lastAddressed := sentAt, pollDue := false }))).beginFrame) ∧
    (ans ≠ .clean [0x01#8] → (∀ f, ans ≠ .fault f) →
      (failures = 0 → goesOn (.enrol serial cap a 1 (if ans = .deferral then some (s.time + 50000) else none))) ∧
      (failures ≠ 0 → goesOn (.rollCall (some (s.time + 2100000)))))) ∧
  (∀ (s : State) (b : BayId) (rate : Rate) (sentAt : Nat) (shown : List Nat) (serial : Serial) (cap : Bool) (a : Addr)
    (failures : Nat) (wait : Option Nat), s.powered = true → EngineQuiet s →
    TablesOrdered s → (s.bay b).state = .rolling → (s.bay b).roll = .enrol serial cap a failures wait →
    (s.bay b).hasFrame (enrolFrame serial a) rate sentAt → judgeAnswer rate 1 shown = .clean [0x01#8] →
    (∀ c ∈ (s.bay b).contexts, c.serial ≠ serial) → ((s.bay b).contexts.length = 3 ∨ (s.bay b).rollOver = true) →
    ∃ t c, exec (.enrolEnded b shown) s = .next t ∧ OnlyBay b s t ∧ (t.bay b).state = .loading ∧
      (t.bay b).roll = .none ∧ (t.bay b).batch.enrolled = (s.bay b).batch.enrolled + 1 ∧
      (t.bay b).contexts.map (fun d => d.serial) = (s.bay b).contexts.map (fun d => d.serial) ++ [serial] ∧
      (t.bay b).ctx a = some c ∧ c.serial = serial ∧ c.fastCapable = cap ∧ c.entry = s.lookup serial ∧
      (t.bay b).batch.inUse =
        (if (s.bay b).batch.requested = .fast ∧ cap = true ∧ ∀ d ∈ (s.bay b).contexts, d.fastCapable = true then .fast
          else .standard)) ∧
  ∀ (s : State) (b : BayId) (rate : Rate) (sentAt : Nat) (shown : List Nat) (serial : Serial) (cap : Bool) (a : Addr)
    (failures : Nat) (wait : Option Nat), Aborting s b (enrolFrame serial a) rate sentAt →
    (s.bay b).roll = .enrol serial cap a failures wait → (∀ f, judgeAnswer rate 1 shown ≠ .fault f) →
    let x := s.bay b
    let line := x.line.resets s.time rate
    (judgeAnswer rate 1 shown = .clean [0x01#8] → (∀ c ∈ x.contexts, c.serial ≠ serial) →
      exec (.enrolEnded b shown) s = .next (s.setBay b
        { x with
          line := line
          contexts := x.contexts ++ [{
            addr := a, serial := serial, fastCapable := cap, entry := none, phase := .enrolled, outcome := none,
            posIndex := 1, attempts := 0, deferrals := 0, attemptsTotal := 0, confirmed := [], commitSent := false,
            recordAppended := false, pollMisses := 0, lastAddressed := sentAt, pollDue := false, heldInStop := false }]
          batch := { x.batch with enrolled := x.batch.enrolled + 1 } }).beginFrame) ∧
    (judgeAnswer rate 1 shown = .clean [0x01#8] → (∃ c ∈ x.contexts, c.serial = serial) →
      exec (.enrolEnded b shown) s = .next (s.setBay b
        ({ x with line := line }.updCtx a
          (fun c => { c with pollMisses := 0, lastAddressed := sentAt, pollDue := false }))).beginFrame) ∧
    (judgeAnswer rate 1 shown ≠ .clean [0x01#8] →
      exec (.enrolEnded b shown) s = .next (s.setBay b { x with line := line }).beginFrame)

/-- A frame that falls due, or finds the line free, is sent at once with its frame start at this moment: ROLL_CALL_DUE and
LINE_FREE send the ROLL_CALL due, RESEND_DELAY_EXPIRED the ENROL, or in LOADING the same KEY again, whose attempts total
rises; outside a batch LINE_FREE only frees the line (R7 to R9, R17, R18, R55). -/
def Obligations.FramesFallDue : Prop :=
  ∀ (s : State) (b : BayId), s.powered = true → EngineQuiet s →
    let x := s.bay b
    let sends := fun (i : Instr) (roll : RollNext) (f : LineFrame) =>
      exec i s = .next (s.setBay b
        { x with roll := roll, line := x.line.begins s.time (.frame f x.line.rate s.time false) }).beginFrame
    (x.state = .rolling → x.rollOver = false → x.onlyBatchFrame →
      (∀ wait, x.roll = .rollCall wait → x.lineReady → sends (.rollCallDue b) (.rollCall none) rollCallFrame) ∧
      (x.roll = .rollCall none → x.line.tx = .idle → x.line.free = false → x.line.loopback = false →
        sends (.lineFree (.bay b)) (.rollCall none) rollCallFrame) ∧
      (∀ serial cap a n wait, x.roll = .enrol serial cap a n wait → x.lineReady →
        sends (.resendDelayExpired b) (.enrol serial cap a n none) (enrolFrame serial a))) ∧
    (x.isRunning = false → x.line.tx = .idle → x.line.free = false →
      exec (.lineFree (.bay b)) s = .next (s.setBay b { x with line := { x.line with free := true } }).beginFrame) ∧
    (∀ c p d r, PositionWorked s b c p d → x.result c.addr c.posIndex = some r →
      x.onlyBatchFrame → x.lineReady → x.rateOwed = false →
      ∃ t c', exec (.resendDelayExpired b) s = .next t ∧ OnlyBay b s t ∧
        (s.cipher.running.isSome = true ∨ p.ahead = false → t.keys = s.keys) ∧
        (t.bay b).line.tx = .frame (keyFrame c.addr r) x.line.rate s.time false ∧ (t.bay b).ctx c.addr = some c' ∧
        c'.attemptsTotal = c.attemptsTotal + 1 ∧ c'.lastAddressed = s.time ∧ c'.attempts = c.attempts ∧
        c'.deferrals = c.deferrals)

/-! ### Loading -/

/-- KEY_ENDED: the table of R18, for the terminal in hand. In STOPPING after BATCH_ABORT the answer confirms its position or does
not, nothing is sent again, and the line reset begins (R27; log 16). -/
def Obligations.KeyEnded : Prop :=
  (∀ (r : Prepared) (echo c2 c1 c0 status : Byte),
    judgeKey r (.clean [echo, c2, c1, c0, status]) =
      if status = 0x05#8 then .refused
      else if status ≠ 0x02#8 then .failure false
      else if echo ≠ r.tag then .failure false
      else if beWord 24 [c2, c1, c0] ≠ r.check then .failure true
      else .confirmed) ∧
  (∀ (s : State) (b : BayId) (c : Context) (p : Profile) (d : Descriptor) (r : Prepared) (rate : Rate) (sentAt : Nat)
    (shown : List Nat), KeyInFlight s b c p d r rate sentAt →
    let ans := judgeAnswer rate 5 shown
    let undisturbed := s.cipher.running.isSome = true ∨ p.ahead = false
    (∀ f, ans ≠ .fault f) →
    ∃ t c', exec (.keyEnded b shown) s = .next t ∧ OnlyBay b s t ∧ (t.bay b).ctx c.addr = some c' ∧
      (s.cipher.running.isSome = true → t.keys = s.keys) ∧
      (ans = .deferral →
        (c.deferrals + 1 < 6 → c'.deferrals = c.deferrals + 1 ∧ c'.attempts = c.attempts ∧
          (undisturbed ∨ PreparesStart s b c p → c'.outcome = none ∧
            (t.bay b).resendAt = some (s.time + 50000) ∧ (t.bay b).result c.addr c.posIndex = some r)) ∧
        (6 ≤ c.deferrals + 1 → c'.outcome = some (.failed .noAnswer))) ∧
      (∀ mismatch, ans = .absent ∨ ans = .garbled ∨ (∃ bytes, ans = .clean bytes) →
        judgeKey r ans = .failure mismatch →
        (c.attempts + 1 < 3 → c'.attempts = c.attempts + 1 ∧ c'.deferrals = c.deferrals ∧
          (undisturbed ∨ PreparesStart s b c p →
            c'.outcome = none ∧ (t.bay b).result c.addr c.posIndex = some r)) ∧
        (3 ≤ c.attempts + 1 → c'.outcome = some (.failed (if mismatch then .checkMismatch else .noAnswer)))) ∧
      (judgeKey r ans = .refused → c'.outcome = some (.failed .refused)) ∧
      (judgeKey r ans = .confirmed →
        c'.confirmed = c.confirmed.set (c.posIndex - 1) (some { check := r.check, gen := r.gen }) ∧ c'.attempts = 0 ∧
          c'.deferrals = 0 ∧
          (s.cipher.running.isSome = true ∨ PreparesStart s b c p → c'.outcome = none)) ∧
      (ans.answers = true → c'.pollMisses = 0)) ∧
  ∀ (s : State) (b : BayId) (c : Context) (r : Prepared) (rate : Rate) (sentAt : Nat) (shown : List Nat),
    Aborting s b (keyFrame c.addr r) rate sentAt → (s.bay b).batch.hand = some c.addr → (s.bay b).ctx c.addr = some c →
    c.phase = .loading → (s.bay b).result c.addr c.posIndex = some r →
    let ans := judgeAnswer rate 5 shown
    (∀ f, ans ≠ .fault f) →
    ∃ t c', exec (.keyEnded b shown) s = .next t ∧ OnlyBay b s t ∧ t.keys = s.keys ∧ t.report = s.report ∧
      (t.bay b).state = .stopping ∧ (t.bay b).line = (s.bay b).line.resets s.time rate ∧
      (t.bay b).resendAt = (s.bay b).resendAt ∧ (t.bay b).ctx c.addr = some c' ∧ c'.outcome = c.outcome ∧
      c'.commitSent = c.commitSent ∧ c'.attemptsTotal = c.attemptsTotal ∧
      (judgeKey r ans = .confirmed →
        c'.confirmed = c.confirmed.set (c.posIndex - 1) (some { check := r.check, gen := r.gen })) ∧
      (judgeKey r ans ≠ .confirmed → c'.confirmed = c.confirmed ∧ c'.attempts = c.attempts ∧ c'.deferrals = c.deferrals)

/-- COMMIT_ENDED: the table of R19, for the terminal in hand; commit sent is yes from then on. In STOPPING after BATCH_ABORT a
COMMIT answered COMMITTED decides LOADED, one answered REFUSED decides FAILED(COMMIT_REFUSED), and one answered otherwise leaves
the outcome undecided with commit sent yes, which the list of BATCH_END shows as INDETERMINATE; nothing is sent again, no TERMINAL
record is asked for, and the line reset begins (R26, R27; log 16). -/
def Obligations.CommitEnded : Prop :=
  (∀ (s : State) (b : BayId) (c : Context) (p : Profile) (rate : Rate) (sentAt : Nat) (shown : List Nat),
    CommitInFlight s b c p rate sentAt →
    let ans := judgeAnswer rate 1 shown
    let undisturbed := s.cipher.running.isSome = true ∨ p.ahead = false ∨ PreparesStart s b c p
    (∀ f, ans ≠ .fault f) →
    ∃ t c', exec (.commitEnded b shown) s = .next t ∧ OnlyBay b s t ∧
      (s.cipher.running.isSome = true → t.keys = s.keys) ∧
      (t.bay b).ctx c.addr = some c' ∧ c'.commitSent = true ∧
      (ans = .clean [0x04#8] → c'.outcome = some .loaded ∧ (t.bay b).batch.loaded = (s.bay b).batch.loaded + 1) ∧
      (ans = .clean [0x05#8] →
        c'.outcome = some (.failed .commitRefused) ∧ (s.bay b).batch.failed + 1 ≤ (t.bay b).batch.failed ∧
          (s.cipher.running.isSome = true ∨ (s.bay b).nextToLoad = none →
            (t.bay b).batch.failed = (s.bay b).batch.failed + 1)) ∧
      (ans = .deferral →
        (c.deferrals + 1 < 6 → c'.deferrals = c.deferrals + 1 ∧
          (undisturbed → c'.outcome = none ∧ (t.bay b).resendAt = some (s.time + 50000))) ∧
        (6 ≤ c.deferrals + 1 → c'.outcome = some (.failed .noAnswer))) ∧
      (ans ≠ .clean [0x04#8] → ans ≠ .clean [0x05#8] → ans ≠ .deferral →
        (c.attempts + 1 < 3 → c'.attempts = c.attempts + 1 ∧ (undisturbed → c'.outcome = none)) ∧
        (3 ≤ c.attempts + 1 → c'.outcome = some (.failed .noAnswer)))) ∧
  ∀ (s : State) (b : BayId) (c : Context) (p : Profile) (rate : Rate) (sentAt : Nat) (shown : List Nat),
    Aborting s b (commitFrame c p) rate sentAt → (s.bay b).batch.hand = some c.addr → (s.bay b).ctx c.addr = some c →
    c.phase = .committing → c.outcome = none →
    let ans := judgeAnswer rate 1 shown
    (∀ f, ans ≠ .fault f) →
    ∃ t c', exec (.commitEnded b shown) s = .next t ∧ OnlyBay b s t ∧ t.keys = s.keys ∧ t.report = s.report ∧
      (t.bay b).state = .stopping ∧ (t.bay b).line = (s.bay b).line.resets s.time rate ∧
      (t.bay b).ctx c.addr = some c' ∧ c'.commitSent = true ∧ c'.attemptsTotal = c.attemptsTotal ∧
      (ans = .clean [0x04#8] → c'.outcome = some .loaded ∧ c'.listState = .loaded ∧
        (t.bay b).batch.loaded = (s.bay b).batch.loaded + 1) ∧
      (ans = .clean [0x05#8] → c'.outcome = some (.failed .commitRefused) ∧ c'.listState = .failed ∧
        (t.bay b).batch.failed = (s.bay b).batch.failed + 1) ∧
      (ans ≠ .clean [0x04#8] → ans ≠ .clean [0x05#8] →
        c'.outcome = none ∧ c'.listState = .indeterminate ∧ c'.attempts = c.attempts ∧ c'.deferrals = c.deferrals ∧
          (t.bay b).resendAt = (s.bay b).resendAt)

/-- The keep-alive: POLL_DUE makes a POLL due, which a free line sends at once; POLL_ENDED with an answer sets the poll
misses to 0, without one raises them, and at the second miss an undecided context fails LAPSED. In STOPPING after BATCH_ABORT the
answer is judged once in the same way and the line reset begins (R7, R22, R26, R27; log 16). -/
def Obligations.KeepAlive : Prop :=
  (∀ (s : State) (b : BayId) (c : Context), s.powered = true → EngineQuiet s →
    (s.bay b).state = .rolling ∨ (s.bay b).state = .loading → (s.bay b).ctx c.addr = some c → c.phase ≠ .done →
    let x := s.bay b
    (x.line.tx ≠ .idle →
      ∃ t c', exec (.pollDue b c.addr) s = .next t ∧ OnlyBay b s t ∧ (s.cipher.running.isSome = true → t.keys = s.keys) ∧
        (t.bay b).ctx c.addr = some c' ∧ c'.pollDue = true) ∧
    (x.lineReady → (∀ d ∈ x.contexts, d.pollDue = false) →
      ∃ t c', exec (.pollDue b c.addr) s = .next t ∧ OnlyBay b s t ∧ (s.cipher.running.isSome = true → t.keys = s.keys) ∧
        (t.bay b).line.tx = .frame (bareFrame .poll c.addr) x.line.rate s.time false ∧
        (t.bay b).ctx c.addr = some c' ∧ c'.pollDue = false ∧ c'.lastAddressed = s.time) ∧
    (∀ rate sentAt shown, x.hasFrame (bareFrame .poll c.addr) rate sentAt →
      (∀ f, judgeAnswer rate 1 shown ≠ .fault f) →
      let undisturbed := s.cipher.running.isSome = true ∨ BayServed s b ∨ c.outcome ≠ none
      ∃ t c', exec (.pollEnded b shown) s = .next t ∧ OnlyBay b s t ∧ (s.cipher.running.isSome = true → t.keys = s.keys) ∧
        (t.bay b).ctx c.addr = some c' ∧
        ((judgeAnswer rate 1 shown).answers = true → c'.pollMisses = 0 ∧ (undisturbed → c'.outcome = c.outcome)) ∧
        ((judgeAnswer rate 1 shown).answers = false →
          c'.pollMisses = min 2 (c.pollMisses + 1) ∧
          (c.pollMisses = 0 ∨ c.outcome ≠ none → undisturbed → c'.outcome = c.outcome) ∧
          (1 ≤ c.pollMisses → c.outcome = none → c'.outcome = some (.failed .lapsed))))) ∧
  ∀ (s : State) (b : BayId) (c : Context) (rate : Rate) (sentAt : Nat) (shown : List Nat),
    Aborting s b (bareFrame .poll c.addr) rate sentAt → (s.bay b).ctx c.addr = some c →
    (∀ f, judgeAnswer rate 1 shown ≠ .fault f) →
    ∃ t c', exec (.pollEnded b shown) s = .next t ∧ OnlyBay b s t ∧ t.keys = s.keys ∧ t.report = s.report ∧
      (t.bay b).state = .stopping ∧ (t.bay b).line = (s.bay b).line.resets s.time rate ∧ (t.bay b).ctx c.addr = some c' ∧
      ((judgeAnswer rate 1 shown).answers = true → c'.pollMisses = 0 ∧ c'.outcome = c.outcome) ∧
      ((judgeAnswer rate 1 shown).answers = false →
        c'.pollMisses = min 2 (c.pollMisses + 1) ∧
        c'.outcome = (if 1 ≤ c.pollMisses ∧ c.outcome = none then some (.failed .lapsed) else c.outcome))

/-- The end of RATE takes the line to FAST; the end of a DISMISS brings its context to DONE, and with the last context of a
bay in LOADING ends the batch COMPLETE with its BATCH_END record and no line reset; when its data end passes, a COMMIT's
commit sent becomes yes. In STOPPING after BATCH_ABORT a DISMISS in flight brings its context to DONE, whose profile entry stays in use
(log 39), and after it or a RATE the line reset begins (R13, R19, R20, R25 to R27, R39, R88). -/
def Obligations.FramesRunOut : Prop :=
  ∀ (s : State) (b : BayId), s.powered = true →
    let x := s.bay b
    (∀ f rate sentAt, f.kind = .rate → x.hasFrame f rate sentAt → x.state = .loading → x.allDone = false →
      EngineQuiet s →
      ∃ t, exec (.rateEnded b) s = .next t ∧ OnlyBay b s t ∧ (s.cipher.running.isSome = true → t.keys = s.keys) ∧
        (t.bay b).state = .loading ∧
        (t.bay b).line = { x.line.gapFrom s.time rate with rate := .fast }) ∧
    (∀ c rate sentAt, x.ctx c.addr = some c → x.hasFrame (bareFrame .dismiss c.addr) rate sentAt →
      (x.state = .rolling ∨ (x.state = .loading ∧ ∃ d ∈ x.contexts, d.addr ≠ c.addr ∧ d.phase ≠ .done) →
        EngineQuiet s → (s.cipher.running.isSome = true ∨ c.outcome.isSome = true) →
        ∃ t c', exec (.dismissEnded b) s = .next t ∧ OnlyBay b s t ∧ (s.cipher.running.isSome = true → t.keys = s.keys) ∧
          (t.bay b).ctx c.addr = some c' ∧ c'.phase = .done ∧ c'.holdsEntry = false) ∧
      (x.state = .loading → (∀ d ∈ x.contexts, d.addr = c.addr ∨ d.phase = .done) → EngineQuiet s →
        ∃ t, exec (.dismissEnded b) s = .next t ∧ OnlyBay b s t ∧ t.keys = s.keys ∧ (t.bay b).state = .ready ∧
          (t.bay b).batch = { x.batch with hand := none, stopCause := some .complete } ∧ (t.bay b).contexts = [] ∧
          (t.bay b).line.tx = .idle ∧
          t.report.records = s.report.records ++
            [{ number := nextNumber s.report.recordCounter, time := s.clock
               body := .batchEnd (batchEndRecord b x.batch .complete []) }])) ∧
    (∀ c rate sentAt, x.ctx c.addr = some c → Aborting s b (bareFrame .dismiss c.addr) rate sentAt →
      let t := (s.setBay b ({ x with line := x.line.resets s.time rate }.updCtx c.addr
        (fun c => { c with phase := .done, heldInStop := true }))).beginFrame
      exec (.dismissEnded b) s = .next t ∧ ∀ e, c.entry = some e → t.inUse e = true) ∧
    (∀ f rate sentAt, f.kind = .rate → Aborting s b f rate sentAt →
      ∃ t, exec (.rateEnded b) s = .next t ∧ OnlyBay b s t ∧ t.keys = s.keys ∧ t.report = s.report ∧
        (t.bay b).state = .stopping ∧ (t.bay b).contexts = x.contexts ∧ (t.bay b).line.tx = .reset s.time) ∧
    (∀ f rate sentAt, x.line.tx = .frame f rate sentAt false → f.kind.drawsAnswer = true →
      let passed : Bay := { x with line := { x.line with tx := .frame f rate sentAt true } }
      (f.kind ≠ .commit → exec (.dataEndPassed (.bay b)) s = .next (s.setBay b passed).beginFrame) ∧
      (∀ a : Addr, f.kind = .commit → f.addr = a.val + 1 →
        exec (.dataEndPassed (.bay b)) s =
          .next (s.setBay b (passed.updCtx a (fun c => { c with commitSent := true }))).beginFrame))

/-- What the decision of an outcome does, once: REPORT_WAIT with the outcome, the count of that verdict and no other, the terminal in hand, the
holder, the buffers and the requests of the context, and its TERMINAL record, appended if there is room and none waits, and
otherwise waiting; in STOPPING no record is asked for (R6, R20, R26, R154, R157). -/
def Obligations.OutcomeDecided : Prop :=
  ∀ (s : State) (b : BayId) (c : Context) (v : Verdict), TablesOrdered s → (s.bay b).ctx c.addr = some c →
    (c.outcome ≠ none → s.decideOutcome b c.addr v = s) ∧
    (c.outcome = none →
      let t := s.decideOutcome b c.addr v
      let x := s.bay b
      OnlyBay b s t ∧ t.keys = s.keys ∧
      (∃ c', (t.bay b).ctx c.addr = some c' ∧ c'.phase = .reportWait ∧ c'.outcome = some v ∧ c'.confirmed = c.confirmed ∧
        (x.state ≠ .stopping → s.room = true → s.report.waiting = [] → c'.recordAppended = true)) ∧
      (∀ d ∈ x.contexts, d.addr ≠ c.addr → d ∈ (t.bay b).contexts) ∧
      (t.bay b).batch.loaded = (if v = .loaded then x.batch.loaded + 1 else x.batch.loaded) ∧
      (t.bay b).batch.failed = (match v with | .failed _ => x.batch.failed + 1 | _ => x.batch.failed) ∧
      (t.bay b).batch.unknown = (if v = .unknown then x.batch.unknown + 1 else x.batch.unknown) ∧
      (t.bay b).batch.hand ≠ some c.addr ∧ t.cipher.holder b c.addr = none ∧
      t.cipher.outstanding (fun j => j.context == some (b, c.addr)) = false ∧
      (∀ f ∈ (t.bay b).buffers, ∀ pos, f.owner ≠ some (c.addr, pos)) ∧
      (x.state = .stopping → t.report = s.report) ∧
      (x.state ≠ .stopping → s.room = true → s.report.waiting = [] →
        t.report.records = s.report.records ++
          [{ number := nextNumber s.report.recordCounter, time := s.clock, body := .terminal (s.terminalRecord b c v) }]) ∧
      (x.state ≠ .stopping → s.room = false ∨ s.report.waiting ≠ [] →
        t.report = { s.report with
          waiting := s.report.waiting ++ [{ bay := b, addr := c.addr, record := s.terminalRecord b c v }] }))

/-! ### Line faults, resets and power -/

/-- Line faults on a bay line: held active with nothing in flight in READY, the bay enters FAULT, and the gap from that report is
counted in the unit of the rate in force, which is the model's choice (log 49); on a frame being sent in ROLLING or LOADING a stuck
passive or mismatched line stops the batch LINE_FAULT with a line reset; a line held active there ends the batch at once in FAULT,
with its BATCH_END record and no line reset; on a mismatch on the line reset of BAY_RESET the bay enters FAULT and the reply carries
FAULT. An idle step finds a line held active once it has been active for 16U, counted from the start of the active period or from
the arming of the watch, whichever came later. Faults in STOPPING, on the line reset of a stop or of the tamper response, and a
stuck passive line on that of BAY_RESET are not stated here (R26, R28, R29, R67 to R69). -/
def Obligations.LineFaults : Prop :=
  ∀ (s : State) (b : BayId), s.powered = true → EngineQuiet s →
    let x := s.bay b
    (x.state = .ready → x.line.tx = .idle → x.line.loopback = false →
      exec (.lineHeldActive (.bay b)) s =
        .next ((s.setBay b { x with state := .fault, faultReason := some .lineHeldActive
                                    line := x.line.reported s.time x.line.rate }).raise .bayFault).beginFrame) ∧
    (∀ f rate sentAt, x.state = .rolling ∨ x.state = .loading → x.faultReason = none →
      x.line.tx = .frame f rate sentAt false →
      ∃ t u, exec (.lineStuckPassive (.bay b)) s = .next t ∧ exec (.echoMismatch (.bay b)) s = .next u ∧
        (t.bay b).faultReason = some .lineStuckPassive ∧ (u.bay b).faultReason = some .echoMismatch ∧
        ∀ v, v = t ∨ v = u → OnlyBay b s v ∧ v.keys = s.keys ∧ (v.bay b).state = .stopping ∧ (v.bay b).batch.stopCause = some .lineFault ∧
          (v.bay b).line.tx = .reset s.time ∧ (v.bay b).contexts = x.contexts ∧ v.report.records = s.report.records) ∧
    (x.state = .rolling ∨ x.state = .loading → x.faultReason = none → x.line.tx.sending = false →
      x.line.tx.isReset = false → x.line.loopback = false →
      ∃ t, exec (.lineHeldActive (.bay b)) s = .next t ∧ OnlyBay b s t ∧ t.keys = s.keys ∧ (t.bay b).state = .fault ∧
        (t.bay b).faultReason = some .lineHeldActive ∧ (t.bay b).batch.stopCause = some .lineFault ∧
        (t.bay b).contexts = [] ∧ (t.bay b).line.tx = .idle ∧ t.notice.flags.bayFault = true ∧
        t.report.records.map (·.body) = s.report.records.map (·.body) ++
          [.batchEnd (batchEndRecord b x.batch .lineFault (endList x.contexts))]) ∧
    (∀ since r rest, x.state = .ready ∨ x.state = .fault → x.line.tx = .reset since → x.tamperOff = false →
      x.resetReply = some .ok → s.link.head = .withOwner → s.link.queue = r :: rest →
      ∃ t, exec (.echoMismatch (.bay b)) s = .next t ∧ OnlyBay b s t ∧ t.keys = s.keys ∧ (t.bay b).state = .fault ∧
        (t.bay b).faultReason = some .echoMismatch ∧ (t.bay b).line.rate = .standard ∧
        t.link.head = .replyReady ∧
        (t.link.sending = some (.reply r.tag [0x00#8, 0x06#8]) ∨ .reply r.tag [0x00#8, 0x06#8] ∈ t.link.waiting)) ∧
    (x.watched = true → x.line.tx = .idle → x.line.active = true →
      max x.line.armedAt x.line.since + 16 * x.line.rate.unit ≤ s.time → Instr.lineHeldActive (.bay b) ∈ s.due)

/-- LINE_RESET_ENDED: the line is at STANDARD and free at once; after BAY_RESET the bay is READY and the reply says so; after
an early stop the BATCH_END record is appended with the list of the table as it stands then (log 30) and the table is cleared, and
the bay is READY, or in FAULT with the reason recorded, or after tamper in OFF without supply; a bay the tamper response resets
without a batch is in OFF (R26, R28, R29, R31, R56, R81). -/
def Obligations.LineResetEnded : Prop :=
  ∀ (s : State) (b : BayId) (since : Nat), s.powered = true → EngineQuiet s → (s.bay b).line.tx = .reset since →
    let x := s.bay b
    (∀ r rest, x.state = .ready ∨ x.state = .fault → x.tamperOff = false → x.resetReply = some .ok →
      s.link.head = .withOwner → s.link.queue = r :: rest →
      exec (.lineResetEnded b) s =
        .next ({ s.setBay b { x with state := .ready, faultReason := none, resetReply := none
                                     line := { x.line with tx := .idle, free := true, rate := .standard
                                                           armedAt := s.time } } with
                 link := { s.link with head := .replyReady
                                       waiting := s.link.waiting ++ [.reply r.tag [0x00#8, 0x02#8]] } } : State).beginFrame) ∧
    (∀ cause, x.state = .stopping → x.batch.stopCause = some cause →
      ∃ t, exec (.lineResetEnded b) s = .next t ∧ OnlyBay b s t ∧ t.keys = s.keys ∧
        (t.bay b).contexts = [] ∧ (t.bay b).line.tx = .idle ∧ (t.bay b).line.free = true ∧
        (t.bay b).line.rate = .standard ∧ (t.bay b).batch = { x.batch with hand := none } ∧
        t.report.records.map (·.body) = s.report.records.map (·.body) ++
          [.batchEnd (batchEndRecord b x.batch cause (endList x.contexts))] ∧
        (cause = .aborted ∨ cause = .reset → x.faultReason = none →
          (t.bay b).state = .ready ∧ (t.bay b).supply = x.supply) ∧
        (∀ reason, cause = .aborted ∨ cause = .reset ∨ cause = .lineFault → x.faultReason = some reason →
          (t.bay b).state = .fault ∧ (t.bay b).faultReason = some reason ∧ t.notice.flags.bayFault = true) ∧
        (cause = .tamper → (t.bay b).state = .off ∧ (t.bay b).supply = false ∧ (t.bay b).faultReason = none)) ∧
    (x.state ≠ .stopping → x.tamperOff = true →
      ∃ t, exec (.lineResetEnded b) s = .next t ∧ OnlyBay b s t ∧ t.keys = s.keys ∧
        (t.bay b).state = .off ∧ (t.bay b).supply = false ∧ (t.bay b).line.free = true ∧
        (t.bay b).line.rate = .standard ∧ (t.bay b).faultReason = none)

/-- LINE_LEVEL_CHANGE shows its level on the line and does nothing else. The power-up wait and over-current: the quiet count
stops while the line is active and starts again from the change to passive, or runs on where the line was active for less than the
glitch threshold of 20 ticks; at 100 ms the bay is READY; at the limit it is in FAULT(POWER_TIMEOUT) with its supply off, unless
the count reaches 100 ms at that moment; over-current takes a bay with its supply on to FAULT(OVER_CURRENT), and a running batch
ends POWER_FAULT with its BATCH_END record and no line reset (R30, R57, R75, R76, R78; log 35). -/
def Obligations.PowerEvents : Prop :=
  (∀ (s : State) (line : LineId) (active : Bool), s.powered = true →
    exec (.lineLevelChange line active) s = .next (s.updLine line (fun l => l.shows s.time active)).beginFrame ∧
      (∀ l : LineEnd, (l.shows s.time active).active = active ∧
        (l.active = active → l.shows s.time active = l) ∧ (l.shows s.time active).tx = l.tx ∧
        (l.shows s.time active).free = l.free ∧ (l.shows s.time active).rate = l.rate)) ∧
  ∀ (s : State) (b : BayId), s.powered = true → EngineQuiet s →
    let x := s.bay b
    (x.state = .powering →
      (∀ t0 d, x.line.tx = .idle → x.line.free = true → x.line.rate = .standard → x.line.active = false →
        x.line.changes ≠ [] → x.quietSince = some t0 → t0 + 20 ≤ s.time →
        ∃ t u, exec (.lineLevelChange (.bay b) true) s = .next t ∧ (t.bay b).quietSince = none ∧
          exec (.lineLevelChange (.bay b) false) { t with time := s.time + d } = .next u ∧ OnlyBay b s { u with time := s.time } ∧
          (u.bay b).state = .powering ∧ (u.bay b).limitAt = x.limitAt ∧
          (u.bay b).quietSince = some (if d < 20 then t0 else s.time + d)) ∧
      (∀ t0, x.quietSince = some t0 →
        let ready := { x with state := .ready, limitAt := none, line := { x.line with armedAt := s.time } }
        exec (.quietCountReached b) s = .next (s.setBay b ready).beginFrame ∧
        (t0 + 100000 ≤ s.time → exec (.powerTimeout b) s = .next (s.setBay b ready).beginFrame)) ∧
      ((∀ t0, x.quietSince = some t0 → s.time < t0 + 100000) →
        exec (.powerTimeout b) s = .next ((s.setBay b (x.toFault .powerTimeout)).raise .bayFault).beginFrame)) ∧
    (x.supply = true → x.isRunning = false → x.tamperOff = false → x.resetReply = none →
      exec (.overCurrent b) s = .next ((s.setBay b (x.toFault .overCurrent)).raise .bayFault).beginFrame) ∧
    (∀ reason, reason = .overCurrent ∨ reason = .powerTimeout →
      (x.toFault reason).state = .fault ∧ (x.toFault reason).faultReason = some reason ∧ (x.toFault reason).supply = false ∧
        (x.toFault reason).limitAt = none ∧ (x.toFault reason).contexts = x.contexts) ∧
    (x.supply = true → x.isRunning = true → x.batch.stopCause ≠ some .tamper →
      ∃ t, exec (.overCurrent b) s = .next t ∧ OnlyBay b s t ∧ t.keys = s.keys ∧
        (t.bay b).state = .fault ∧ (t.bay b).faultReason = some .overCurrent ∧
        (t.bay b).supply = false ∧ (t.bay b).contexts = [] ∧ (t.bay b).batch.stopCause = some .powerFault ∧
        (t.bay b).line.tx.isReset = false ∧ t.notice.flags.bayFault = true ∧
        t.report.records.map (·.body) = s.report.records.map (·.body) ++
          [.batchEnd (batchEndRecord b x.batch .powerFault (endList x.contexts))]) ∧
    (x.supply = false → exec (.overCurrent b) s = .next s.beginFrame)

/-! ### Cipher completions -/

/-- TRANSPORT_COMPLETE and PREPARE_COMPLETE for a terminal in hand. The holder is filled with the key derived under tag 0, the
context goes on to LOADING and the engine starts the URGENT PREPARE of its first position; prepare-ahead, where it is ON, tops the
bay up to two requests: the PREPARE of the next position, or with none left the TRANSPORT of the next context. A PREPARE that the
start checks end fails its context, WINDOW_CLOSED or KEY_UNAVAILABLE. The result of a PREPARE goes out as the KEY frame of its
position on the free line. A position whose PREPARE is queued already has it raised to URGENT where it stands (R16, R17, R21, R23,
R102 to R108, R111, R114). -/
def Obligations.DerivationsComplete : Prop :=
  (∀ (s : State) (b : BayId) (c : Context) (p : Profile), s.powered = true → (s.bay b).state = .loading →
    (s.bay b).batch.hand = some c.addr → (s.bay b).ctx c.addr = some c → c.outcome = none → s.profileOf c = some p →
    s.cipher.queue = [] → s.cipher.waiting = [] →
    let x := s.bay b
    (∀ k key gen urgent d pos slot,
      s.cipher.running = some { job := .transport b c.addr c.serial k, urgent := urgent, withdrawn := false
                                material := .slot key gen } →
      c.phase = .transport → ({ c with posIndex := 1 }).nextPosition p = some (d, pos) → d.action = .derive slot →
      x.buffers = [.free, .free] →
      let working := derivedKey key c.serial 0x00#8 gen
      (∀ info base, s.window ≠ none → s.latched = false → (s.slot slot).content = .active info base → info.kind = .base →
        ∃ t c', exec .transportComplete s = .next t ∧ OnlyBay b s t ∧ t.cipher.holder b c.addr = some working ∧
          (t.bay b).ctx c.addr = some c' ∧ c'.phase = .loading ∧ c'.posIndex = pos ∧
          t.cipher.running = some { job := .prepare b c.addr pos c.serial d.tag slot p.parity, urgent := true
                                    withdrawn := false, material := .slotAndTransport base info.gen working } ∧
          (t.slot slot) = (s.slot slot).countUse ∧
          (p.ahead = false → t.cipher.queue = []) ∧
          (∀ d' pos' slot', p.ahead = true → ({ c with posIndex := pos + 1 }).nextPosition p = some (d', pos') →
            d'.action = .derive slot' →
            t.cipher.queue = [{ job := .prepare b c.addr pos' c.serial d'.tag slot' p.parity, urgent := false }]) ∧
          (∀ n q, p.ahead = true → ({ c with posIndex := pos + 1 }).nextPosition p = none → x.nextAhead c.addr = some n →
            s.profileOf n = some q → s.cipher.holder b n.addr = none →
            t.cipher.queue = [{ job := .transport b n.addr n.serial q.transportSlot, urgent := false }])) ∧
      (s.window = none ∨ s.latched = true →
        ∃ t c', exec .transportComplete s = .next t ∧ OnlyBay b s t ∧ (t.bay b).ctx c.addr = some c' ∧
          c'.outcome = some (.failed .windowClosed)) ∧
      (s.window ≠ none → s.latched = false →
        (∀ info base, (s.slot slot).content = .active info base → info.kind ≠ .base) →
        ∃ t c', exec .transportComplete s = .next t ∧ OnlyBay b s t ∧ (t.bay b).ctx c.addr = some c' ∧
          c'.outcome = some (.failed .keyUnavailable))) ∧
    (∀ d slot key gen working urgent,
      c.phase = .loading → c.nextPosition p = some (d, c.posIndex) →
      s.cipher.running = some { job := .prepare b c.addr c.posIndex c.serial d.tag slot p.parity, urgent := urgent
                                withdrawn := false, material := .slotAndTransport key gen working } →
      x.result c.addr c.posIndex = none → Buffer.reserved c.addr c.posIndex ∈ x.buffers →
      x.onlyBatchFrame → x.lineReady → x.rateOwed = false → x.resendAt = none →
      ∃ t c', exec .prepareComplete s = .next t ∧ OnlyBay b s t ∧
        (p.ahead = false → t.keys = s.keys ∧ t.cipher.running = none) ∧
        (t.bay b).line.tx =
          .frame (keyFrame c.addr (prepare key working c.serial d.tag gen p.parity)) x.line.rate s.time false ∧
        (t.bay b).ctx c.addr = some c' ∧ c'.attemptsTotal = c.attemptsTotal + 1 ∧ c'.lastAddressed = s.time)) ∧
  ∀ (s : State) (b : BayId) (c : Context) (p : Profile) (d d' : Descriptor) (r : Prepared) (rate : Rate) (sentAt : Nat)
    (shown : List Nat) (pos : Nat) (before after : List CipherRequest) (q : CipherRequest),
    KeyInFlight s b c p d r rate sentAt → s.cipher.running.isSome = true →
    judgeKey r (judgeAnswer rate 5 shown) = .confirmed →
    ({ c with confirmed := c.confirmed.set (c.posIndex - 1) (some { check := r.check, gen := r.gen }) }).nextPosition p =
      some (d', pos) →
    (s.bay b).result c.addr pos = none → s.cipher.queue = before ++ q :: after →
    q.job.isPrepareFor b c.addr pos = true → (∀ z ∈ before ++ after, z.job.isPrepareFor b c.addr pos = false) →
    ∃ t more, exec (.keyEnded b shown) s = .next t ∧ t.cipher.running = s.cipher.running ∧
      t.cipher.queue = before ++ { q with urgent := true } :: after ++ more

/-- CHECK_COMPLETE and IMPORT_COMPLETE: an assembly or import whose check value is the expected one and for which there is
room is stored, with its KEY_CHANGE record and the OK reply, in one event; a wrong check value or a full report queue stores
nothing; the assembly holder is empty afterwards. A withdrawn request's result is discarded (R105, R106, R110, R112, R113,
R119, R121, R122, R127, R130). -/
def Obligations.StoredOnCompletion : Prop :=
  ∀ s : State, s.powered = true → s.cipher.queue = [] → s.cipher.waiting = [] →
    let ended : State := { s with keys := { s.keys with progress := none }, cipher := { s.cipher with running := none } }
    let stored := fun (r : KeyRequest) (origin : Origin) (key : Key) (check : CheckValue) =>
      ({ lastGen := r.gen
         content := .active { kind := r.kind, gen := r.gen, check := check, origin := origin, uses := 0
                              label := r.label } key } : Slot)
    let reply := fun (r : KeyRequest) (check : CheckValue) => [finByte r.slot] ++ wordBytes 2 r.gen ++ wordBytes 3 check
    (∀ r key idA idB urgent m,
      s.keys.progress = some (.assembly r key idA idB) →
      s.cipher.running = some { job := .storeCheck key, urgent := urgent, withdrawn := false, material := m } →
      let check := checkValue key
      (check ≠ r.expected → exec .checkComplete s = .next (ended.answer .checkMismatch []).beginFrame) ∧
      (check = r.expected → s.room = false → exec .checkComplete s = .next (ended.answer .queueFull []).beginFrame) ∧
      (check = r.expected → s.room = true →
        exec .checkComplete s =
          .next (((ended.setSlot r.slot (stored r .assembled key check)).appendRecord
            (.keyChange { slot := r.slot, action := .assembled, kind := r.kind, gen := r.gen, check := some check
                          custodians := some (idA, idB) })).answer .ok (reply r check)).beginFrame)) ∧
    (∀ r transfer wrapped tkey tgen urgent,
      s.keys.progress = some (.importing r transfer) → r.slot ≠ transfer →
      s.cipher.running = some { job := .importKey transfer wrapped, urgent := urgent, withdrawn := false
                                material := .slot tkey tgen } →
      let key := Config.decipher tkey wrapped
      let check := checkValue key
      (check ≠ r.expected → exec .importComplete s = .next (ended.answer .checkMismatch []).beginFrame) ∧
      (check = r.expected → s.room = false → exec .importComplete s = .next (ended.answer .queueFull []).beginFrame) ∧
      (check = r.expected → s.room = true →
        exec .importComplete s =
          .next ((((ended.setSlot r.slot (stored r .imported key check)).setSlot transfer (s.slot transfer).countUse).appendRecord
            (.keyChange { slot := r.slot, action := .imported, kind := r.kind, gen := r.gen, check := some check
                          custodians := none })).answer .ok (reply r check)).beginFrame)) ∧
    (∀ key urgent m,
      s.cipher.running = some { job := .storeCheck key, urgent := urgent, withdrawn := true, material := m } →
      exec .checkComplete s = .next ({ s with cipher := { s.cipher with running := none } } : State).beginFrame)

/-! ### Token ports -/

/-- A port's contact and settling time: closing in EMPTY begins the settling time; when it has run the port reads its token
with READ_TOKEN, at once on a free line; opening empties the port whatever it does, and an assembly in progress that loses
its token is answered TOKEN_ABSENT; every change raises TOKEN (R128, R137 to R139, R142). -/
def Obligations.PortSeated : Prop :=
  ∀ (s : State) (p : PortId), s.powered = true →
    let q := s.port p
    (q.state = .empty →
      exec (.presenceContactCloses p) s =
        .next ((s.setPort p { q with contact := true, state := .settling s.time }).raise .token).beginFrame ∧
      exec (.presenceContactOpens p) s = .next (s.setPort p { q with contact := false }).beginFrame) ∧
    (q.state ≠ .empty →
      exec (.presenceContactCloses p) s = .next (s.setPort p { q with contact := true }).beginFrame) ∧
    (q.state ≠ .empty → ∃ t, exec (.presenceContactOpens p) s = .next t ∧ (t.port p).state = .empty ∧
      (t.port p).contact = false ∧ (t.port p).line.tx = .idle ∧ t.notice.flags.token = true ∧
      t.cipher.outstanding (CipherJob.isPortCheck p) = false ∧
      (∀ token r key idA idB rq rest, q.state = .read token → s.keys.progress = some (.assembly r key idA idB) →
        s.link.head = .withOwner → s.link.queue = rq :: rest → EngineQuiet s →
        t.keys.progress = none ∧ t.keys.slots = s.keys.slots ∧
          (t.link.sending = some (.reply rq.tag [0x0D#8]) ∨ .reply rq.tag [0x0D#8] ∈ t.link.waiting))) ∧
    (∀ since, q.state = .settling since → q.line.tx = .idle → q.line.free = true →
      exec (.settlingTimeExpires p) s =
        .next ((s.setPort p { q with
          state := .reading 0 0 .inFlight
          line := q.line.begins s.time (.frame readTokenFrame .standard s.time false) }).raise .token).beginFrame) ∧
    (∀ since, q.state = .settling since → q.line.tx ≠ .idle ∨ q.line.free = false →
      exec (.settlingTimeExpires p) s = .next ((s.setPort p { q with state := .reading 0 0 .due }).raise .token).beginFrame)

/-- A read of a token: the table of R139, the content tests of R140 and the component check of R141, with the limits of three
attempts and six deferrals, the answer limit as a garbled answer, and a line fault, which makes the port UNREADABLE; 12U after the
report of a fault the line is watched no more until the next read, so that a token that goes on holding it is reported once (R38,
R55, R139 to R141, R143; log 42). -/
def Obligations.TokenRead : Prop :=
  (∀ token : Token, token.id ≠ 0 →
    tokenContent token.answerBytes =
      match token.component with
      | none => .plain token
      | some (key, _) => .carrying token key) ∧
  ∀ (s : State) (p : PortId) (n d : Nat), s.powered = true →
    let q := s.port p
    let becomes := fun (i : Instr) (x : PortState) (line : LineEnd) =>
      exec i s = .next (s.setPort p { q with state := x, line := line }).beginFrame
    let changes := fun (i : Instr) (x : PortState) (line : LineEnd) =>
      exec i s = .next ((s.setPort p { q with state := x, line := line }).raise .token).beginFrame
    let sent := q.line.begins s.time (.frame readTokenFrame .standard s.time false)
    let gapLine := q.line.gapFrom s.time .standard
    let faultLine := q.line.reported s.time .standard
    (∀ sentAt passed shown, q.state = .reading n d .inFlight → q.line.tx = .frame readTokenFrame .standard sentAt passed →
      let ans := judgeAnswer .standard 25 shown
      let i := Instr.readTokenEnded p shown
      (ans = .deferral →
        (d + 1 < 6 → becomes i (.reading n (d + 1) (.waiting (s.time + 50000))) gapLine) ∧
        (6 ≤ d + 1 → changes i (.unreadable .deferred) gapLine)) ∧
      (ans = .absent →
        (n + 1 < 3 → becomes i (.reading (n + 1) d .due) gapLine) ∧ (3 ≤ n + 1 → changes i (.unreadable .noAnswer) gapLine)) ∧
      (ans = .garbled →
        (n + 1 < 3 → becomes i (.reading (n + 1) d .due) gapLine) ∧ (3 ≤ n + 1 → changes i (.unreadable .garbled) gapLine)) ∧
      (n + 1 < 3 → becomes (.answerLimit (.port p)) (.reading (n + 1) d .due) gapLine) ∧
      (∀ bytes, ans = .clean bytes → tokenContent bytes = .bad → changes i (.unreadable .badContent) gapLine) ∧
      (∀ bytes token, ans = .clean bytes → tokenContent bytes = .plain token → changes i (.read token) gapLine) ∧
      (∀ bytes token key, ans = .clean bytes → tokenContent bytes = .carrying token key → CipherEmpty s →
        exec i s = .next ({ s.setPort p { q with state := .reading n d (.checking token), line := gapLine } with
          cipher := { s.cipher with running := some { job := .portCheck p key, urgent := false, withdrawn := false
                                                      material := .none } } } : State).beginFrame) ∧
      becomes (.dataEndPassed (.port p)) q.state { q.line with tx := .frame readTokenFrame .standard sentAt true } ∧
      (passed = false → CipherEmpty s →
        changes (.lineStuckPassive (.port p)) (.unreadable .lineFault) faultLine ∧
        changes (.echoMismatch (.port p)) (.unreadable .lineFault) faultLine) ∧
      (passed = true → CipherEmpty s → changes (.lineHeldActive (.port p)) (.unreadable .lineFault) faultLine)) ∧
    (∀ token key m, q.state = .reading n d (.checking token) → s.cipher.queue = [] → s.cipher.waiting = [] →
      s.cipher.running = some { job := .portCheck p key, urgent := false, withdrawn := false, material := m } →
      let free := { s with cipher := { s.cipher with running := none } }
      (token.component = some (key, checkValue key) →
        exec .checkComplete s = .next ((free.setPort p { q with state := .read token }).raise .token).beginFrame) ∧
      (∀ expected, token.component = some (key, expected) → expected ≠ checkValue key →
        exec .checkComplete s =
          .next ((free.setPort p { q with state := .unreadable .checkMismatch }).raise .token).beginFrame)) ∧
    (∀ until_, q.state = .reading n d (.waiting until_) → q.line.tx = .idle → q.line.free = true →
      becomes (.readTokenResendDue p) (.reading n d .inFlight) sent) ∧
    (q.state = .reading n d .due → q.line.tx = .idle → q.line.free = false →
      becomes (.lineFree (.port p)) (.reading n d .inFlight) sent) ∧
    (q.line.tx = .idle → q.line.afterFault = true → q.line.gapAt + 12 * q.line.gapRate.unit ≤ s.time →
      exec (.lineHeldActive (.port p)) s = .next s.beginFrame)
end

