-- ==== Sys2Proof/Laws/LineEnd.lean ====
section
/-! SUPPORT. What each operation on a line end leaves in its fields, and what the shared ones can do. -/

namespace Sys2Proof.Machine

/-! ### Fields -/

/-- A change of level touches the level and the moments alone. -/
@[simp] theorem shows_rate (l : LineEnd) (now : Nat) (a : Bool) : (l.shows now a).rate = l.rate := by
  unfold LineEnd.shows; split <;> rfl
@[simp] theorem shows_tx (l : LineEnd) (now : Nat) (a : Bool) : (l.shows now a).tx = l.tx := by
  unfold LineEnd.shows; split <;> rfl
@[simp] theorem shows_free (l : LineEnd) (now : Nat) (a : Bool) : (l.shows now a).free = l.free := by
  unfold LineEnd.shows; split <;> rfl
@[simp] theorem shows_gapAt (l : LineEnd) (now : Nat) (a : Bool) : (l.shows now a).gapAt = l.gapAt := by
  unfold LineEnd.shows; split <;> rfl
@[simp] theorem shows_gapRate (l : LineEnd) (now : Nat) (a : Bool) : (l.shows now a).gapRate = l.gapRate := by
  unfold LineEnd.shows; split <;> rfl
@[simp] theorem shows_armedAt (l : LineEnd) (now : Nat) (a : Bool) : (l.shows now a).armedAt = l.armedAt := by
  unfold LineEnd.shows; split <;> rfl
@[simp] theorem shows_afterFault (l : LineEnd) (now : Nat) (a : Bool) : (l.shows now a).afterFault = l.afterFault := by
  unfold LineEnd.shows; split <;> rfl
@[simp] theorem shows_loopback (l : LineEnd) (now : Nat) (a : Bool) : (l.shows now a).loopback = l.loopback := by
  unfold LineEnd.shows; split <;> rfl

/-- After a change of level the line shows that level (R52). -/
@[simp] theorem shows_active (l : LineEnd) (now : Nat) (a : Bool) : (l.shows now a).active = a := by
  unfold LineEnd.shows; split
  · assumption
  · rfl

@[simp] theorem released_rate (l : LineEnd) (now : Nat) : (l.released now).rate = l.rate := by
  unfold LineEnd.released; split <;> simp
@[simp] theorem released_tx (l : LineEnd) (now : Nat) : (l.released now).tx = l.tx := by
  unfold LineEnd.released; split <;> simp
@[simp] theorem released_free (l : LineEnd) (now : Nat) : (l.released now).free = l.free := by
  unfold LineEnd.released; split <;> simp
@[simp] theorem released_gapAt (l : LineEnd) (now : Nat) : (l.released now).gapAt = l.gapAt := by
  unfold LineEnd.released; split <;> simp
@[simp] theorem released_gapRate (l : LineEnd) (now : Nat) : (l.released now).gapRate = l.gapRate := by
  unfold LineEnd.released; split <;> simp
@[simp] theorem released_armedAt (l : LineEnd) (now : Nat) : (l.released now).armedAt = l.armedAt := by
  unfold LineEnd.released; split <;> simp
@[simp] theorem released_afterFault (l : LineEnd) (now : Nat) : (l.released now).afterFault = l.afterFault := by
  unfold LineEnd.released; split <;> simp
@[simp] theorem released_loopback (l : LineEnd) (now : Nat) : (l.released now).loopback = l.loopback := by
  unfold LineEnd.released; split <;> simp

@[simp] theorem transmit_rate (l : LineEnd) (tx : Tx) (now : Nat) : (l.transmit tx now).rate = l.rate := rfl
@[simp] theorem transmit_tx (l : LineEnd) (tx : Tx) (now : Nat) : (l.transmit tx now).tx = tx := rfl
@[simp] theorem transmit_free (l : LineEnd) (tx : Tx) (now : Nat) : (l.transmit tx now).free = false := rfl
@[simp] theorem transmit_gapAt (l : LineEnd) (tx : Tx) (now : Nat) : (l.transmit tx now).gapAt = l.gapAt := rfl
@[simp] theorem transmit_gapRate (l : LineEnd) (tx : Tx) (now : Nat) : (l.transmit tx now).gapRate = l.gapRate := rfl
@[simp] theorem transmit_active (l : LineEnd) (tx : Tx) (now : Nat) : (l.transmit tx now).active = true := rfl
@[simp] theorem transmit_changes (l : LineEnd) (tx : Tx) (now : Nat) : (l.transmit tx now).changes = l.recorded now := rfl
@[simp] theorem transmit_armedAt (l : LineEnd) (tx : Tx) (now : Nat) : (l.transmit tx now).armedAt = l.armedAt := rfl
@[simp] theorem transmit_afterFault (l : LineEnd) (tx : Tx) (now : Nat) : (l.transmit tx now).afterFault = l.afterFault := rfl
@[simp] theorem transmit_loopback (l : LineEnd) (tx : Tx) (now : Nat) : (l.transmit tx now).loopback = l.loopback := rfl

@[simp] theorem ended_rate (l : LineEnd) (now : Nat) : (l.ended now).rate = l.rate := by simp [LineEnd.ended]
@[simp] theorem ended_tx (l : LineEnd) (now : Nat) : (l.ended now).tx = .idle := by simp [LineEnd.ended]
@[simp] theorem ended_free (l : LineEnd) (now : Nat) : (l.ended now).free = false := by simp [LineEnd.ended]
@[simp] theorem ended_gapAt (l : LineEnd) (now : Nat) : (l.ended now).gapAt = now := by simp [LineEnd.ended]
@[simp] theorem ended_gapRate (l : LineEnd) (now : Nat) : (l.ended now).gapRate = l.sentRate := by simp [LineEnd.ended]
@[simp] theorem ended_armedAt (l : LineEnd) (now : Nat) : (l.ended now).armedAt = l.armed now := by simp [LineEnd.ended]
@[simp] theorem ended_afterFault (l : LineEnd) (now : Nat) : (l.ended now).afterFault = false := by simp [LineEnd.ended]
@[simp] theorem ended_loopback (l : LineEnd) (now : Nat) : (l.ended now).loopback = l.loopback := by simp [LineEnd.ended]

@[simp] theorem faulted_rate (l : LineEnd) (now : Nat) : (l.faulted now).rate = l.rate := by simp [LineEnd.faulted]
@[simp] theorem faulted_tx (l : LineEnd) (now : Nat) : (l.faulted now).tx = .idle := by simp [LineEnd.faulted]
@[simp] theorem faulted_free (l : LineEnd) (now : Nat) : (l.faulted now).free = false := by simp [LineEnd.faulted]
@[simp] theorem faulted_gapAt (l : LineEnd) (now : Nat) : (l.faulted now).gapAt = now := by simp [LineEnd.faulted]
@[simp] theorem faulted_gapRate (l : LineEnd) (now : Nat) : (l.faulted now).gapRate = l.sentRate := by simp [LineEnd.faulted]
@[simp] theorem faulted_armedAt (l : LineEnd) (now : Nat) : (l.faulted now).armedAt = now := by simp [LineEnd.faulted]
@[simp] theorem faulted_afterFault (l : LineEnd) (now : Nat) : (l.faulted now).afterFault = true := by simp [LineEnd.faulted]
@[simp] theorem faulted_loopback (l : LineEnd) (now : Nat) : (l.faulted now).loopback = l.loopback := by simp [LineEnd.faulted]

@[simp] theorem cut_rate (l : LineEnd) (now : Nat) : (l.cut now).rate = l.rate := by simp [LineEnd.cut]
@[simp] theorem cut_tx (l : LineEnd) (now : Nat) : (l.cut now).tx = .idle := by simp [LineEnd.cut]
@[simp] theorem cut_free (l : LineEnd) (now : Nat) : (l.cut now).free = true := by simp [LineEnd.cut]
@[simp] theorem cut_gapAt (l : LineEnd) (now : Nat) : (l.cut now).gapAt = l.gapAt := by simp [LineEnd.cut]
@[simp] theorem cut_gapRate (l : LineEnd) (now : Nat) : (l.cut now).gapRate = l.gapRate := by simp [LineEnd.cut]
@[simp] theorem cut_armedAt (l : LineEnd) (now : Nat) : (l.cut now).armedAt = l.armedAt := by simp [LineEnd.cut]
@[simp] theorem cut_afterFault (l : LineEnd) (now : Nat) : (l.cut now).afterFault = l.afterFault := by simp [LineEnd.cut]
@[simp] theorem cut_loopback (l : LineEnd) (now : Nat) : (l.cut now).loopback = l.loopback := by simp [LineEnd.cut]

@[simp] theorem resetOver_rate (l : LineEnd) (now : Nat) : (l.resetOver now).rate = .standard := rfl
@[simp] theorem resetOver_tx (l : LineEnd) (now : Nat) : (l.resetOver now).tx = .idle := rfl
@[simp] theorem resetOver_free (l : LineEnd) (now : Nat) : (l.resetOver now).free = true := rfl
@[simp] theorem resetOver_gapAt (l : LineEnd) (now : Nat) : (l.resetOver now).gapAt = l.gapAt := rfl
@[simp] theorem resetOver_gapRate (l : LineEnd) (now : Nat) : (l.resetOver now).gapRate = l.gapRate := rfl
@[simp] theorem resetOver_active (l : LineEnd) (now : Nat) : (l.resetOver now).active = l.active := rfl
@[simp] theorem resetOver_changes (l : LineEnd) (now : Nat) : (l.resetOver now).changes = l.changes := rfl
@[simp] theorem resetOver_armedAt (l : LineEnd) (now : Nat) : (l.resetOver now).armedAt = now := rfl
@[simp] theorem resetOver_afterFault (l : LineEnd) (now : Nat) : (l.resetOver now).afterFault = l.afterFault := rfl
@[simp] theorem resetOver_loopback (l : LineEnd) (now : Nat) : (l.resetOver now).loopback = l.loopback := rfl

@[simp] theorem powered_rate (l : LineEnd) (now : Nat) : (l.powered now).rate = .standard := rfl
@[simp] theorem powered_tx (l : LineEnd) (now : Nat) : (l.powered now).tx = l.tx := rfl
@[simp] theorem powered_free (l : LineEnd) (now : Nat) : (l.powered now).free = l.free := rfl
@[simp] theorem powered_gapAt (l : LineEnd) (now : Nat) : (l.powered now).gapAt = l.gapAt := rfl
@[simp] theorem powered_gapRate (l : LineEnd) (now : Nat) : (l.powered now).gapRate = l.gapRate := rfl
@[simp] theorem powered_active (l : LineEnd) (now : Nat) : (l.powered now).active = l.active := rfl
@[simp] theorem powered_changes (l : LineEnd) (now : Nat) : (l.powered now).changes = [now] := rfl
@[simp] theorem powered_armedAt (l : LineEnd) (now : Nat) : (l.powered now).armedAt = l.armedAt := rfl
@[simp] theorem powered_afterFault (l : LineEnd) (now : Nat) : (l.powered now).afterFault = l.afterFault := rfl
@[simp] theorem powered_loopback (l : LineEnd) (now : Nat) : (l.powered now).loopback = l.loopback := rfl

/-! ### What the operations can do -/

/-- With nothing driven a release changes nothing. -/
theorem released_idle {l : LineEnd} (now : Nat) (h : l.tx = .idle) : l.released now = l := by
  simp [LineEnd.released, LineEnd.driving, h, Tx.symbols]

/-- A frame in flight that ends leaves the line end as the statements speak of it (R55, R67). -/
theorem ended_frame {l : LineEnd} {f : LineFrame} {rate : Rate} {sentAt : Nat} {passed : Bool} (now : Nat)
    (h : l.tx = .frame f rate sentAt passed) : l.ended now = l.gapFrom now rate := by
  simp [LineEnd.ended, LineEnd.gapFrom, LineEnd.sentRate, h]

/-- A frame in flight stopped by a fault report (R68). -/
theorem faulted_frame {l : LineEnd} {f : LineFrame} {rate : Rate} {sentAt : Nat} {passed : Bool} (now : Nat)
    (h : l.tx = .frame f rate sentAt passed) : l.faulted now = l.reported now rate := by
  simp [LineEnd.faulted, LineEnd.reported, ended_frame now h]

/-- A transmission begins. -/
theorem transmit_eq (l : LineEnd) (tx : Tx) (now : Nat) : l.transmit tx now = l.begins now tx := rfl

/-- Merging keeps the moments known: no moment is new (R57). -/
theorem mem_noteChange {g t x : Nat} {moments : List Nat} (h : x ∈ noteChange g t moments) : x = t ∨ x ∈ moments := by
  unfold noteChange at h
  split at h
  · split at h <;> simp_all
  · simpa using h

theorem mem_settled {g x : Nat} {moments : List Nat} (h : x ∈ settled g moments) : x ∈ moments := by
  induction moments with
  | nil => exact h
  | cons t rest ih =>
    rcases mem_noteChange (show x ∈ noteChange g t (settled g rest) from h) with rfl | h
    · exact List.mem_cons_self
    · exact List.mem_cons_of_mem _ (ih h)

/-- Moments that lie a glitch threshold apart or more are merged not at all (R57). -/
theorem settled_apart {g : Nat} {moments : List Nat} (h : moments.IsChain (fun t s => g ≤ t - s)) :
    settled g moments = moments := by
  induction moments with
  | nil => rfl
  | cons t rest ih =>
    show noteChange g t (settled g rest) = t :: rest
    rw [ih h.tail]
    match rest, h with
    | [], _ => rfl
    | [s], _ => rfl
    | s :: s2 :: more, h =>
      have h1 : g ≤ t - s := by
        rw [List.isChain_cons_cons] at h
        exact h.1
      simp [noteChange, Nat.not_lt.mpr h1]

end Sys2Proof.Machine
end

