-- ==== Sys2Proof/Laws/State.lean ====
section
/-! SUPPORT. What each operation leaves unchanged in the state, field by field, and what reading gives after writing. -/

namespace Sys2Proof.Machine

/-! ### Reading after writing -/

@[simp] theorem bay_setBay_same (s : State) (b : BayId) (x : Bay) : (s.setBay b x).bay b = x := by
  simp [State.bay, State.setBay]

theorem bay_setBay_ne (s : State) {b c : BayId} (x : Bay) (h : b ≠ c) : (s.setBay b x).bay c = s.bay c := by
  have : b.val ≠ c.val := fun e => h (Fin.ext e)
  simp [State.bay, State.setBay, this]

theorem bay_setBay (s : State) (b c : BayId) (x : Bay) : (s.setBay b x).bay c = if b = c then x else s.bay c := by
  split
  · next h => subst h; simp
  · next h => exact bay_setBay_ne s x h

@[simp] theorem bay_updBay_same (s : State) (b : BayId) (f : Bay → Bay) : (s.updBay b f).bay b = f (s.bay b) := by
  simp [State.updBay]

theorem bay_updBay_ne (s : State) {b c : BayId} (f : Bay → Bay) (h : b ≠ c) : (s.updBay b f).bay c = s.bay c :=
  bay_setBay_ne s _ h

theorem bay_updBay (s : State) (b c : BayId) (f : Bay → Bay) :
    (s.updBay b f).bay c = if b = c then f (s.bay b) else s.bay c := bay_setBay s b c _

@[simp] theorem slot_setSlot_same (s : State) (k : SlotId) (x : Slot) : (s.setSlot k x).slot k = x := by
  simp [State.slot, State.setSlot, State.setSlots]

theorem slot_setSlot (s : State) (k j : SlotId) (x : Slot) : (s.setSlot k x).slot j = if k = j then x else s.slot j := by
  simp [State.slot, State.setSlot, State.setSlots, Vector.getElem_set, Fin.ext_iff]

@[simp] theorem entry_setEntry_same (s : State) (e : EntryId) (x : Entry) : (s.setEntry e x).entry e = x := by
  simp [State.entry, State.setEntry, State.setEntries]

theorem entry_setEntry (s : State) (e d : EntryId) (x : Entry) :
    (s.setEntry e x).entry d = if e = d then x else s.entry d := by
  simp [State.entry, State.setEntry, State.setEntries, Vector.getElem_set, Fin.ext_iff]

@[simp] theorem port_setPort_same (s : State) (p : PortId) (x : Port) : (s.setPort p x).port p = x := by cases p <;> rfl

@[simp] theorem port_updPort_same (s : State) (p : PortId) (f : Port → Port) : (s.updPort p f).port p = f (s.port p) := by
  cases p <;> rfl

theorem holder_setHolder (c : Cipher) (b d : BayId) (a e : Addr) (k : Option Key) :
    (c.setHolder b a k).holder d e = if b = d ∧ a = e then k else c.holder d e := by
  by_cases hb : b = d
  · subst hb
    simp [Cipher.holder, Cipher.setHolder, Vector.getElem_set, Fin.ext_iff]
  · have : b.val ≠ d.val := fun h => hb (Fin.ext h)
    simp [Cipher.holder, Cipher.setHolder, this, hb]

/-- After writing the latch it reads as written (R177). -/
@[simp] theorem latched_setLatch (e : Enclosure) (v : Bool) : (e.setLatch v).latched = v := by
  cases v <;> rfl

/-! ### What an operation leaves unchanged -/

@[simp] theorem setBay_pending (s : State) (b : BayId) (x : Bay) : (s.setBay b x).pending = s.pending := rfl
@[simp] theorem setBay_powered (s : State) (b : BayId) (x : Bay) : (s.setBay b x).powered = s.powered := rfl
@[simp] theorem setBay_started (s : State) (b : BayId) (x : Bay) : (s.setBay b x).started = s.started := rfl
@[simp] theorem setBay_time (s : State) (b : BayId) (x : Bay) : (s.setBay b x).time = s.time := rfl
@[simp] theorem setBay_clock (s : State) (b : BayId) (x : Bay) : (s.setBay b x).clock = s.clock := rfl
@[simp] theorem setBay_lastAdvance (s : State) (b : BayId) (x : Bay) : (s.setBay b x).lastAdvance = s.lastAdvance := rfl
@[simp] theorem setBay_enclosure (s : State) (b : BayId) (x : Bay) : (s.setBay b x).enclosure = s.enclosure := rfl
@[simp] theorem setBay_checks (s : State) (b : BayId) (x : Bay) : (s.setBay b x).checks = s.checks := rfl
@[simp] theorem setBay_notice (s : State) (b : BayId) (x : Bay) : (s.setBay b x).notice = s.notice := rfl
@[simp] theorem setBay_link (s : State) (b : BayId) (x : Bay) : (s.setBay b x).link = s.link := rfl
@[simp] theorem setBay_report (s : State) (b : BayId) (x : Bay) : (s.setBay b x).report = s.report := rfl
@[simp] theorem setBay_window (s : State) (b : BayId) (x : Bay) : (s.setBay b x).window = s.window := rfl
@[simp] theorem setBay_profiles (s : State) (b : BayId) (x : Bay) : (s.setBay b x).profiles = s.profiles := rfl
@[simp] theorem setBay_keys (s : State) (b : BayId) (x : Bay) : (s.setBay b x).keys = s.keys := rfl
@[simp] theorem setBay_cipher (s : State) (b : BayId) (x : Bay) : (s.setBay b x).cipher = s.cipher := rfl
@[simp] theorem setBay_portA (s : State) (b : BayId) (x : Bay) : (s.setBay b x).portA = s.portA := rfl
@[simp] theorem setBay_portB (s : State) (b : BayId) (x : Bay) : (s.setBay b x).portB = s.portB := rfl

@[simp] theorem updBay_pending (s : State) (b : BayId) (f : Bay → Bay) : (s.updBay b f).pending = s.pending := rfl
@[simp] theorem updBay_powered (s : State) (b : BayId) (f : Bay → Bay) : (s.updBay b f).powered = s.powered := rfl
@[simp] theorem updBay_started (s : State) (b : BayId) (f : Bay → Bay) : (s.updBay b f).started = s.started := rfl
@[simp] theorem updBay_time (s : State) (b : BayId) (f : Bay → Bay) : (s.updBay b f).time = s.time := rfl
@[simp] theorem updBay_clock (s : State) (b : BayId) (f : Bay → Bay) : (s.updBay b f).clock = s.clock := rfl
@[simp] theorem updBay_lastAdvance (s : State) (b : BayId) (f : Bay → Bay) : (s.updBay b f).lastAdvance = s.lastAdvance := rfl
@[simp] theorem updBay_enclosure (s : State) (b : BayId) (f : Bay → Bay) : (s.updBay b f).enclosure = s.enclosure := rfl
@[simp] theorem updBay_checks (s : State) (b : BayId) (f : Bay → Bay) : (s.updBay b f).checks = s.checks := rfl
@[simp] theorem updBay_notice (s : State) (b : BayId) (f : Bay → Bay) : (s.updBay b f).notice = s.notice := rfl
@[simp] theorem updBay_link (s : State) (b : BayId) (f : Bay → Bay) : (s.updBay b f).link = s.link := rfl
@[simp] theorem updBay_report (s : State) (b : BayId) (f : Bay → Bay) : (s.updBay b f).report = s.report := rfl
@[simp] theorem updBay_window (s : State) (b : BayId) (f : Bay → Bay) : (s.updBay b f).window = s.window := rfl
@[simp] theorem updBay_profiles (s : State) (b : BayId) (f : Bay → Bay) : (s.updBay b f).profiles = s.profiles := rfl
@[simp] theorem updBay_keys (s : State) (b : BayId) (f : Bay → Bay) : (s.updBay b f).keys = s.keys := rfl
@[simp] theorem updBay_cipher (s : State) (b : BayId) (f : Bay → Bay) : (s.updBay b f).cipher = s.cipher := rfl
@[simp] theorem updBay_portA (s : State) (b : BayId) (f : Bay → Bay) : (s.updBay b f).portA = s.portA := rfl
@[simp] theorem updBay_portB (s : State) (b : BayId) (f : Bay → Bay) : (s.updBay b f).portB = s.portB := rfl

@[simp] theorem setPort_pending (s : State) (p : PortId) (x : Port) : (s.setPort p x).pending = s.pending := by cases p <;> rfl
@[simp] theorem setPort_powered (s : State) (p : PortId) (x : Port) : (s.setPort p x).powered = s.powered := by cases p <;> rfl
@[simp] theorem setPort_started (s : State) (p : PortId) (x : Port) : (s.setPort p x).started = s.started := by cases p <;> rfl
@[simp] theorem setPort_time (s : State) (p : PortId) (x : Port) : (s.setPort p x).time = s.time := by cases p <;> rfl
@[simp] theorem setPort_clock (s : State) (p : PortId) (x : Port) : (s.setPort p x).clock = s.clock := by cases p <;> rfl
@[simp] theorem setPort_lastAdvance (s : State) (p : PortId) (x : Port) : (s.setPort p x).lastAdvance = s.lastAdvance := by cases p <;> rfl
@[simp] theorem setPort_enclosure (s : State) (p : PortId) (x : Port) : (s.setPort p x).enclosure = s.enclosure := by cases p <;> rfl
@[simp] theorem setPort_checks (s : State) (p : PortId) (x : Port) : (s.setPort p x).checks = s.checks := by cases p <;> rfl
@[simp] theorem setPort_notice (s : State) (p : PortId) (x : Port) : (s.setPort p x).notice = s.notice := by cases p <;> rfl
@[simp] theorem setPort_link (s : State) (p : PortId) (x : Port) : (s.setPort p x).link = s.link := by cases p <;> rfl
@[simp] theorem setPort_report (s : State) (p : PortId) (x : Port) : (s.setPort p x).report = s.report := by cases p <;> rfl
@[simp] theorem setPort_window (s : State) (p : PortId) (x : Port) : (s.setPort p x).window = s.window := by cases p <;> rfl
@[simp] theorem setPort_profiles (s : State) (p : PortId) (x : Port) : (s.setPort p x).profiles = s.profiles := by cases p <;> rfl
@[simp] theorem setPort_keys (s : State) (p : PortId) (x : Port) : (s.setPort p x).keys = s.keys := by cases p <;> rfl
@[simp] theorem setPort_cipher (s : State) (p : PortId) (x : Port) : (s.setPort p x).cipher = s.cipher := by cases p <;> rfl
@[simp] theorem setPort_bays (s : State) (p : PortId) (x : Port) : (s.setPort p x).bays = s.bays := by cases p <;> rfl

@[simp] theorem updPort_pending (s : State) (p : PortId) (f : Port → Port) : (s.updPort p f).pending = s.pending := by cases p <;> rfl
@[simp] theorem updPort_powered (s : State) (p : PortId) (f : Port → Port) : (s.updPort p f).powered = s.powered := by cases p <;> rfl
@[simp] theorem updPort_started (s : State) (p : PortId) (f : Port → Port) : (s.updPort p f).started = s.started := by cases p <;> rfl
@[simp] theorem updPort_time (s : State) (p : PortId) (f : Port → Port) : (s.updPort p f).time = s.time := by cases p <;> rfl
@[simp] theorem updPort_clock (s : State) (p : PortId) (f : Port → Port) : (s.updPort p f).clock = s.clock := by cases p <;> rfl
@[simp] theorem updPort_lastAdvance (s : State) (p : PortId) (f : Port → Port) : (s.updPort p f).lastAdvance = s.lastAdvance := by cases p <;> rfl
@[simp] theorem updPort_enclosure (s : State) (p : PortId) (f : Port → Port) : (s.updPort p f).enclosure = s.enclosure := by cases p <;> rfl
@[simp] theorem updPort_checks (s : State) (p : PortId) (f : Port → Port) : (s.updPort p f).checks = s.checks := by cases p <;> rfl
@[simp] theorem updPort_notice (s : State) (p : PortId) (f : Port → Port) : (s.updPort p f).notice = s.notice := by cases p <;> rfl
@[simp] theorem updPort_link (s : State) (p : PortId) (f : Port → Port) : (s.updPort p f).link = s.link := by cases p <;> rfl
@[simp] theorem updPort_report (s : State) (p : PortId) (f : Port → Port) : (s.updPort p f).report = s.report := by cases p <;> rfl
@[simp] theorem updPort_window (s : State) (p : PortId) (f : Port → Port) : (s.updPort p f).window = s.window := by cases p <;> rfl
@[simp] theorem updPort_profiles (s : State) (p : PortId) (f : Port → Port) : (s.updPort p f).profiles = s.profiles := by cases p <;> rfl
@[simp] theorem updPort_keys (s : State) (p : PortId) (f : Port → Port) : (s.updPort p f).keys = s.keys := by cases p <;> rfl
@[simp] theorem updPort_cipher (s : State) (p : PortId) (f : Port → Port) : (s.updPort p f).cipher = s.cipher := by cases p <;> rfl
@[simp] theorem updPort_bays (s : State) (p : PortId) (f : Port → Port) : (s.updPort p f).bays = s.bays := by cases p <;> rfl

@[simp] theorem setSlots_pending (s : State) (x : Vector Slot 32) : (s.setSlots x).pending = s.pending := rfl
@[simp] theorem setSlots_powered (s : State) (x : Vector Slot 32) : (s.setSlots x).powered = s.powered := rfl
@[simp] theorem setSlots_started (s : State) (x : Vector Slot 32) : (s.setSlots x).started = s.started := rfl
@[simp] theorem setSlots_time (s : State) (x : Vector Slot 32) : (s.setSlots x).time = s.time := rfl
@[simp] theorem setSlots_clock (s : State) (x : Vector Slot 32) : (s.setSlots x).clock = s.clock := rfl
@[simp] theorem setSlots_lastAdvance (s : State) (x : Vector Slot 32) : (s.setSlots x).lastAdvance = s.lastAdvance := rfl
@[simp] theorem setSlots_enclosure (s : State) (x : Vector Slot 32) : (s.setSlots x).enclosure = s.enclosure := rfl
@[simp] theorem setSlots_notice (s : State) (x : Vector Slot 32) : (s.setSlots x).notice = s.notice := rfl
@[simp] theorem setSlots_link (s : State) (x : Vector Slot 32) : (s.setSlots x).link = s.link := rfl
@[simp] theorem setSlots_report (s : State) (x : Vector Slot 32) : (s.setSlots x).report = s.report := rfl
@[simp] theorem setSlots_window (s : State) (x : Vector Slot 32) : (s.setSlots x).window = s.window := rfl
@[simp] theorem setSlots_profiles (s : State) (x : Vector Slot 32) : (s.setSlots x).profiles = s.profiles := rfl
@[simp] theorem setSlots_cipher (s : State) (x : Vector Slot 32) : (s.setSlots x).cipher = s.cipher := rfl
@[simp] theorem setSlots_portA (s : State) (x : Vector Slot 32) : (s.setSlots x).portA = s.portA := rfl
@[simp] theorem setSlots_portB (s : State) (x : Vector Slot 32) : (s.setSlots x).portB = s.portB := rfl
@[simp] theorem setSlots_bays (s : State) (x : Vector Slot 32) : (s.setSlots x).bays = s.bays := rfl

@[simp] theorem setSlots_slots (s : State) (x : Vector Slot 32) : (s.setSlots x).keys.slots = x := rfl
@[simp] theorem setSlots_progress (s : State) (x : Vector Slot 32) : (s.setSlots x).keys.progress = s.keys.progress := rfl
@[simp] theorem setSlots_checks_profiles (s : State) (x : Vector Slot 32) : (s.setSlots x).checks.profiles = s.checks.profiles := rfl

@[simp] theorem setEntries_pending (s : State) (x : Vector Entry 24) : (s.setEntries x).pending = s.pending := rfl
@[simp] theorem setEntries_powered (s : State) (x : Vector Entry 24) : (s.setEntries x).powered = s.powered := rfl
@[simp] theorem setEntries_started (s : State) (x : Vector Entry 24) : (s.setEntries x).started = s.started := rfl
@[simp] theorem setEntries_time (s : State) (x : Vector Entry 24) : (s.setEntries x).time = s.time := rfl
@[simp] theorem setEntries_clock (s : State) (x : Vector Entry 24) : (s.setEntries x).clock = s.clock := rfl
@[simp] theorem setEntries_lastAdvance (s : State) (x : Vector Entry 24) : (s.setEntries x).lastAdvance = s.lastAdvance := rfl
@[simp] theorem setEntries_enclosure (s : State) (x : Vector Entry 24) : (s.setEntries x).enclosure = s.enclosure := rfl
@[simp] theorem setEntries_notice (s : State) (x : Vector Entry 24) : (s.setEntries x).notice = s.notice := rfl
@[simp] theorem setEntries_link (s : State) (x : Vector Entry 24) : (s.setEntries x).link = s.link := rfl
@[simp] theorem setEntries_report (s : State) (x : Vector Entry 24) : (s.setEntries x).report = s.report := rfl
@[simp] theorem setEntries_window (s : State) (x : Vector Entry 24) : (s.setEntries x).window = s.window := rfl
@[simp] theorem setEntries_keys (s : State) (x : Vector Entry 24) : (s.setEntries x).keys = s.keys := rfl
@[simp] theorem setEntries_cipher (s : State) (x : Vector Entry 24) : (s.setEntries x).cipher = s.cipher := rfl
@[simp] theorem setEntries_portA (s : State) (x : Vector Entry 24) : (s.setEntries x).portA = s.portA := rfl
@[simp] theorem setEntries_portB (s : State) (x : Vector Entry 24) : (s.setEntries x).portB = s.portB := rfl
@[simp] theorem setEntries_bays (s : State) (x : Vector Entry 24) : (s.setEntries x).bays = s.bays := rfl

@[simp] theorem setEntries_profiles (s : State) (x : Vector Entry 24) : (s.setEntries x).profiles = x := rfl

@[simp] theorem setRecords_pending (s : State) (x : List Record) : (s.setRecords x).pending = s.pending := rfl
@[simp] theorem setRecords_powered (s : State) (x : List Record) : (s.setRecords x).powered = s.powered := rfl
@[simp] theorem setRecords_started (s : State) (x : List Record) : (s.setRecords x).started = s.started := rfl
@[simp] theorem setRecords_time (s : State) (x : List Record) : (s.setRecords x).time = s.time := rfl
@[simp] theorem setRecords_clock (s : State) (x : List Record) : (s.setRecords x).clock = s.clock := rfl
@[simp] theorem setRecords_lastAdvance (s : State) (x : List Record) : (s.setRecords x).lastAdvance = s.lastAdvance := rfl
@[simp] theorem setRecords_enclosure (s : State) (x : List Record) : (s.setRecords x).enclosure = s.enclosure := rfl
@[simp] theorem setRecords_notice (s : State) (x : List Record) : (s.setRecords x).notice = s.notice := rfl
@[simp] theorem setRecords_link (s : State) (x : List Record) : (s.setRecords x).link = s.link := rfl
@[simp] theorem setRecords_window (s : State) (x : List Record) : (s.setRecords x).window = s.window := rfl
@[simp] theorem setRecords_profiles (s : State) (x : List Record) : (s.setRecords x).profiles = s.profiles := rfl
@[simp] theorem setRecords_keys (s : State) (x : List Record) : (s.setRecords x).keys = s.keys := rfl
@[simp] theorem setRecords_cipher (s : State) (x : List Record) : (s.setRecords x).cipher = s.cipher := rfl
@[simp] theorem setRecords_portA (s : State) (x : List Record) : (s.setRecords x).portA = s.portA := rfl
@[simp] theorem setRecords_portB (s : State) (x : List Record) : (s.setRecords x).portB = s.portB := rfl
@[simp] theorem setRecords_bays (s : State) (x : List Record) : (s.setRecords x).bays = s.bays := rfl

@[simp] theorem setRecords_records (s : State) (x : List Record) : (s.setRecords x).report.records = x := rfl
@[simp] theorem setRecords_recordCounter (s : State) (x : List Record) : (s.setRecords x).report.recordCounter = s.report.recordCounter := rfl
@[simp] theorem setRecords_batchCounter (s : State) (x : List Record) : (s.setRecords x).report.batchCounter = s.report.batchCounter := rfl
@[simp] theorem setRecords_waiting (s : State) (x : List Record) : (s.setRecords x).report.waiting = s.report.waiting := rfl
@[simp] theorem setRecords_checks_profiles (s : State) (x : List Record) : (s.setRecords x).checks.profiles = s.checks.profiles := rfl

@[simp] theorem setCounters_pending (s : State) (x : Counters) : (s.setCounters x).pending = s.pending := rfl
@[simp] theorem setCounters_powered (s : State) (x : Counters) : (s.setCounters x).powered = s.powered := rfl
@[simp] theorem setCounters_started (s : State) (x : Counters) : (s.setCounters x).started = s.started := rfl
@[simp] theorem setCounters_time (s : State) (x : Counters) : (s.setCounters x).time = s.time := rfl
@[simp] theorem setCounters_clock (s : State) (x : Counters) : (s.setCounters x).clock = s.clock := rfl
@[simp] theorem setCounters_lastAdvance (s : State) (x : Counters) : (s.setCounters x).lastAdvance = s.lastAdvance := rfl
@[simp] theorem setCounters_enclosure (s : State) (x : Counters) : (s.setCounters x).enclosure = s.enclosure := rfl
@[simp] theorem setCounters_notice (s : State) (x : Counters) : (s.setCounters x).notice = s.notice := rfl
@[simp] theorem setCounters_link (s : State) (x : Counters) : (s.setCounters x).link = s.link := rfl
@[simp] theorem setCounters_window (s : State) (x : Counters) : (s.setCounters x).window = s.window := rfl
@[simp] theorem setCounters_profiles (s : State) (x : Counters) : (s.setCounters x).profiles = s.profiles := rfl
@[simp] theorem setCounters_keys (s : State) (x : Counters) : (s.setCounters x).keys = s.keys := rfl
@[simp] theorem setCounters_cipher (s : State) (x : Counters) : (s.setCounters x).cipher = s.cipher := rfl
@[simp] theorem setCounters_portA (s : State) (x : Counters) : (s.setCounters x).portA = s.portA := rfl
@[simp] theorem setCounters_portB (s : State) (x : Counters) : (s.setCounters x).portB = s.portB := rfl
@[simp] theorem setCounters_bays (s : State) (x : Counters) : (s.setCounters x).bays = s.bays := rfl

@[simp] theorem setCounters_records (s : State) (x : Counters) : (s.setCounters x).report.records = s.report.records := rfl
@[simp] theorem setCounters_waiting (s : State) (x : Counters) : (s.setCounters x).report.waiting = s.report.waiting := rfl
@[simp] theorem setCounters_recordCounter (s : State) (x : Counters) : (s.setCounters x).report.recordCounter = x.record := rfl
@[simp] theorem setCounters_batchCounter (s : State) (x : Counters) : (s.setCounters x).report.batchCounter = x.batch := rfl
@[simp] theorem setCounters_checks_profiles (s : State) (x : Counters) : (s.setCounters x).checks.profiles = s.checks.profiles := rfl

@[simp] theorem setSlot_pending (s : State) (k : SlotId) (x : Slot) : (s.setSlot k x).pending = s.pending := rfl
@[simp] theorem setSlot_powered (s : State) (k : SlotId) (x : Slot) : (s.setSlot k x).powered = s.powered := rfl
@[simp] theorem setSlot_started (s : State) (k : SlotId) (x : Slot) : (s.setSlot k x).started = s.started := rfl
@[simp] theorem setSlot_time (s : State) (k : SlotId) (x : Slot) : (s.setSlot k x).time = s.time := rfl
@[simp] theorem setSlot_clock (s : State) (k : SlotId) (x : Slot) : (s.setSlot k x).clock = s.clock := rfl
@[simp] theorem setSlot_lastAdvance (s : State) (k : SlotId) (x : Slot) : (s.setSlot k x).lastAdvance = s.lastAdvance := rfl
@[simp] theorem setSlot_enclosure (s : State) (k : SlotId) (x : Slot) : (s.setSlot k x).enclosure = s.enclosure := rfl
@[simp] theorem setSlot_checks_profiles (s : State) (k : SlotId) (x : Slot) : (s.setSlot k x).checks.profiles = s.checks.profiles := rfl
@[simp] theorem setSlot_notice (s : State) (k : SlotId) (x : Slot) : (s.setSlot k x).notice = s.notice := rfl
@[simp] theorem setSlot_link (s : State) (k : SlotId) (x : Slot) : (s.setSlot k x).link = s.link := rfl
@[simp] theorem setSlot_report (s : State) (k : SlotId) (x : Slot) : (s.setSlot k x).report = s.report := rfl
@[simp] theorem setSlot_window (s : State) (k : SlotId) (x : Slot) : (s.setSlot k x).window = s.window := rfl
@[simp] theorem setSlot_profiles (s : State) (k : SlotId) (x : Slot) : (s.setSlot k x).profiles = s.profiles := rfl
@[simp] theorem setSlot_cipher (s : State) (k : SlotId) (x : Slot) : (s.setSlot k x).cipher = s.cipher := rfl
@[simp] theorem setSlot_portA (s : State) (k : SlotId) (x : Slot) : (s.setSlot k x).portA = s.portA := rfl
@[simp] theorem setSlot_portB (s : State) (k : SlotId) (x : Slot) : (s.setSlot k x).portB = s.portB := rfl
@[simp] theorem setSlot_bays (s : State) (k : SlotId) (x : Slot) : (s.setSlot k x).bays = s.bays := rfl

@[simp] theorem setEntry_pending (s : State) (e : EntryId) (x : Entry) : (s.setEntry e x).pending = s.pending := rfl
@[simp] theorem setEntry_powered (s : State) (e : EntryId) (x : Entry) : (s.setEntry e x).powered = s.powered := rfl
@[simp] theorem setEntry_started (s : State) (e : EntryId) (x : Entry) : (s.setEntry e x).started = s.started := rfl
@[simp] theorem setEntry_time (s : State) (e : EntryId) (x : Entry) : (s.setEntry e x).time = s.time := rfl
@[simp] theorem setEntry_clock (s : State) (e : EntryId) (x : Entry) : (s.setEntry e x).clock = s.clock := rfl
@[simp] theorem setEntry_lastAdvance (s : State) (e : EntryId) (x : Entry) : (s.setEntry e x).lastAdvance = s.lastAdvance := rfl
@[simp] theorem setEntry_enclosure (s : State) (e : EntryId) (x : Entry) : (s.setEntry e x).enclosure = s.enclosure := rfl
@[simp] theorem setEntry_notice (s : State) (e : EntryId) (x : Entry) : (s.setEntry e x).notice = s.notice := rfl
@[simp] theorem setEntry_link (s : State) (e : EntryId) (x : Entry) : (s.setEntry e x).link = s.link := rfl
@[simp] theorem setEntry_report (s : State) (e : EntryId) (x : Entry) : (s.setEntry e x).report = s.report := rfl
@[simp] theorem setEntry_window (s : State) (e : EntryId) (x : Entry) : (s.setEntry e x).window = s.window := rfl
@[simp] theorem setEntry_keys (s : State) (e : EntryId) (x : Entry) : (s.setEntry e x).keys = s.keys := rfl
@[simp] theorem setEntry_cipher (s : State) (e : EntryId) (x : Entry) : (s.setEntry e x).cipher = s.cipher := rfl
@[simp] theorem setEntry_portA (s : State) (e : EntryId) (x : Entry) : (s.setEntry e x).portA = s.portA := rfl
@[simp] theorem setEntry_portB (s : State) (e : EntryId) (x : Entry) : (s.setEntry e x).portB = s.portB := rfl
@[simp] theorem setEntry_bays (s : State) (e : EntryId) (x : Entry) : (s.setEntry e x).bays = s.bays := rfl

@[simp] theorem raise_pending (s : State) (f : Flag) : (s.raise f).pending = s.pending := rfl
@[simp] theorem raise_powered (s : State) (f : Flag) : (s.raise f).powered = s.powered := rfl
@[simp] theorem raise_started (s : State) (f : Flag) : (s.raise f).started = s.started := rfl
@[simp] theorem raise_time (s : State) (f : Flag) : (s.raise f).time = s.time := rfl
@[simp] theorem raise_clock (s : State) (f : Flag) : (s.raise f).clock = s.clock := rfl
@[simp] theorem raise_lastAdvance (s : State) (f : Flag) : (s.raise f).lastAdvance = s.lastAdvance := rfl
@[simp] theorem raise_enclosure (s : State) (f : Flag) : (s.raise f).enclosure = s.enclosure := rfl
@[simp] theorem raise_checks (s : State) (f : Flag) : (s.raise f).checks = s.checks := rfl
@[simp] theorem raise_report (s : State) (f : Flag) : (s.raise f).report = s.report := rfl
@[simp] theorem raise_window (s : State) (f : Flag) : (s.raise f).window = s.window := rfl
@[simp] theorem raise_profiles (s : State) (f : Flag) : (s.raise f).profiles = s.profiles := rfl
@[simp] theorem raise_keys (s : State) (f : Flag) : (s.raise f).keys = s.keys := rfl
@[simp] theorem raise_cipher (s : State) (f : Flag) : (s.raise f).cipher = s.cipher := rfl
@[simp] theorem raise_portA (s : State) (f : Flag) : (s.raise f).portA = s.portA := rfl
@[simp] theorem raise_portB (s : State) (f : Flag) : (s.raise f).portB = s.portB := rfl
@[simp] theorem raise_bays (s : State) (f : Flag) : (s.raise f).bays = s.bays := rfl

@[simp] theorem appendRecord_pending (s : State) (r : RecordBody) : (s.appendRecord r).pending = s.pending := rfl
@[simp] theorem appendRecord_powered (s : State) (r : RecordBody) : (s.appendRecord r).powered = s.powered := rfl
@[simp] theorem appendRecord_started (s : State) (r : RecordBody) : (s.appendRecord r).started = s.started := rfl
@[simp] theorem appendRecord_time (s : State) (r : RecordBody) : (s.appendRecord r).time = s.time := rfl
@[simp] theorem appendRecord_clock (s : State) (r : RecordBody) : (s.appendRecord r).clock = s.clock := rfl
@[simp] theorem appendRecord_lastAdvance (s : State) (r : RecordBody) : (s.appendRecord r).lastAdvance = s.lastAdvance := rfl
@[simp] theorem appendRecord_enclosure (s : State) (r : RecordBody) : (s.appendRecord r).enclosure = s.enclosure := rfl
@[simp] theorem appendRecord_checks_profiles (s : State) (r : RecordBody) : (s.appendRecord r).checks.profiles = s.checks.profiles := rfl
@[simp] theorem appendRecord_window (s : State) (r : RecordBody) : (s.appendRecord r).window = s.window := rfl
@[simp] theorem appendRecord_profiles (s : State) (r : RecordBody) : (s.appendRecord r).profiles = s.profiles := rfl
@[simp] theorem appendRecord_keys (s : State) (r : RecordBody) : (s.appendRecord r).keys = s.keys := rfl
@[simp] theorem appendRecord_cipher (s : State) (r : RecordBody) : (s.appendRecord r).cipher = s.cipher := rfl
@[simp] theorem appendRecord_portA (s : State) (r : RecordBody) : (s.appendRecord r).portA = s.portA := rfl
@[simp] theorem appendRecord_portB (s : State) (r : RecordBody) : (s.appendRecord r).portB = s.portB := rfl
@[simp] theorem appendRecord_bays (s : State) (r : RecordBody) : (s.appendRecord r).bays = s.bays := rfl

@[simp] theorem markAppended_pending (s : State) (b : BayId) (a : Addr) : (s.markAppended b a).pending = s.pending := rfl
@[simp] theorem markAppended_powered (s : State) (b : BayId) (a : Addr) : (s.markAppended b a).powered = s.powered := rfl
@[simp] theorem markAppended_started (s : State) (b : BayId) (a : Addr) : (s.markAppended b a).started = s.started := rfl
@[simp] theorem markAppended_time (s : State) (b : BayId) (a : Addr) : (s.markAppended b a).time = s.time := rfl
@[simp] theorem markAppended_clock (s : State) (b : BayId) (a : Addr) : (s.markAppended b a).clock = s.clock := rfl
@[simp] theorem markAppended_lastAdvance (s : State) (b : BayId) (a : Addr) : (s.markAppended b a).lastAdvance = s.lastAdvance := rfl
@[simp] theorem markAppended_enclosure (s : State) (b : BayId) (a : Addr) : (s.markAppended b a).enclosure = s.enclosure := rfl
@[simp] theorem markAppended_checks (s : State) (b : BayId) (a : Addr) : (s.markAppended b a).checks = s.checks := rfl
@[simp] theorem markAppended_notice (s : State) (b : BayId) (a : Addr) : (s.markAppended b a).notice = s.notice := rfl
@[simp] theorem markAppended_link (s : State) (b : BayId) (a : Addr) : (s.markAppended b a).link = s.link := rfl
@[simp] theorem markAppended_report (s : State) (b : BayId) (a : Addr) : (s.markAppended b a).report = s.report := rfl
@[simp] theorem markAppended_window (s : State) (b : BayId) (a : Addr) : (s.markAppended b a).window = s.window := rfl
@[simp] theorem markAppended_profiles (s : State) (b : BayId) (a : Addr) : (s.markAppended b a).profiles = s.profiles := rfl
@[simp] theorem markAppended_keys (s : State) (b : BayId) (a : Addr) : (s.markAppended b a).keys = s.keys := rfl
@[simp] theorem markAppended_cipher (s : State) (b : BayId) (a : Addr) : (s.markAppended b a).cipher = s.cipher := rfl
@[simp] theorem markAppended_portA (s : State) (b : BayId) (a : Addr) : (s.markAppended b a).portA = s.portA := rfl
@[simp] theorem markAppended_portB (s : State) (b : BayId) (a : Addr) : (s.markAppended b a).portB = s.portB := rfl

@[simp] theorem withdrawAppends_pending (s : State) (b : BayId) : (s.withdrawAppends b).pending = s.pending := rfl
@[simp] theorem withdrawAppends_powered (s : State) (b : BayId) : (s.withdrawAppends b).powered = s.powered := rfl
@[simp] theorem withdrawAppends_started (s : State) (b : BayId) : (s.withdrawAppends b).started = s.started := rfl
@[simp] theorem withdrawAppends_time (s : State) (b : BayId) : (s.withdrawAppends b).time = s.time := rfl
@[simp] theorem withdrawAppends_clock (s : State) (b : BayId) : (s.withdrawAppends b).clock = s.clock := rfl
@[simp] theorem withdrawAppends_lastAdvance (s : State) (b : BayId) : (s.withdrawAppends b).lastAdvance = s.lastAdvance := rfl
@[simp] theorem withdrawAppends_enclosure (s : State) (b : BayId) : (s.withdrawAppends b).enclosure = s.enclosure := rfl
@[simp] theorem withdrawAppends_checks (s : State) (b : BayId) : (s.withdrawAppends b).checks = s.checks := rfl
@[simp] theorem withdrawAppends_notice (s : State) (b : BayId) : (s.withdrawAppends b).notice = s.notice := rfl
@[simp] theorem withdrawAppends_link (s : State) (b : BayId) : (s.withdrawAppends b).link = s.link := rfl
@[simp] theorem withdrawAppends_window (s : State) (b : BayId) : (s.withdrawAppends b).window = s.window := rfl
@[simp] theorem withdrawAppends_profiles (s : State) (b : BayId) : (s.withdrawAppends b).profiles = s.profiles := rfl
@[simp] theorem withdrawAppends_keys (s : State) (b : BayId) : (s.withdrawAppends b).keys = s.keys := rfl
@[simp] theorem withdrawAppends_cipher (s : State) (b : BayId) : (s.withdrawAppends b).cipher = s.cipher := rfl
@[simp] theorem withdrawAppends_portA (s : State) (b : BayId) : (s.withdrawAppends b).portA = s.portA := rfl
@[simp] theorem withdrawAppends_portB (s : State) (b : BayId) : (s.withdrawAppends b).portB = s.portB := rfl
@[simp] theorem withdrawAppends_bays (s : State) (b : BayId) : (s.withdrawAppends b).bays = s.bays := rfl

@[simp] theorem setAssembler_pending (s : State) (a : Assembler) : (s.setAssembler a).pending = s.pending := rfl
@[simp] theorem setAssembler_powered (s : State) (a : Assembler) : (s.setAssembler a).powered = s.powered := rfl
@[simp] theorem setAssembler_started (s : State) (a : Assembler) : (s.setAssembler a).started = s.started := rfl
@[simp] theorem setAssembler_time (s : State) (a : Assembler) : (s.setAssembler a).time = s.time := rfl
@[simp] theorem setAssembler_clock (s : State) (a : Assembler) : (s.setAssembler a).clock = s.clock := rfl
@[simp] theorem setAssembler_lastAdvance (s : State) (a : Assembler) : (s.setAssembler a).lastAdvance = s.lastAdvance := rfl
@[simp] theorem setAssembler_enclosure (s : State) (a : Assembler) : (s.setAssembler a).enclosure = s.enclosure := rfl
@[simp] theorem setAssembler_checks (s : State) (a : Assembler) : (s.setAssembler a).checks = s.checks := rfl
@[simp] theorem setAssembler_notice (s : State) (a : Assembler) : (s.setAssembler a).notice = s.notice := rfl
@[simp] theorem setAssembler_report (s : State) (a : Assembler) : (s.setAssembler a).report = s.report := rfl
@[simp] theorem setAssembler_window (s : State) (a : Assembler) : (s.setAssembler a).window = s.window := rfl
@[simp] theorem setAssembler_profiles (s : State) (a : Assembler) : (s.setAssembler a).profiles = s.profiles := rfl
@[simp] theorem setAssembler_keys (s : State) (a : Assembler) : (s.setAssembler a).keys = s.keys := rfl
@[simp] theorem setAssembler_cipher (s : State) (a : Assembler) : (s.setAssembler a).cipher = s.cipher := rfl
@[simp] theorem setAssembler_portA (s : State) (a : Assembler) : (s.setAssembler a).portA = s.portA := rfl
@[simp] theorem setAssembler_portB (s : State) (a : Assembler) : (s.setAssembler a).portB = s.portB := rfl
@[simp] theorem setAssembler_bays (s : State) (a : Assembler) : (s.setAssembler a).bays = s.bays := rfl

@[simp] theorem freeEngine_pending (s : State) : (s.freeEngine).pending = s.pending := rfl
@[simp] theorem freeEngine_powered (s : State) : (s.freeEngine).powered = s.powered := rfl
@[simp] theorem freeEngine_started (s : State) : (s.freeEngine).started = s.started := rfl
@[simp] theorem freeEngine_time (s : State) : (s.freeEngine).time = s.time := rfl
@[simp] theorem freeEngine_clock (s : State) : (s.freeEngine).clock = s.clock := rfl
@[simp] theorem freeEngine_lastAdvance (s : State) : (s.freeEngine).lastAdvance = s.lastAdvance := rfl
@[simp] theorem freeEngine_enclosure (s : State) : (s.freeEngine).enclosure = s.enclosure := rfl
@[simp] theorem freeEngine_checks (s : State) : (s.freeEngine).checks = s.checks := rfl
@[simp] theorem freeEngine_notice (s : State) : (s.freeEngine).notice = s.notice := rfl
@[simp] theorem freeEngine_link (s : State) : (s.freeEngine).link = s.link := rfl
@[simp] theorem freeEngine_report (s : State) : (s.freeEngine).report = s.report := rfl
@[simp] theorem freeEngine_window (s : State) : (s.freeEngine).window = s.window := rfl
@[simp] theorem freeEngine_profiles (s : State) : (s.freeEngine).profiles = s.profiles := rfl
@[simp] theorem freeEngine_keys (s : State) : (s.freeEngine).keys = s.keys := rfl
@[simp] theorem freeEngine_portA (s : State) : (s.freeEngine).portA = s.portA := rfl
@[simp] theorem freeEngine_portB (s : State) : (s.freeEngine).portB = s.portB := rfl
@[simp] theorem freeEngine_bays (s : State) : (s.freeEngine).bays = s.bays := rfl

@[simp] theorem startNotice_pending (s : State) (t : Bool) : (s.startNotice t).pending = s.pending := rfl
@[simp] theorem startNotice_powered (s : State) (t : Bool) : (s.startNotice t).powered = s.powered := rfl
@[simp] theorem startNotice_started (s : State) (t : Bool) : (s.startNotice t).started = s.started := rfl
@[simp] theorem startNotice_time (s : State) (t : Bool) : (s.startNotice t).time = s.time := rfl
@[simp] theorem startNotice_clock (s : State) (t : Bool) : (s.startNotice t).clock = s.clock := rfl
@[simp] theorem startNotice_lastAdvance (s : State) (t : Bool) : (s.startNotice t).lastAdvance = s.lastAdvance := rfl
@[simp] theorem startNotice_enclosure (s : State) (t : Bool) : (s.startNotice t).enclosure = s.enclosure := rfl
@[simp] theorem startNotice_checks (s : State) (t : Bool) : (s.startNotice t).checks = s.checks := rfl
@[simp] theorem startNotice_report (s : State) (t : Bool) : (s.startNotice t).report = s.report := rfl
@[simp] theorem startNotice_window (s : State) (t : Bool) : (s.startNotice t).window = s.window := rfl
@[simp] theorem startNotice_profiles (s : State) (t : Bool) : (s.startNotice t).profiles = s.profiles := rfl
@[simp] theorem startNotice_keys (s : State) (t : Bool) : (s.startNotice t).keys = s.keys := rfl
@[simp] theorem startNotice_cipher (s : State) (t : Bool) : (s.startNotice t).cipher = s.cipher := rfl
@[simp] theorem startNotice_portA (s : State) (t : Bool) : (s.startNotice t).portA = s.portA := rfl
@[simp] theorem startNotice_portB (s : State) (t : Bool) : (s.startNotice t).portB = s.portB := rfl
@[simp] theorem startNotice_bays (s : State) (t : Bool) : (s.startNotice t).bays = s.bays := rfl

@[simp] theorem countUse_pending (s : State) (k : Option SlotId) : (s.countUse k).pending = s.pending := by cases k <;> rfl
@[simp] theorem countUse_powered (s : State) (k : Option SlotId) : (s.countUse k).powered = s.powered := by cases k <;> rfl
@[simp] theorem countUse_started (s : State) (k : Option SlotId) : (s.countUse k).started = s.started := by cases k <;> rfl
@[simp] theorem countUse_time (s : State) (k : Option SlotId) : (s.countUse k).time = s.time := by cases k <;> rfl
@[simp] theorem countUse_clock (s : State) (k : Option SlotId) : (s.countUse k).clock = s.clock := by cases k <;> rfl
@[simp] theorem countUse_lastAdvance (s : State) (k : Option SlotId) : (s.countUse k).lastAdvance = s.lastAdvance := by cases k <;> rfl
@[simp] theorem countUse_enclosure (s : State) (k : Option SlotId) : (s.countUse k).enclosure = s.enclosure := by cases k <;> rfl
@[simp] theorem countUse_checks_profiles (s : State) (k : Option SlotId) : (s.countUse k).checks.profiles = s.checks.profiles := by cases k <;> rfl
@[simp] theorem countUse_notice (s : State) (k : Option SlotId) : (s.countUse k).notice = s.notice := by cases k <;> rfl
@[simp] theorem countUse_link (s : State) (k : Option SlotId) : (s.countUse k).link = s.link := by cases k <;> rfl
@[simp] theorem countUse_report (s : State) (k : Option SlotId) : (s.countUse k).report = s.report := by cases k <;> rfl
@[simp] theorem countUse_window (s : State) (k : Option SlotId) : (s.countUse k).window = s.window := by cases k <;> rfl
@[simp] theorem countUse_profiles (s : State) (k : Option SlotId) : (s.countUse k).profiles = s.profiles := by cases k <;> rfl
@[simp] theorem countUse_cipher (s : State) (k : Option SlotId) : (s.countUse k).cipher = s.cipher := by cases k <;> rfl
@[simp] theorem countUse_portA (s : State) (k : Option SlotId) : (s.countUse k).portA = s.portA := by cases k <;> rfl
@[simp] theorem countUse_portB (s : State) (k : Option SlotId) : (s.countUse k).portB = s.portB := by cases k <;> rfl
@[simp] theorem countUse_bays (s : State) (k : Option SlotId) : (s.countUse k).bays = s.bays := by cases k <;> rfl

@[simp] theorem answer_pending (s : State) (code : ResultCode) (c : List Byte) : (s.answer code c).pending = s.pending := by unfold State.answer; split <;> rfl
@[simp] theorem answer_powered (s : State) (code : ResultCode) (c : List Byte) : (s.answer code c).powered = s.powered := by unfold State.answer; split <;> rfl
@[simp] theorem answer_started (s : State) (code : ResultCode) (c : List Byte) : (s.answer code c).started = s.started := by unfold State.answer; split <;> rfl
@[simp] theorem answer_time (s : State) (code : ResultCode) (c : List Byte) : (s.answer code c).time = s.time := by unfold State.answer; split <;> rfl
@[simp] theorem answer_clock (s : State) (code : ResultCode) (c : List Byte) : (s.answer code c).clock = s.clock := by unfold State.answer; split <;> rfl
@[simp] theorem answer_lastAdvance (s : State) (code : ResultCode) (c : List Byte) : (s.answer code c).lastAdvance = s.lastAdvance := by unfold State.answer; split <;> rfl
@[simp] theorem answer_enclosure (s : State) (code : ResultCode) (c : List Byte) : (s.answer code c).enclosure = s.enclosure := by unfold State.answer; split <;> rfl
@[simp] theorem answer_checks (s : State) (code : ResultCode) (c : List Byte) : (s.answer code c).checks = s.checks := by unfold State.answer; split <;> rfl
@[simp] theorem answer_notice (s : State) (code : ResultCode) (c : List Byte) : (s.answer code c).notice = s.notice := by unfold State.answer; split <;> rfl
@[simp] theorem answer_report (s : State) (code : ResultCode) (c : List Byte) : (s.answer code c).report = s.report := by unfold State.answer; split <;> rfl
@[simp] theorem answer_window (s : State) (code : ResultCode) (c : List Byte) : (s.answer code c).window = s.window := by unfold State.answer; split <;> rfl
@[simp] theorem answer_profiles (s : State) (code : ResultCode) (c : List Byte) : (s.answer code c).profiles = s.profiles := by unfold State.answer; split <;> rfl
@[simp] theorem answer_keys (s : State) (code : ResultCode) (c : List Byte) : (s.answer code c).keys = s.keys := by unfold State.answer; split <;> rfl
@[simp] theorem answer_cipher (s : State) (code : ResultCode) (c : List Byte) : (s.answer code c).cipher = s.cipher := by unfold State.answer; split <;> rfl
@[simp] theorem answer_portA (s : State) (code : ResultCode) (c : List Byte) : (s.answer code c).portA = s.portA := by unfold State.answer; split <;> rfl
@[simp] theorem answer_portB (s : State) (code : ResultCode) (c : List Byte) : (s.answer code c).portB = s.portB := by unfold State.answer; split <;> rfl
@[simp] theorem answer_bays (s : State) (code : ResultCode) (c : List Byte) : (s.answer code c).bays = s.bays := by unfold State.answer; split <;> rfl

@[simp] theorem beginFrame_pending (s : State) : (s.beginFrame).pending = s.pending := by unfold State.beginFrame; split <;> [rfl; (split <;> [rfl; (split <;> rfl)])]
@[simp] theorem beginFrame_powered (s : State) : (s.beginFrame).powered = s.powered := by unfold State.beginFrame; split <;> [rfl; (split <;> [rfl; (split <;> rfl)])]
@[simp] theorem beginFrame_started (s : State) : (s.beginFrame).started = s.started := by unfold State.beginFrame; split <;> [rfl; (split <;> [rfl; (split <;> rfl)])]
@[simp] theorem beginFrame_time (s : State) : (s.beginFrame).time = s.time := by unfold State.beginFrame; split <;> [rfl; (split <;> [rfl; (split <;> rfl)])]
@[simp] theorem beginFrame_clock (s : State) : (s.beginFrame).clock = s.clock := by unfold State.beginFrame; split <;> [rfl; (split <;> [rfl; (split <;> rfl)])]
@[simp] theorem beginFrame_lastAdvance (s : State) : (s.beginFrame).lastAdvance = s.lastAdvance := by unfold State.beginFrame; split <;> [rfl; (split <;> [rfl; (split <;> rfl)])]
@[simp] theorem beginFrame_enclosure (s : State) : (s.beginFrame).enclosure = s.enclosure := by unfold State.beginFrame; split <;> [rfl; (split <;> [rfl; (split <;> rfl)])]
@[simp] theorem beginFrame_checks (s : State) : (s.beginFrame).checks = s.checks := by unfold State.beginFrame; split <;> [rfl; (split <;> [rfl; (split <;> rfl)])]
@[simp] theorem beginFrame_notice (s : State) : (s.beginFrame).notice = s.notice := by unfold State.beginFrame; split <;> [rfl; (split <;> [rfl; (split <;> rfl)])]
@[simp] theorem beginFrame_report (s : State) : (s.beginFrame).report = s.report := by unfold State.beginFrame; split <;> [rfl; (split <;> [rfl; (split <;> rfl)])]
@[simp] theorem beginFrame_window (s : State) : (s.beginFrame).window = s.window := by unfold State.beginFrame; split <;> [rfl; (split <;> [rfl; (split <;> rfl)])]
@[simp] theorem beginFrame_profiles (s : State) : (s.beginFrame).profiles = s.profiles := by unfold State.beginFrame; split <;> [rfl; (split <;> [rfl; (split <;> rfl)])]
@[simp] theorem beginFrame_keys (s : State) : (s.beginFrame).keys = s.keys := by unfold State.beginFrame; split <;> [rfl; (split <;> [rfl; (split <;> rfl)])]
@[simp] theorem beginFrame_cipher (s : State) : (s.beginFrame).cipher = s.cipher := by unfold State.beginFrame; split <;> [rfl; (split <;> [rfl; (split <;> rfl)])]
@[simp] theorem beginFrame_portA (s : State) : (s.beginFrame).portA = s.portA := by unfold State.beginFrame; split <;> [rfl; (split <;> [rfl; (split <;> rfl)])]
@[simp] theorem beginFrame_portB (s : State) : (s.beginFrame).portB = s.portB := by unfold State.beginFrame; split <;> [rfl; (split <;> [rfl; (split <;> rfl)])]
@[simp] theorem beginFrame_bays (s : State) : (s.beginFrame).bays = s.bays := by unfold State.beginFrame; split <;> [rfl; (split <;> [rfl; (split <;> rfl)])]

@[simp] theorem placeReject_pending (s : State) (t : Byte) (code : ResultCode) : (s.placeReject t code).pending = s.pending := by unfold State.placeReject; split <;> rfl
@[simp] theorem placeReject_powered (s : State) (t : Byte) (code : ResultCode) : (s.placeReject t code).powered = s.powered := by unfold State.placeReject; split <;> rfl
@[simp] theorem placeReject_started (s : State) (t : Byte) (code : ResultCode) : (s.placeReject t code).started = s.started := by unfold State.placeReject; split <;> rfl
@[simp] theorem placeReject_time (s : State) (t : Byte) (code : ResultCode) : (s.placeReject t code).time = s.time := by unfold State.placeReject; split <;> rfl
@[simp] theorem placeReject_clock (s : State) (t : Byte) (code : ResultCode) : (s.placeReject t code).clock = s.clock := by unfold State.placeReject; split <;> rfl
@[simp] theorem placeReject_lastAdvance (s : State) (t : Byte) (code : ResultCode) : (s.placeReject t code).lastAdvance = s.lastAdvance := by unfold State.placeReject; split <;> rfl
@[simp] theorem placeReject_enclosure (s : State) (t : Byte) (code : ResultCode) : (s.placeReject t code).enclosure = s.enclosure := by unfold State.placeReject; split <;> rfl
@[simp] theorem placeReject_checks (s : State) (t : Byte) (code : ResultCode) : (s.placeReject t code).checks = s.checks := by unfold State.placeReject; split <;> rfl
@[simp] theorem placeReject_notice (s : State) (t : Byte) (code : ResultCode) : (s.placeReject t code).notice = s.notice := by unfold State.placeReject; split <;> rfl
@[simp] theorem placeReject_report (s : State) (t : Byte) (code : ResultCode) : (s.placeReject t code).report = s.report := by unfold State.placeReject; split <;> rfl
@[simp] theorem placeReject_window (s : State) (t : Byte) (code : ResultCode) : (s.placeReject t code).window = s.window := by unfold State.placeReject; split <;> rfl
@[simp] theorem placeReject_profiles (s : State) (t : Byte) (code : ResultCode) : (s.placeReject t code).profiles = s.profiles := by unfold State.placeReject; split <;> rfl
@[simp] theorem placeReject_keys (s : State) (t : Byte) (code : ResultCode) : (s.placeReject t code).keys = s.keys := by unfold State.placeReject; split <;> rfl
@[simp] theorem placeReject_cipher (s : State) (t : Byte) (code : ResultCode) : (s.placeReject t code).cipher = s.cipher := by unfold State.placeReject; split <;> rfl
@[simp] theorem placeReject_portA (s : State) (t : Byte) (code : ResultCode) : (s.placeReject t code).portA = s.portA := by unfold State.placeReject; split <;> rfl
@[simp] theorem placeReject_portB (s : State) (t : Byte) (code : ResultCode) : (s.placeReject t code).portB = s.portB := by unfold State.placeReject; split <;> rfl
@[simp] theorem placeReject_bays (s : State) (t : Byte) (code : ResultCode) : (s.placeReject t code).bays = s.bays := by unfold State.placeReject; split <;> rfl

@[simp] theorem requestAppend_pending (s : State) (b : BayId) (a : Addr) (r : TerminalRecord) : (s.requestAppend b a r).pending = s.pending := by unfold State.requestAppend; split <;> rfl
@[simp] theorem requestAppend_powered (s : State) (b : BayId) (a : Addr) (r : TerminalRecord) : (s.requestAppend b a r).powered = s.powered := by unfold State.requestAppend; split <;> rfl
@[simp] theorem requestAppend_started (s : State) (b : BayId) (a : Addr) (r : TerminalRecord) : (s.requestAppend b a r).started = s.started := by unfold State.requestAppend; split <;> rfl
@[simp] theorem requestAppend_time (s : State) (b : BayId) (a : Addr) (r : TerminalRecord) : (s.requestAppend b a r).time = s.time := by unfold State.requestAppend; split <;> rfl
@[simp] theorem requestAppend_clock (s : State) (b : BayId) (a : Addr) (r : TerminalRecord) : (s.requestAppend b a r).clock = s.clock := by unfold State.requestAppend; split <;> rfl
@[simp] theorem requestAppend_lastAdvance (s : State) (b : BayId) (a : Addr) (r : TerminalRecord) : (s.requestAppend b a r).lastAdvance = s.lastAdvance := by unfold State.requestAppend; split <;> rfl
@[simp] theorem requestAppend_enclosure (s : State) (b : BayId) (a : Addr) (r : TerminalRecord) : (s.requestAppend b a r).enclosure = s.enclosure := by unfold State.requestAppend; split <;> rfl
@[simp] theorem requestAppend_checks_profiles (s : State) (b : BayId) (a : Addr) (r : TerminalRecord) : (s.requestAppend b a r).checks.profiles = s.checks.profiles := by unfold State.requestAppend; split <;> rfl
@[simp] theorem requestAppend_window (s : State) (b : BayId) (a : Addr) (r : TerminalRecord) : (s.requestAppend b a r).window = s.window := by unfold State.requestAppend; split <;> rfl
@[simp] theorem requestAppend_profiles (s : State) (b : BayId) (a : Addr) (r : TerminalRecord) : (s.requestAppend b a r).profiles = s.profiles := by unfold State.requestAppend; split <;> rfl
@[simp] theorem requestAppend_keys (s : State) (b : BayId) (a : Addr) (r : TerminalRecord) : (s.requestAppend b a r).keys = s.keys := by unfold State.requestAppend; split <;> rfl
@[simp] theorem requestAppend_cipher (s : State) (b : BayId) (a : Addr) (r : TerminalRecord) : (s.requestAppend b a r).cipher = s.cipher := by unfold State.requestAppend; split <;> rfl
@[simp] theorem requestAppend_portA (s : State) (b : BayId) (a : Addr) (r : TerminalRecord) : (s.requestAppend b a r).portA = s.portA := by unfold State.requestAppend; split <;> rfl
@[simp] theorem requestAppend_portB (s : State) (b : BayId) (a : Addr) (r : TerminalRecord) : (s.requestAppend b a r).portB = s.portB := by unfold State.requestAppend; split <;> rfl

@[simp] theorem portTo_pending (s : State) (p : PortId) (x : PortState) : (s.portTo p x).pending = s.pending := by simp [State.portTo]
@[simp] theorem portTo_powered (s : State) (p : PortId) (x : PortState) : (s.portTo p x).powered = s.powered := by simp [State.portTo]
@[simp] theorem portTo_started (s : State) (p : PortId) (x : PortState) : (s.portTo p x).started = s.started := by simp [State.portTo]
@[simp] theorem portTo_time (s : State) (p : PortId) (x : PortState) : (s.portTo p x).time = s.time := by simp [State.portTo]
@[simp] theorem portTo_clock (s : State) (p : PortId) (x : PortState) : (s.portTo p x).clock = s.clock := by simp [State.portTo]
@[simp] theorem portTo_lastAdvance (s : State) (p : PortId) (x : PortState) : (s.portTo p x).lastAdvance = s.lastAdvance := by simp [State.portTo]
@[simp] theorem portTo_enclosure (s : State) (p : PortId) (x : PortState) : (s.portTo p x).enclosure = s.enclosure := by simp [State.portTo]
@[simp] theorem portTo_checks (s : State) (p : PortId) (x : PortState) : (s.portTo p x).checks = s.checks := by simp [State.portTo]
@[simp] theorem portTo_report (s : State) (p : PortId) (x : PortState) : (s.portTo p x).report = s.report := by simp [State.portTo]
@[simp] theorem portTo_window (s : State) (p : PortId) (x : PortState) : (s.portTo p x).window = s.window := by simp [State.portTo]
@[simp] theorem portTo_profiles (s : State) (p : PortId) (x : PortState) : (s.portTo p x).profiles = s.profiles := by simp [State.portTo]
@[simp] theorem portTo_keys (s : State) (p : PortId) (x : PortState) : (s.portTo p x).keys = s.keys := by simp [State.portTo]
@[simp] theorem portTo_cipher (s : State) (p : PortId) (x : PortState) : (s.portTo p x).cipher = s.cipher := by simp [State.portTo]
@[simp] theorem portTo_bays (s : State) (p : PortId) (x : PortState) : (s.portTo p x).bays = s.bays := by simp [State.portTo]

@[simp] theorem decideOutcome_pending (s : State) (b : BayId) (a : Addr) (v : Verdict) : (s.decideOutcome b a v).pending = s.pending := by
  unfold State.decideOutcome; split <;> [rfl; (split <;> [rfl; (split <;> simp)])]
@[simp] theorem decideOutcome_powered (s : State) (b : BayId) (a : Addr) (v : Verdict) : (s.decideOutcome b a v).powered = s.powered := by
  unfold State.decideOutcome; split <;> [rfl; (split <;> [rfl; (split <;> simp)])]
@[simp] theorem decideOutcome_started (s : State) (b : BayId) (a : Addr) (v : Verdict) : (s.decideOutcome b a v).started = s.started := by
  unfold State.decideOutcome; split <;> [rfl; (split <;> [rfl; (split <;> simp)])]
@[simp] theorem decideOutcome_time (s : State) (b : BayId) (a : Addr) (v : Verdict) : (s.decideOutcome b a v).time = s.time := by
  unfold State.decideOutcome; split <;> [rfl; (split <;> [rfl; (split <;> simp)])]
@[simp] theorem decideOutcome_clock (s : State) (b : BayId) (a : Addr) (v : Verdict) : (s.decideOutcome b a v).clock = s.clock := by
  unfold State.decideOutcome; split <;> [rfl; (split <;> [rfl; (split <;> simp)])]
@[simp] theorem decideOutcome_lastAdvance (s : State) (b : BayId) (a : Addr) (v : Verdict) : (s.decideOutcome b a v).lastAdvance = s.lastAdvance := by
  unfold State.decideOutcome; split <;> [rfl; (split <;> [rfl; (split <;> simp)])]
@[simp] theorem decideOutcome_enclosure (s : State) (b : BayId) (a : Addr) (v : Verdict) : (s.decideOutcome b a v).enclosure = s.enclosure := by
  unfold State.decideOutcome; split <;> [rfl; (split <;> [rfl; (split <;> simp)])]
@[simp] theorem decideOutcome_checks_profiles (s : State) (b : BayId) (a : Addr) (v : Verdict) : (s.decideOutcome b a v).checks.profiles = s.checks.profiles := by
  unfold State.decideOutcome; split <;> [rfl; (split <;> [rfl; (split <;> simp)])]
@[simp] theorem decideOutcome_window (s : State) (b : BayId) (a : Addr) (v : Verdict) : (s.decideOutcome b a v).window = s.window := by
  unfold State.decideOutcome; split <;> [rfl; (split <;> [rfl; (split <;> simp)])]
@[simp] theorem decideOutcome_profiles (s : State) (b : BayId) (a : Addr) (v : Verdict) : (s.decideOutcome b a v).profiles = s.profiles := by
  unfold State.decideOutcome; split <;> [rfl; (split <;> [rfl; (split <;> simp)])]
@[simp] theorem decideOutcome_keys (s : State) (b : BayId) (a : Addr) (v : Verdict) : (s.decideOutcome b a v).keys = s.keys := by
  unfold State.decideOutcome; split <;> [rfl; (split <;> [rfl; (split <;> simp)])]
@[simp] theorem decideOutcome_portA (s : State) (b : BayId) (a : Addr) (v : Verdict) : (s.decideOutcome b a v).portA = s.portA := by
  unfold State.decideOutcome; split <;> [rfl; (split <;> [rfl; (split <;> simp)])]
@[simp] theorem decideOutcome_portB (s : State) (b : BayId) (a : Addr) (v : Verdict) : (s.decideOutcome b a v).portB = s.portB := by
  unfold State.decideOutcome; split <;> [rfl; (split <;> [rfl; (split <;> simp)])]

@[simp] theorem normalEnd_pending (s : State) (b : BayId) : (s.normalEnd b).pending = s.pending := rfl
@[simp] theorem normalEnd_powered (s : State) (b : BayId) : (s.normalEnd b).powered = s.powered := rfl
@[simp] theorem normalEnd_started (s : State) (b : BayId) : (s.normalEnd b).started = s.started := rfl
@[simp] theorem normalEnd_time (s : State) (b : BayId) : (s.normalEnd b).time = s.time := rfl
@[simp] theorem normalEnd_clock (s : State) (b : BayId) : (s.normalEnd b).clock = s.clock := rfl
@[simp] theorem normalEnd_lastAdvance (s : State) (b : BayId) : (s.normalEnd b).lastAdvance = s.lastAdvance := rfl
@[simp] theorem normalEnd_enclosure (s : State) (b : BayId) : (s.normalEnd b).enclosure = s.enclosure := rfl
@[simp] theorem normalEnd_checks_profiles (s : State) (b : BayId) : (s.normalEnd b).checks.profiles = s.checks.profiles := rfl
@[simp] theorem normalEnd_window (s : State) (b : BayId) : (s.normalEnd b).window = s.window := rfl
@[simp] theorem normalEnd_profiles (s : State) (b : BayId) : (s.normalEnd b).profiles = s.profiles := rfl
@[simp] theorem normalEnd_keys (s : State) (b : BayId) : (s.normalEnd b).keys = s.keys := rfl
@[simp] theorem normalEnd_portA (s : State) (b : BayId) : (s.normalEnd b).portA = s.portA := rfl
@[simp] theorem normalEnd_portB (s : State) (b : BayId) : (s.normalEnd b).portB = s.portB := rfl

@[simp] theorem sendNext_pending (s : State) (b : BayId) : (s.sendNext b).pending = s.pending := by
  unfold State.sendNext; dsimp only; repeat' (first | rfl | split)
@[simp] theorem sendNext_powered (s : State) (b : BayId) : (s.sendNext b).powered = s.powered := by
  unfold State.sendNext; dsimp only; repeat' (first | rfl | split)
@[simp] theorem sendNext_started (s : State) (b : BayId) : (s.sendNext b).started = s.started := by
  unfold State.sendNext; dsimp only; repeat' (first | rfl | split)
@[simp] theorem sendNext_time (s : State) (b : BayId) : (s.sendNext b).time = s.time := by
  unfold State.sendNext; dsimp only; repeat' (first | rfl | split)
@[simp] theorem sendNext_clock (s : State) (b : BayId) : (s.sendNext b).clock = s.clock := by
  unfold State.sendNext; dsimp only; repeat' (first | rfl | split)
@[simp] theorem sendNext_lastAdvance (s : State) (b : BayId) : (s.sendNext b).lastAdvance = s.lastAdvance := by
  unfold State.sendNext; dsimp only; repeat' (first | rfl | split)
@[simp] theorem sendNext_enclosure (s : State) (b : BayId) : (s.sendNext b).enclosure = s.enclosure := by
  unfold State.sendNext; dsimp only; repeat' (first | rfl | split)
@[simp] theorem sendNext_checks (s : State) (b : BayId) : (s.sendNext b).checks = s.checks := by
  unfold State.sendNext; dsimp only; repeat' (first | rfl | split)
@[simp] theorem sendNext_notice (s : State) (b : BayId) : (s.sendNext b).notice = s.notice := by
  unfold State.sendNext; dsimp only; repeat' (first | rfl | split)
@[simp] theorem sendNext_link (s : State) (b : BayId) : (s.sendNext b).link = s.link := by
  unfold State.sendNext; dsimp only; repeat' (first | rfl | split)
@[simp] theorem sendNext_report (s : State) (b : BayId) : (s.sendNext b).report = s.report := by
  unfold State.sendNext; dsimp only; repeat' (first | rfl | split)
@[simp] theorem sendNext_window (s : State) (b : BayId) : (s.sendNext b).window = s.window := by
  unfold State.sendNext; dsimp only; repeat' (first | rfl | split)
@[simp] theorem sendNext_profiles (s : State) (b : BayId) : (s.sendNext b).profiles = s.profiles := by
  unfold State.sendNext; dsimp only; repeat' (first | rfl | split)
@[simp] theorem sendNext_keys (s : State) (b : BayId) : (s.sendNext b).keys = s.keys := by
  unfold State.sendNext; dsimp only; repeat' (first | rfl | split)
@[simp] theorem sendNext_cipher (s : State) (b : BayId) : (s.sendNext b).cipher = s.cipher := by
  unfold State.sendNext; dsimp only; repeat' (first | rfl | split)
@[simp] theorem sendNext_portA (s : State) (b : BayId) : (s.sendNext b).portA = s.portA := by
  unfold State.sendNext; dsimp only; repeat' (first | rfl | split)
@[simp] theorem sendNext_portB (s : State) (b : BayId) : (s.sendNext b).portB = s.portB := by
  unfold State.sendNext; dsimp only; repeat' (first | rfl | split)

@[simp] theorem placePrepare_pending (s : State) (b : BayId) (c : Context) (p : Profile) (d : Descriptor) (n : Nat) (u : Bool) : (s.placePrepare b c p d n u).pending = s.pending := by
  unfold State.placePrepare; repeat' (first | rfl | split)
@[simp] theorem placePrepare_powered (s : State) (b : BayId) (c : Context) (p : Profile) (d : Descriptor) (n : Nat) (u : Bool) : (s.placePrepare b c p d n u).powered = s.powered := by
  unfold State.placePrepare; repeat' (first | rfl | split)
@[simp] theorem placePrepare_started (s : State) (b : BayId) (c : Context) (p : Profile) (d : Descriptor) (n : Nat) (u : Bool) : (s.placePrepare b c p d n u).started = s.started := by
  unfold State.placePrepare; repeat' (first | rfl | split)
@[simp] theorem placePrepare_time (s : State) (b : BayId) (c : Context) (p : Profile) (d : Descriptor) (n : Nat) (u : Bool) : (s.placePrepare b c p d n u).time = s.time := by
  unfold State.placePrepare; repeat' (first | rfl | split)
@[simp] theorem placePrepare_clock (s : State) (b : BayId) (c : Context) (p : Profile) (d : Descriptor) (n : Nat) (u : Bool) : (s.placePrepare b c p d n u).clock = s.clock := by
  unfold State.placePrepare; repeat' (first | rfl | split)
@[simp] theorem placePrepare_lastAdvance (s : State) (b : BayId) (c : Context) (p : Profile) (d : Descriptor) (n : Nat) (u : Bool) : (s.placePrepare b c p d n u).lastAdvance = s.lastAdvance := by
  unfold State.placePrepare; repeat' (first | rfl | split)
@[simp] theorem placePrepare_enclosure (s : State) (b : BayId) (c : Context) (p : Profile) (d : Descriptor) (n : Nat) (u : Bool) : (s.placePrepare b c p d n u).enclosure = s.enclosure := by
  unfold State.placePrepare; repeat' (first | rfl | split)
@[simp] theorem placePrepare_checks (s : State) (b : BayId) (c : Context) (p : Profile) (d : Descriptor) (n : Nat) (u : Bool) : (s.placePrepare b c p d n u).checks = s.checks := by
  unfold State.placePrepare; repeat' (first | rfl | split)
@[simp] theorem placePrepare_notice (s : State) (b : BayId) (c : Context) (p : Profile) (d : Descriptor) (n : Nat) (u : Bool) : (s.placePrepare b c p d n u).notice = s.notice := by
  unfold State.placePrepare; repeat' (first | rfl | split)
@[simp] theorem placePrepare_link (s : State) (b : BayId) (c : Context) (p : Profile) (d : Descriptor) (n : Nat) (u : Bool) : (s.placePrepare b c p d n u).link = s.link := by
  unfold State.placePrepare; repeat' (first | rfl | split)
@[simp] theorem placePrepare_report (s : State) (b : BayId) (c : Context) (p : Profile) (d : Descriptor) (n : Nat) (u : Bool) : (s.placePrepare b c p d n u).report = s.report := by
  unfold State.placePrepare; repeat' (first | rfl | split)
@[simp] theorem placePrepare_window (s : State) (b : BayId) (c : Context) (p : Profile) (d : Descriptor) (n : Nat) (u : Bool) : (s.placePrepare b c p d n u).window = s.window := by
  unfold State.placePrepare; repeat' (first | rfl | split)
@[simp] theorem placePrepare_profiles (s : State) (b : BayId) (c : Context) (p : Profile) (d : Descriptor) (n : Nat) (u : Bool) : (s.placePrepare b c p d n u).profiles = s.profiles := by
  unfold State.placePrepare; repeat' (first | rfl | split)
@[simp] theorem placePrepare_keys (s : State) (b : BayId) (c : Context) (p : Profile) (d : Descriptor) (n : Nat) (u : Bool) : (s.placePrepare b c p d n u).keys = s.keys := by
  unfold State.placePrepare; repeat' (first | rfl | split)
@[simp] theorem placePrepare_portA (s : State) (b : BayId) (c : Context) (p : Profile) (d : Descriptor) (n : Nat) (u : Bool) : (s.placePrepare b c p d n u).portA = s.portA := by
  unfold State.placePrepare; repeat' (first | rfl | split)
@[simp] theorem placePrepare_portB (s : State) (b : BayId) (c : Context) (p : Profile) (d : Descriptor) (n : Nat) (u : Bool) : (s.placePrepare b c p d n u).portB = s.portB := by
  unfold State.placePrepare; repeat' (first | rfl | split)

@[simp] theorem placeTransport_pending (s : State) (b : BayId) (c : Context) (p : Profile) (u : Bool) : (s.placeTransport b c p u).pending = s.pending := rfl
@[simp] theorem placeTransport_powered (s : State) (b : BayId) (c : Context) (p : Profile) (u : Bool) : (s.placeTransport b c p u).powered = s.powered := rfl
@[simp] theorem placeTransport_started (s : State) (b : BayId) (c : Context) (p : Profile) (u : Bool) : (s.placeTransport b c p u).started = s.started := rfl
@[simp] theorem placeTransport_time (s : State) (b : BayId) (c : Context) (p : Profile) (u : Bool) : (s.placeTransport b c p u).time = s.time := rfl
@[simp] theorem placeTransport_clock (s : State) (b : BayId) (c : Context) (p : Profile) (u : Bool) : (s.placeTransport b c p u).clock = s.clock := rfl
@[simp] theorem placeTransport_lastAdvance (s : State) (b : BayId) (c : Context) (p : Profile) (u : Bool) : (s.placeTransport b c p u).lastAdvance = s.lastAdvance := rfl
@[simp] theorem placeTransport_enclosure (s : State) (b : BayId) (c : Context) (p : Profile) (u : Bool) : (s.placeTransport b c p u).enclosure = s.enclosure := rfl
@[simp] theorem placeTransport_checks (s : State) (b : BayId) (c : Context) (p : Profile) (u : Bool) : (s.placeTransport b c p u).checks = s.checks := rfl
@[simp] theorem placeTransport_notice (s : State) (b : BayId) (c : Context) (p : Profile) (u : Bool) : (s.placeTransport b c p u).notice = s.notice := rfl
@[simp] theorem placeTransport_link (s : State) (b : BayId) (c : Context) (p : Profile) (u : Bool) : (s.placeTransport b c p u).link = s.link := rfl
@[simp] theorem placeTransport_report (s : State) (b : BayId) (c : Context) (p : Profile) (u : Bool) : (s.placeTransport b c p u).report = s.report := rfl
@[simp] theorem placeTransport_window (s : State) (b : BayId) (c : Context) (p : Profile) (u : Bool) : (s.placeTransport b c p u).window = s.window := rfl
@[simp] theorem placeTransport_profiles (s : State) (b : BayId) (c : Context) (p : Profile) (u : Bool) : (s.placeTransport b c p u).profiles = s.profiles := rfl
@[simp] theorem placeTransport_keys (s : State) (b : BayId) (c : Context) (p : Profile) (u : Bool) : (s.placeTransport b c p u).keys = s.keys := rfl
@[simp] theorem placeTransport_portA (s : State) (b : BayId) (c : Context) (p : Profile) (u : Bool) : (s.placeTransport b c p u).portA = s.portA := rfl
@[simp] theorem placeTransport_portB (s : State) (b : BayId) (c : Context) (p : Profile) (u : Bool) : (s.placeTransport b c p u).portB = s.portB := rfl
@[simp] theorem placeTransport_bays (s : State) (b : BayId) (c : Context) (p : Profile) (u : Bool) : (s.placeTransport b c p u).bays = s.bays := rfl

@[simp] theorem workTransport_pending (s : State) (b : BayId) : (s.workTransport b).pending = s.pending := by
  unfold State.workTransport; repeat' (first | rfl | split)
@[simp] theorem workTransport_powered (s : State) (b : BayId) : (s.workTransport b).powered = s.powered := by
  unfold State.workTransport; repeat' (first | rfl | split)
@[simp] theorem workTransport_started (s : State) (b : BayId) : (s.workTransport b).started = s.started := by
  unfold State.workTransport; repeat' (first | rfl | split)
@[simp] theorem workTransport_time (s : State) (b : BayId) : (s.workTransport b).time = s.time := by
  unfold State.workTransport; repeat' (first | rfl | split)
@[simp] theorem workTransport_clock (s : State) (b : BayId) : (s.workTransport b).clock = s.clock := by
  unfold State.workTransport; repeat' (first | rfl | split)
@[simp] theorem workTransport_lastAdvance (s : State) (b : BayId) : (s.workTransport b).lastAdvance = s.lastAdvance := by
  unfold State.workTransport; repeat' (first | rfl | split)
@[simp] theorem workTransport_enclosure (s : State) (b : BayId) : (s.workTransport b).enclosure = s.enclosure := by
  unfold State.workTransport; repeat' (first | rfl | split)
@[simp] theorem workTransport_checks (s : State) (b : BayId) : (s.workTransport b).checks = s.checks := by
  unfold State.workTransport; repeat' (first | rfl | split)
@[simp] theorem workTransport_notice (s : State) (b : BayId) : (s.workTransport b).notice = s.notice := by
  unfold State.workTransport; repeat' (first | rfl | split)
@[simp] theorem workTransport_link (s : State) (b : BayId) : (s.workTransport b).link = s.link := by
  unfold State.workTransport; repeat' (first | rfl | split)
@[simp] theorem workTransport_report (s : State) (b : BayId) : (s.workTransport b).report = s.report := by
  unfold State.workTransport; repeat' (first | rfl | split)
@[simp] theorem workTransport_window (s : State) (b : BayId) : (s.workTransport b).window = s.window := by
  unfold State.workTransport; repeat' (first | rfl | split)
@[simp] theorem workTransport_profiles (s : State) (b : BayId) : (s.workTransport b).profiles = s.profiles := by
  unfold State.workTransport; repeat' (first | rfl | split)
@[simp] theorem workTransport_keys (s : State) (b : BayId) : (s.workTransport b).keys = s.keys := by
  unfold State.workTransport; repeat' (first | rfl | split)
@[simp] theorem workTransport_portA (s : State) (b : BayId) : (s.workTransport b).portA = s.portA := by
  unfold State.workTransport; repeat' (first | rfl | split)
@[simp] theorem workTransport_portB (s : State) (b : BayId) : (s.workTransport b).portB = s.portB := by
  unfold State.workTransport; repeat' (first | rfl | split)

@[simp] theorem workLoading_pending (s : State) (b : BayId) : (s.workLoading b).pending = s.pending := by
  unfold State.workLoading; dsimp only; repeat' (first | rfl | (solve | simp) | split)
@[simp] theorem workLoading_powered (s : State) (b : BayId) : (s.workLoading b).powered = s.powered := by
  unfold State.workLoading; dsimp only; repeat' (first | rfl | (solve | simp) | split)
@[simp] theorem workLoading_started (s : State) (b : BayId) : (s.workLoading b).started = s.started := by
  unfold State.workLoading; dsimp only; repeat' (first | rfl | (solve | simp) | split)
@[simp] theorem workLoading_time (s : State) (b : BayId) : (s.workLoading b).time = s.time := by
  unfold State.workLoading; dsimp only; repeat' (first | rfl | (solve | simp) | split)
@[simp] theorem workLoading_clock (s : State) (b : BayId) : (s.workLoading b).clock = s.clock := by
  unfold State.workLoading; dsimp only; repeat' (first | rfl | (solve | simp) | split)
@[simp] theorem workLoading_lastAdvance (s : State) (b : BayId) : (s.workLoading b).lastAdvance = s.lastAdvance := by
  unfold State.workLoading; dsimp only; repeat' (first | rfl | (solve | simp) | split)
@[simp] theorem workLoading_enclosure (s : State) (b : BayId) : (s.workLoading b).enclosure = s.enclosure := by
  unfold State.workLoading; dsimp only; repeat' (first | rfl | (solve | simp) | split)
@[simp] theorem workLoading_checks (s : State) (b : BayId) : (s.workLoading b).checks = s.checks := by
  unfold State.workLoading; dsimp only; repeat' (first | rfl | (solve | simp) | split)
@[simp] theorem workLoading_notice (s : State) (b : BayId) : (s.workLoading b).notice = s.notice := by
  unfold State.workLoading; dsimp only; repeat' (first | rfl | (solve | simp) | split)
@[simp] theorem workLoading_link (s : State) (b : BayId) : (s.workLoading b).link = s.link := by
  unfold State.workLoading; dsimp only; repeat' (first | rfl | (solve | simp) | split)
@[simp] theorem workLoading_report (s : State) (b : BayId) : (s.workLoading b).report = s.report := by
  unfold State.workLoading; dsimp only; repeat' (first | rfl | (solve | simp) | split)
@[simp] theorem workLoading_window (s : State) (b : BayId) : (s.workLoading b).window = s.window := by
  unfold State.workLoading; dsimp only; repeat' (first | rfl | (solve | simp) | split)
@[simp] theorem workLoading_profiles (s : State) (b : BayId) : (s.workLoading b).profiles = s.profiles := by
  unfold State.workLoading; dsimp only; repeat' (first | rfl | (solve | simp) | split)
@[simp] theorem workLoading_keys (s : State) (b : BayId) : (s.workLoading b).keys = s.keys := by
  unfold State.workLoading; dsimp only; repeat' (first | rfl | (solve | simp) | split)
@[simp] theorem workLoading_portA (s : State) (b : BayId) : (s.workLoading b).portA = s.portA := by
  unfold State.workLoading; dsimp only; repeat' (first | rfl | (solve | simp) | split)
@[simp] theorem workLoading_portB (s : State) (b : BayId) : (s.workLoading b).portB = s.portB := by
  unfold State.workLoading; dsimp only; repeat' (first | rfl | (solve | simp) | split)

@[simp] theorem aheadNext_pending (s : State) (b : BayId) (c : Context) : (s.aheadNext b c).pending = s.pending := by
  unfold State.aheadNext; repeat' (first | rfl | (solve | simp) | split)
@[simp] theorem aheadNext_powered (s : State) (b : BayId) (c : Context) : (s.aheadNext b c).powered = s.powered := by
  unfold State.aheadNext; repeat' (first | rfl | (solve | simp) | split)
@[simp] theorem aheadNext_started (s : State) (b : BayId) (c : Context) : (s.aheadNext b c).started = s.started := by
  unfold State.aheadNext; repeat' (first | rfl | (solve | simp) | split)
@[simp] theorem aheadNext_time (s : State) (b : BayId) (c : Context) : (s.aheadNext b c).time = s.time := by
  unfold State.aheadNext; repeat' (first | rfl | (solve | simp) | split)
@[simp] theorem aheadNext_clock (s : State) (b : BayId) (c : Context) : (s.aheadNext b c).clock = s.clock := by
  unfold State.aheadNext; repeat' (first | rfl | (solve | simp) | split)
@[simp] theorem aheadNext_lastAdvance (s : State) (b : BayId) (c : Context) : (s.aheadNext b c).lastAdvance = s.lastAdvance := by
  unfold State.aheadNext; repeat' (first | rfl | (solve | simp) | split)
@[simp] theorem aheadNext_enclosure (s : State) (b : BayId) (c : Context) : (s.aheadNext b c).enclosure = s.enclosure := by
  unfold State.aheadNext; repeat' (first | rfl | (solve | simp) | split)
@[simp] theorem aheadNext_checks (s : State) (b : BayId) (c : Context) : (s.aheadNext b c).checks = s.checks := by
  unfold State.aheadNext; repeat' (first | rfl | (solve | simp) | split)
@[simp] theorem aheadNext_notice (s : State) (b : BayId) (c : Context) : (s.aheadNext b c).notice = s.notice := by
  unfold State.aheadNext; repeat' (first | rfl | (solve | simp) | split)
@[simp] theorem aheadNext_link (s : State) (b : BayId) (c : Context) : (s.aheadNext b c).link = s.link := by
  unfold State.aheadNext; repeat' (first | rfl | (solve | simp) | split)
@[simp] theorem aheadNext_report (s : State) (b : BayId) (c : Context) : (s.aheadNext b c).report = s.report := by
  unfold State.aheadNext; repeat' (first | rfl | (solve | simp) | split)
@[simp] theorem aheadNext_window (s : State) (b : BayId) (c : Context) : (s.aheadNext b c).window = s.window := by
  unfold State.aheadNext; repeat' (first | rfl | (solve | simp) | split)
@[simp] theorem aheadNext_profiles (s : State) (b : BayId) (c : Context) : (s.aheadNext b c).profiles = s.profiles := by
  unfold State.aheadNext; repeat' (first | rfl | (solve | simp) | split)
@[simp] theorem aheadNext_keys (s : State) (b : BayId) (c : Context) : (s.aheadNext b c).keys = s.keys := by
  unfold State.aheadNext; repeat' (first | rfl | (solve | simp) | split)
@[simp] theorem aheadNext_portA (s : State) (b : BayId) (c : Context) : (s.aheadNext b c).portA = s.portA := by
  unfold State.aheadNext; repeat' (first | rfl | (solve | simp) | split)
@[simp] theorem aheadNext_portB (s : State) (b : BayId) (c : Context) : (s.aheadNext b c).portB = s.portB := by
  unfold State.aheadNext; repeat' (first | rfl | (solve | simp) | split)

@[simp] theorem aheadOnce_pending (s : State) (b : BayId) : (s.aheadOnce b).pending = s.pending := by
  unfold State.aheadOnce; repeat' (first | rfl | (solve | simp) | split)
@[simp] theorem aheadOnce_powered (s : State) (b : BayId) : (s.aheadOnce b).powered = s.powered := by
  unfold State.aheadOnce; repeat' (first | rfl | (solve | simp) | split)
@[simp] theorem aheadOnce_started (s : State) (b : BayId) : (s.aheadOnce b).started = s.started := by
  unfold State.aheadOnce; repeat' (first | rfl | (solve | simp) | split)
@[simp] theorem aheadOnce_time (s : State) (b : BayId) : (s.aheadOnce b).time = s.time := by
  unfold State.aheadOnce; repeat' (first | rfl | (solve | simp) | split)
@[simp] theorem aheadOnce_clock (s : State) (b : BayId) : (s.aheadOnce b).clock = s.clock := by
  unfold State.aheadOnce; repeat' (first | rfl | (solve | simp) | split)
@[simp] theorem aheadOnce_lastAdvance (s : State) (b : BayId) : (s.aheadOnce b).lastAdvance = s.lastAdvance := by
  unfold State.aheadOnce; repeat' (first | rfl | (solve | simp) | split)
@[simp] theorem aheadOnce_enclosure (s : State) (b : BayId) : (s.aheadOnce b).enclosure = s.enclosure := by
  unfold State.aheadOnce; repeat' (first | rfl | (solve | simp) | split)
@[simp] theorem aheadOnce_checks (s : State) (b : BayId) : (s.aheadOnce b).checks = s.checks := by
  unfold State.aheadOnce; repeat' (first | rfl | (solve | simp) | split)
@[simp] theorem aheadOnce_notice (s : State) (b : BayId) : (s.aheadOnce b).notice = s.notice := by
  unfold State.aheadOnce; repeat' (first | rfl | (solve | simp) | split)
@[simp] theorem aheadOnce_link (s : State) (b : BayId) : (s.aheadOnce b).link = s.link := by
  unfold State.aheadOnce; repeat' (first | rfl | (solve | simp) | split)
@[simp] theorem aheadOnce_report (s : State) (b : BayId) : (s.aheadOnce b).report = s.report := by
  unfold State.aheadOnce; repeat' (first | rfl | (solve | simp) | split)
@[simp] theorem aheadOnce_window (s : State) (b : BayId) : (s.aheadOnce b).window = s.window := by
  unfold State.aheadOnce; repeat' (first | rfl | (solve | simp) | split)
@[simp] theorem aheadOnce_profiles (s : State) (b : BayId) : (s.aheadOnce b).profiles = s.profiles := by
  unfold State.aheadOnce; repeat' (first | rfl | (solve | simp) | split)
@[simp] theorem aheadOnce_keys (s : State) (b : BayId) : (s.aheadOnce b).keys = s.keys := by
  unfold State.aheadOnce; repeat' (first | rfl | (solve | simp) | split)
@[simp] theorem aheadOnce_portA (s : State) (b : BayId) : (s.aheadOnce b).portA = s.portA := by
  unfold State.aheadOnce; repeat' (first | rfl | (solve | simp) | split)
@[simp] theorem aheadOnce_portB (s : State) (b : BayId) : (s.aheadOnce b).portB = s.portB := by
  unfold State.aheadOnce; repeat' (first | rfl | (solve | simp) | split)

@[simp] theorem workHand_pending (s : State) (b : BayId) : (s.workHand b).pending = s.pending := by simp [State.workHand]
@[simp] theorem workHand_powered (s : State) (b : BayId) : (s.workHand b).powered = s.powered := by simp [State.workHand]
@[simp] theorem workHand_started (s : State) (b : BayId) : (s.workHand b).started = s.started := by simp [State.workHand]
@[simp] theorem workHand_time (s : State) (b : BayId) : (s.workHand b).time = s.time := by simp [State.workHand]
@[simp] theorem workHand_clock (s : State) (b : BayId) : (s.workHand b).clock = s.clock := by simp [State.workHand]
@[simp] theorem workHand_lastAdvance (s : State) (b : BayId) : (s.workHand b).lastAdvance = s.lastAdvance := by simp [State.workHand]
@[simp] theorem workHand_enclosure (s : State) (b : BayId) : (s.workHand b).enclosure = s.enclosure := by simp [State.workHand]
@[simp] theorem workHand_checks (s : State) (b : BayId) : (s.workHand b).checks = s.checks := by simp [State.workHand]
@[simp] theorem workHand_notice (s : State) (b : BayId) : (s.workHand b).notice = s.notice := by simp [State.workHand]
@[simp] theorem workHand_link (s : State) (b : BayId) : (s.workHand b).link = s.link := by simp [State.workHand]
@[simp] theorem workHand_report (s : State) (b : BayId) : (s.workHand b).report = s.report := by simp [State.workHand]
@[simp] theorem workHand_window (s : State) (b : BayId) : (s.workHand b).window = s.window := by simp [State.workHand]
@[simp] theorem workHand_profiles (s : State) (b : BayId) : (s.workHand b).profiles = s.profiles := by simp [State.workHand]
@[simp] theorem workHand_keys (s : State) (b : BayId) : (s.workHand b).keys = s.keys := by simp [State.workHand]
@[simp] theorem workHand_portA (s : State) (b : BayId) : (s.workHand b).portA = s.portA := by simp [State.workHand]
@[simp] theorem workHand_portB (s : State) (b : BayId) : (s.workHand b).portB = s.portB := by simp [State.workHand]

@[simp] theorem rateDecision_pending (s : State) (b : BayId) : (s.rateDecision b).pending = s.pending := by
  unfold State.rateDecision; dsimp only; repeat' (first | rfl | (solve | simp) | split)
@[simp] theorem rateDecision_powered (s : State) (b : BayId) : (s.rateDecision b).powered = s.powered := by
  unfold State.rateDecision; dsimp only; repeat' (first | rfl | (solve | simp) | split)
@[simp] theorem rateDecision_started (s : State) (b : BayId) : (s.rateDecision b).started = s.started := by
  unfold State.rateDecision; dsimp only; repeat' (first | rfl | (solve | simp) | split)
@[simp] theorem rateDecision_time (s : State) (b : BayId) : (s.rateDecision b).time = s.time := by
  unfold State.rateDecision; dsimp only; repeat' (first | rfl | (solve | simp) | split)
@[simp] theorem rateDecision_clock (s : State) (b : BayId) : (s.rateDecision b).clock = s.clock := by
  unfold State.rateDecision; dsimp only; repeat' (first | rfl | (solve | simp) | split)
@[simp] theorem rateDecision_lastAdvance (s : State) (b : BayId) : (s.rateDecision b).lastAdvance = s.lastAdvance := by
  unfold State.rateDecision; dsimp only; repeat' (first | rfl | (solve | simp) | split)
@[simp] theorem rateDecision_enclosure (s : State) (b : BayId) : (s.rateDecision b).enclosure = s.enclosure := by
  unfold State.rateDecision; dsimp only; repeat' (first | rfl | (solve | simp) | split)
@[simp] theorem rateDecision_checks_profiles (s : State) (b : BayId) : (s.rateDecision b).checks.profiles = s.checks.profiles := by
  unfold State.rateDecision; dsimp only; repeat' (first | rfl | (solve | simp) | split)
@[simp] theorem rateDecision_window (s : State) (b : BayId) : (s.rateDecision b).window = s.window := by
  unfold State.rateDecision; dsimp only; repeat' (first | rfl | (solve | simp) | split)
@[simp] theorem rateDecision_profiles (s : State) (b : BayId) : (s.rateDecision b).profiles = s.profiles := by
  unfold State.rateDecision; dsimp only; repeat' (first | rfl | (solve | simp) | split)
@[simp] theorem rateDecision_keys (s : State) (b : BayId) : (s.rateDecision b).keys = s.keys := by
  unfold State.rateDecision; dsimp only; repeat' (first | rfl | (solve | simp) | split)
@[simp] theorem rateDecision_portA (s : State) (b : BayId) : (s.rateDecision b).portA = s.portA := by
  unfold State.rateDecision; dsimp only; repeat' (first | rfl | (solve | simp) | split)
@[simp] theorem rateDecision_portB (s : State) (b : BayId) : (s.rateDecision b).portB = s.portB := by
  unfold State.rateDecision; dsimp only; repeat' (first | rfl | (solve | simp) | split)

@[simp] theorem endRoll_pending (s : State) (b : BayId) : (s.endRoll b).pending = s.pending := by
  unfold State.endRoll; repeat' (first | rfl | (solve | simp) | split)
@[simp] theorem endRoll_powered (s : State) (b : BayId) : (s.endRoll b).powered = s.powered := by
  unfold State.endRoll; repeat' (first | rfl | (solve | simp) | split)
@[simp] theorem endRoll_started (s : State) (b : BayId) : (s.endRoll b).started = s.started := by
  unfold State.endRoll; repeat' (first | rfl | (solve | simp) | split)
@[simp] theorem endRoll_time (s : State) (b : BayId) : (s.endRoll b).time = s.time := by
  unfold State.endRoll; repeat' (first | rfl | (solve | simp) | split)
@[simp] theorem endRoll_clock (s : State) (b : BayId) : (s.endRoll b).clock = s.clock := by
  unfold State.endRoll; repeat' (first | rfl | (solve | simp) | split)
@[simp] theorem endRoll_lastAdvance (s : State) (b : BayId) : (s.endRoll b).lastAdvance = s.lastAdvance := by
  unfold State.endRoll; repeat' (first | rfl | (solve | simp) | split)
@[simp] theorem endRoll_enclosure (s : State) (b : BayId) : (s.endRoll b).enclosure = s.enclosure := by
  unfold State.endRoll; repeat' (first | rfl | (solve | simp) | split)
@[simp] theorem endRoll_checks_profiles (s : State) (b : BayId) : (s.endRoll b).checks.profiles = s.checks.profiles := by
  unfold State.endRoll; repeat' (first | rfl | (solve | simp) | split)
@[simp] theorem endRoll_window (s : State) (b : BayId) : (s.endRoll b).window = s.window := by
  unfold State.endRoll; repeat' (first | rfl | (solve | simp) | split)
@[simp] theorem endRoll_profiles (s : State) (b : BayId) : (s.endRoll b).profiles = s.profiles := by
  unfold State.endRoll; repeat' (first | rfl | (solve | simp) | split)
@[simp] theorem endRoll_keys (s : State) (b : BayId) : (s.endRoll b).keys = s.keys := by
  unfold State.endRoll; repeat' (first | rfl | (solve | simp) | split)
@[simp] theorem endRoll_portA (s : State) (b : BayId) : (s.endRoll b).portA = s.portA := by
  unfold State.endRoll; repeat' (first | rfl | (solve | simp) | split)
@[simp] theorem endRoll_portB (s : State) (b : BayId) : (s.endRoll b).portB = s.portB := by
  unfold State.endRoll; repeat' (first | rfl | (solve | simp) | split)

@[simp] theorem advance_pending (s : State) (b : BayId) : (s.advance b).pending = s.pending := by
  unfold State.advance; repeat' (first | rfl | (solve | simp) | split)
@[simp] theorem advance_powered (s : State) (b : BayId) : (s.advance b).powered = s.powered := by
  unfold State.advance; repeat' (first | rfl | (solve | simp) | split)
@[simp] theorem advance_started (s : State) (b : BayId) : (s.advance b).started = s.started := by
  unfold State.advance; repeat' (first | rfl | (solve | simp) | split)
@[simp] theorem advance_time (s : State) (b : BayId) : (s.advance b).time = s.time := by
  unfold State.advance; repeat' (first | rfl | (solve | simp) | split)
@[simp] theorem advance_clock (s : State) (b : BayId) : (s.advance b).clock = s.clock := by
  unfold State.advance; repeat' (first | rfl | (solve | simp) | split)
@[simp] theorem advance_lastAdvance (s : State) (b : BayId) : (s.advance b).lastAdvance = s.lastAdvance := by
  unfold State.advance; repeat' (first | rfl | (solve | simp) | split)
@[simp] theorem advance_enclosure (s : State) (b : BayId) : (s.advance b).enclosure = s.enclosure := by
  unfold State.advance; repeat' (first | rfl | (solve | simp) | split)
@[simp] theorem advance_checks_profiles (s : State) (b : BayId) : (s.advance b).checks.profiles = s.checks.profiles := by
  unfold State.advance; repeat' (first | rfl | (solve | simp) | split)
@[simp] theorem advance_window (s : State) (b : BayId) : (s.advance b).window = s.window := by
  unfold State.advance; repeat' (first | rfl | (solve | simp) | split)
@[simp] theorem advance_profiles (s : State) (b : BayId) : (s.advance b).profiles = s.profiles := by
  unfold State.advance; repeat' (first | rfl | (solve | simp) | split)
@[simp] theorem advance_keys (s : State) (b : BayId) : (s.advance b).keys = s.keys := by
  unfold State.advance; repeat' (first | rfl | (solve | simp) | split)
@[simp] theorem advance_portA (s : State) (b : BayId) : (s.advance b).portA = s.portA := by
  unfold State.advance; repeat' (first | rfl | (solve | simp) | split)
@[simp] theorem advance_portB (s : State) (b : BayId) : (s.advance b).portB = s.portB := by
  unfold State.advance; repeat' (first | rfl | (solve | simp) | split)

@[simp] theorem failRequest_pending (s : State) (j : CipherJob) (t : FailReason) : (s.failRequest j t).pending = s.pending := by
  unfold State.failRequest; split <;> simp
@[simp] theorem failRequest_powered (s : State) (j : CipherJob) (t : FailReason) : (s.failRequest j t).powered = s.powered := by
  unfold State.failRequest; split <;> simp
@[simp] theorem failRequest_started (s : State) (j : CipherJob) (t : FailReason) : (s.failRequest j t).started = s.started := by
  unfold State.failRequest; split <;> simp
@[simp] theorem failRequest_time (s : State) (j : CipherJob) (t : FailReason) : (s.failRequest j t).time = s.time := by
  unfold State.failRequest; split <;> simp
@[simp] theorem failRequest_clock (s : State) (j : CipherJob) (t : FailReason) : (s.failRequest j t).clock = s.clock := by
  unfold State.failRequest; split <;> simp
@[simp] theorem failRequest_lastAdvance (s : State) (j : CipherJob) (t : FailReason) : (s.failRequest j t).lastAdvance = s.lastAdvance := by
  unfold State.failRequest; split <;> simp
@[simp] theorem failRequest_enclosure (s : State) (j : CipherJob) (t : FailReason) : (s.failRequest j t).enclosure = s.enclosure := by
  unfold State.failRequest; split <;> simp
@[simp] theorem failRequest_checks_profiles (s : State) (j : CipherJob) (t : FailReason) : (s.failRequest j t).checks.profiles = s.checks.profiles := by
  unfold State.failRequest; split <;> simp
@[simp] theorem failRequest_window (s : State) (j : CipherJob) (t : FailReason) : (s.failRequest j t).window = s.window := by
  unfold State.failRequest; split <;> simp
@[simp] theorem failRequest_profiles (s : State) (j : CipherJob) (t : FailReason) : (s.failRequest j t).profiles = s.profiles := by
  unfold State.failRequest; split <;> simp
@[simp] theorem failRequest_portA (s : State) (j : CipherJob) (t : FailReason) : (s.failRequest j t).portA = s.portA := by
  unfold State.failRequest; split <;> simp
@[simp] theorem failRequest_portB (s : State) (j : CipherJob) (t : FailReason) : (s.failRequest j t).portB = s.portB := by
  unfold State.failRequest; split <;> simp

/-- What the engine's choice leaves: it takes a request only when free, and nothing but the cipher unit and a use count
changes (R103, R104). -/
theorem engineTake_ended {s t : State} {r : Running} {reason : FailReason} (h : s.engineTake = .ended r reason t) :
    s.cipher.running = none ∧ ∃ q, s.cipher.choice = some q ∧ s.startCheck q.job = .error reason ∧
      r = { job := q.job, urgent := q.urgent, withdrawn := false, material := .none } ∧
      t = { s with cipher := s.cipher.run q r } := by
  unfold State.engineTake at h
  split at h
  · next q h1 h2 =>
    dsimp only at h
    split at h
    · next reason' h3 =>
      simp only [Take.ended.injEq] at h
      obtain ⟨rfl, rfl, rfl⟩ := h
      exact ⟨h1, q, h2, h3, rfl, rfl⟩
    · simp at h
  · simp at h

/-- A request that starts has passed its start checks (R104). -/
theorem engineTake_started {s t : State} (h : s.engineTake = .started t) :
    s.cipher.running = none ∧ ∃ q m used, s.cipher.choice = some q ∧ s.startCheck q.job = .ok (m, used) ∧
      t = { s.countUse used with
        cipher := s.cipher.run q { job := q.job, urgent := q.urgent, withdrawn := false, material := m } } := by
  unfold State.engineTake at h
  split at h
  · next q h1 h2 =>
    dsimp only at h
    split at h
    · simp at h
    · next m used h3 =>
      simp only [Take.started.injEq] at h
      exact ⟨h1, q, m, used, h2, h3, h.symm⟩
  · simp at h

/-- A property of states that each round of internal work keeps, `settle` keeps. -/
theorem settle_keeps (P : State → Prop) (hadv : ∀ s b, P s → P (s.advance b))
    (hstart : ∀ s t, P s → s.engineTake = .started t → P t)
    (hend : ∀ s t r reason, P s → s.engineTake = .ended r reason t → P ((t.failRequest r.job reason).freeEngine))
    (n : Nat) (l : List BayId) (s : State) (h : P s) : P (s.settle n l) := by
  induction n generalizing l s with
  | zero => exact h
  | succ n ih =>
    cases l with
    | cons b rest => exact ih _ _ (hadv s b h)
    | nil =>
      simp only [State.settle]
      split
      · exact h
      · next t ht => exact hstart s t h ht
      · next r reason t ht => exact ih _ _ (hend s t r reason h ht)

@[simp] theorem settle_pending (s : State) (n : Nat) (l : List BayId) : (s.settle n l).pending = s.pending := by
  refine settle_keeps (fun t => t.pending = s.pending) ?_ ?_ ?_ n l s rfl
  · intro t b h; simpa using h
  · intro t u h ht; obtain ⟨_, q, m, used, _, _, rfl⟩ := engineTake_started ht; simpa using h
  · intro t u r reason h ht; obtain ⟨_, q, _, _, _, rfl⟩ := engineTake_ended ht; simpa using h

@[simp] theorem work_pending (s : State) (l : List BayId) : (s.work l).pending = s.pending := settle_pending s _ l

@[simp] theorem settle_powered (s : State) (n : Nat) (l : List BayId) : (s.settle n l).powered = s.powered := by
  refine settle_keeps (fun t => t.powered = s.powered) ?_ ?_ ?_ n l s rfl
  · intro t b h; simpa using h
  · intro t u h ht; obtain ⟨_, q, m, used, _, _, rfl⟩ := engineTake_started ht; simpa using h
  · intro t u r reason h ht; obtain ⟨_, q, _, _, _, rfl⟩ := engineTake_ended ht; simpa using h

@[simp] theorem work_powered (s : State) (l : List BayId) : (s.work l).powered = s.powered := settle_powered s _ l

@[simp] theorem settle_started (s : State) (n : Nat) (l : List BayId) : (s.settle n l).started = s.started := by
  refine settle_keeps (fun t => t.started = s.started) ?_ ?_ ?_ n l s rfl
  · intro t b h; simpa using h
  · intro t u h ht; obtain ⟨_, q, m, used, _, _, rfl⟩ := engineTake_started ht; simpa using h
  · intro t u r reason h ht; obtain ⟨_, q, _, _, _, rfl⟩ := engineTake_ended ht; simpa using h

@[simp] theorem work_started (s : State) (l : List BayId) : (s.work l).started = s.started := settle_started s _ l

@[simp] theorem settle_time (s : State) (n : Nat) (l : List BayId) : (s.settle n l).time = s.time := by
  refine settle_keeps (fun t => t.time = s.time) ?_ ?_ ?_ n l s rfl
  · intro t b h; simpa using h
  · intro t u h ht; obtain ⟨_, q, m, used, _, _, rfl⟩ := engineTake_started ht; simpa using h
  · intro t u r reason h ht; obtain ⟨_, q, _, _, _, rfl⟩ := engineTake_ended ht; simpa using h

@[simp] theorem work_time (s : State) (l : List BayId) : (s.work l).time = s.time := settle_time s _ l

@[simp] theorem settle_clock (s : State) (n : Nat) (l : List BayId) : (s.settle n l).clock = s.clock := by
  refine settle_keeps (fun t => t.clock = s.clock) ?_ ?_ ?_ n l s rfl
  · intro t b h; simpa using h
  · intro t u h ht; obtain ⟨_, q, m, used, _, _, rfl⟩ := engineTake_started ht; simpa using h
  · intro t u r reason h ht; obtain ⟨_, q, _, _, _, rfl⟩ := engineTake_ended ht; simpa using h

@[simp] theorem work_clock (s : State) (l : List BayId) : (s.work l).clock = s.clock := settle_clock s _ l

@[simp] theorem settle_lastAdvance (s : State) (n : Nat) (l : List BayId) : (s.settle n l).lastAdvance = s.lastAdvance := by
  refine settle_keeps (fun t => t.lastAdvance = s.lastAdvance) ?_ ?_ ?_ n l s rfl
  · intro t b h; simpa using h
  · intro t u h ht; obtain ⟨_, q, m, used, _, _, rfl⟩ := engineTake_started ht; simpa using h
  · intro t u r reason h ht; obtain ⟨_, q, _, _, _, rfl⟩ := engineTake_ended ht; simpa using h

@[simp] theorem work_lastAdvance (s : State) (l : List BayId) : (s.work l).lastAdvance = s.lastAdvance := settle_lastAdvance s _ l

@[simp] theorem settle_enclosure (s : State) (n : Nat) (l : List BayId) : (s.settle n l).enclosure = s.enclosure := by
  refine settle_keeps (fun t => t.enclosure = s.enclosure) ?_ ?_ ?_ n l s rfl
  · intro t b h; simpa using h
  · intro t u h ht; obtain ⟨_, q, m, used, _, _, rfl⟩ := engineTake_started ht; simpa using h
  · intro t u r reason h ht; obtain ⟨_, q, _, _, _, rfl⟩ := engineTake_ended ht; simpa using h

@[simp] theorem work_enclosure (s : State) (l : List BayId) : (s.work l).enclosure = s.enclosure := settle_enclosure s _ l

@[simp] theorem settle_checks_profiles (s : State) (n : Nat) (l : List BayId) : (s.settle n l).checks.profiles = s.checks.profiles := by
  refine settle_keeps (fun t => t.checks.profiles = s.checks.profiles) ?_ ?_ ?_ n l s rfl
  · intro t b h; simpa using h
  · intro t u h ht; obtain ⟨_, q, m, used, _, _, rfl⟩ := engineTake_started ht; simpa using h
  · intro t u r reason h ht; obtain ⟨_, q, _, _, _, rfl⟩ := engineTake_ended ht; simpa using h

@[simp] theorem work_checks_profiles (s : State) (l : List BayId) : (s.work l).checks.profiles = s.checks.profiles := settle_checks_profiles s _ l

@[simp] theorem settle_window (s : State) (n : Nat) (l : List BayId) : (s.settle n l).window = s.window := by
  refine settle_keeps (fun t => t.window = s.window) ?_ ?_ ?_ n l s rfl
  · intro t b h; simpa using h
  · intro t u h ht; obtain ⟨_, q, m, used, _, _, rfl⟩ := engineTake_started ht; simpa using h
  · intro t u r reason h ht; obtain ⟨_, q, _, _, _, rfl⟩ := engineTake_ended ht; simpa using h

@[simp] theorem work_window (s : State) (l : List BayId) : (s.work l).window = s.window := settle_window s _ l

@[simp] theorem settle_profiles (s : State) (n : Nat) (l : List BayId) : (s.settle n l).profiles = s.profiles := by
  refine settle_keeps (fun t => t.profiles = s.profiles) ?_ ?_ ?_ n l s rfl
  · intro t b h; simpa using h
  · intro t u h ht; obtain ⟨_, q, m, used, _, _, rfl⟩ := engineTake_started ht; simpa using h
  · intro t u r reason h ht; obtain ⟨_, q, _, _, _, rfl⟩ := engineTake_ended ht; simpa using h

@[simp] theorem work_profiles (s : State) (l : List BayId) : (s.work l).profiles = s.profiles := settle_profiles s _ l

@[simp] theorem settle_portA (s : State) (n : Nat) (l : List BayId) : (s.settle n l).portA = s.portA := by
  refine settle_keeps (fun t => t.portA = s.portA) ?_ ?_ ?_ n l s rfl
  · intro t b h; simpa using h
  · intro t u h ht; obtain ⟨_, q, m, used, _, _, rfl⟩ := engineTake_started ht; simpa using h
  · intro t u r reason h ht; obtain ⟨_, q, _, _, _, rfl⟩ := engineTake_ended ht; simpa using h

@[simp] theorem work_portA (s : State) (l : List BayId) : (s.work l).portA = s.portA := settle_portA s _ l

@[simp] theorem settle_portB (s : State) (n : Nat) (l : List BayId) : (s.settle n l).portB = s.portB := by
  refine settle_keeps (fun t => t.portB = s.portB) ?_ ?_ ?_ n l s rfl
  · intro t b h; simpa using h
  · intro t u h ht; obtain ⟨_, q, m, used, _, _, rfl⟩ := engineTake_started ht; simpa using h
  · intro t u r reason h ht; obtain ⟨_, q, _, _, _, rfl⟩ := engineTake_ended ht; simpa using h

@[simp] theorem work_portB (s : State) (l : List BayId) : (s.work l).portB = s.portB := settle_portB s _ l

end Sys2Proof.Machine
end

