-- ==== Sys2Proof/Laws/Ops.lean ====
section
/-! SUPPORT. For the shared operations, once each, what they can do: the arrival of a request, its reading and its answer, the
arbiter, the REJECTs, the engine's take and the rounds of internal work, and the waiting appends. -/

namespace Sys2Proof.Machine

/-! ### Codes and operands -/

@[simp] theorem requestCode_ofByte_code (c : RequestCode) : RequestCode.ofByte c.code = some c := by cases c <;> rfl

@[simp] theorem readBay_finByte (b : BayId) : readBay [finByte b] = some b := by revert b; decide

@[simp] theorem readEntry_finByte (e : EntryId) : readEntry [finByte e] = some e := by revert e; decide

@[simp] theorem readSlot_finByte (k : SlotId) : readSlot [finByte k] = some k := by revert k; decide

theorem readSeconds_none {args : List Byte} (h : args.length ≠ 4) : readSeconds args = none := by
  unfold readSeconds; split <;> simp_all

theorem readCount_none {args : List Byte} (h : args.length ≠ 1) : readCount args = none := by
  unfold readCount; split <;> simp_all

theorem readMinutes_none {args : List Byte} (h : args.length ≠ 2) : readMinutes args = none := by
  unfold readMinutes; split <;> simp_all

/-! ### Events and requests -/

/-- An event of a powered unit. -/
theorem event_powered (f : State → State) {s : State} (h : s.powered = true) : event f s = .next (f s).beginFrame := by
  simp [event, h]

/-- An event of an unpowered unit does nothing. -/
theorem event_unpowered (f : State → State) {s : State} (h : s.powered = false) : event f s = .next s := by
  simp [event, h]

/-- A request that arrives on an idle link is taken by its owner in the same event (R171). -/
theorem request_idle {s : State} (h : LinkIdle s) (c : RequestCode) (tag : Byte) (args : List Byte) :
    request c tag args s = .next ((s.holding c tag args).takeRequest c args).beginFrame := by
  obtain ⟨hp, hs, hq, hh⟩ := h
  simp [request, event, State.requestArrives, State.giveHead, hp, hs, hq, hh, Config.requestPlaces, State.holding]

/-- The answer to the request just taken on an idle link. -/
theorem answer_holding (s : State) (c : RequestCode) (tag : Byte) (args : List Byte) (code : ResultCode)
    (contents : List Byte) :
    ((s.holding c tag args).answer code contents).beginFrame = s.answered c tag args code contents := by
  simp [State.holding, State.answer, State.answered]

/-- An answer to a head with its owner. -/
theorem answer_withOwner {s : State} {r : Request} {rest : List Request} (code : ResultCode) (contents : List Byte)
    (hh : s.link.head = .withOwner) (hq : s.link.queue = r :: rest) :
    s.answer code contents =
      { s with link := { s.link with head := .replyReady
                                     waiting := s.link.waiting ++ [.reply r.tag (code.code :: contents)] } } := by
  simp [State.answer, hh, hq]

/-- An answer where no head is with its owner does nothing. -/
theorem answer_other {s : State} (code : ResultCode) (contents : List Byte) (hh : s.link.head ≠ .withOwner) :
    s.answer code contents = s := by
  unfold State.answer; split <;> simp_all

/-! ### The outgoing direction -/

/-- The arbiter begins the notice, or the frame that waits first, or nothing (R172). -/
theorem beginFrame_cases (s : State) :
    s.beginFrame = s ∨
      (s.link.sending = none ∧ s.link.noticeWanted = true ∧
        s.beginFrame = { s with link := { s.link with noticeWanted := false, sending := some (.notice s.noticeBody) } }) ∨
      (s.link.sending = none ∧ s.link.noticeWanted = false ∧
        ((∃ tag code rest, s.link.waiting = .reject tag code :: rest ∧
            s.beginFrame = { s with link := { s.link with waiting := rest, sending := some (.reject tag code) } }) ∨
          ∃ tag body rest, s.link.waiting = .reply tag body :: rest ∧
            s.beginFrame = { s with link := { s.link with waiting := rest, sending := some (.reply tag body) } })) := by
  unfold State.beginFrame
  split
  · exact .inl rfl
  · next hs =>
    split
    · next hn => exact .inr (.inl ⟨hs, hn, rfl⟩)
    · next hn =>
      have hn : s.link.noticeWanted = false := by simpa using hn
      split
      · exact .inl rfl
      · next tag code rest hw => exact .inr (.inr ⟨hs, hn, .inl ⟨tag, code, rest, hw, rfl⟩⟩)
      · next tag body rest hw => exact .inr (.inr ⟨hs, hn, .inr ⟨tag, body, rest, hw, rfl⟩⟩)

/-- While a frame is being sent the arbiter begins none. -/
theorem beginFrame_sending {s : State} (h : s.link.sending.isSome = true) : s.beginFrame = s := by
  unfold State.beginFrame; split
  · rfl
  · simp_all

/-- After the arbiter has begun a frame, or found none, it begins no further one. -/
@[simp] theorem beginFrame_beginFrame (s : State) : s.beginFrame.beginFrame = s.beginFrame := by
  rcases beginFrame_cases s with h | ⟨_, _, h⟩ | ⟨_, _, ⟨_, _, _, _, h⟩ | ⟨_, _, _, _, h⟩⟩
  · rw [h]; exact h
  all_goals rw [h]; exact beginFrame_sending rfl

/-- A REJECT joins the list, or is dropped while the list holds 4 (R169). -/
theorem placeReject_cases (tag : Byte) (code : ResultCode) (s : State) :
    (s.link.rejects < 4 ∧
      s.placeReject tag code = { s with link := { s.link with waiting := s.link.waiting ++ [.reject tag code] } }) ∨
    (4 ≤ s.link.rejects ∧ s.placeReject tag code = s) := by
  unfold State.placeReject Config.rejectPlaces; split
  · next h => exact .inl ⟨h, rfl⟩
  · next h => exact .inr ⟨by omega, rfl⟩

/-! ### The cipher engine and internal work -/

/-- A quiet engine takes nothing (R103). -/
theorem engineTake_quiet {s : State} (h : EngineQuiet s) : s.engineTake = .nothing := by
  unfold State.engineTake Cipher.choice
  rcases h with h | ⟨hq, _⟩
  · cases hr : s.cipher.running <;> simp_all
  · cases hr : s.cipher.running <;> simp_all

/-- With nothing to take and no bay to advance, internal work is over. -/
theorem settle_nil {s : State} (n : Nat) (h : s.engineTake = .nothing) : s.settle n [] = s := by
  cases n <;> simp [State.settle, h]

/-- Internal work that concerns one bay, where the engine takes nothing afterwards. -/
theorem work_one {s : State} {b : BayId} (h : (s.advance b).engineTake = .nothing) : s.work [b] = s.advance b := by
  unfold State.work Config.settleBound
  rw [State.settle]
  exact settle_nil _ h

/-- Placing a request: in the queue, or at the end of the waiting list (R100, R101). -/
theorem place_cases (job : CipherJob) (urgent : Bool) (c : Cipher) :
    (c.admits job = true ∧ c.place job urgent = { c with queue := c.queue ++ [{ job := job, urgent := urgent }] }) ∨
    (c.admits job = false ∧ c.place job urgent = { c with waiting := c.waiting ++ [{ job := job, urgent := urgent }] }) := by
  unfold Cipher.place; split
  · next h => exact .inl ⟨h, rfl⟩
  · next h => exact .inr ⟨by simpa using h, rfl⟩

/-- With no request waiting an examination changes nothing (R101). -/
theorem examine_nil {c : Cipher} (h : c.waiting = []) : c.examine = c := by
  unfold Cipher.examine; rw [h]; cases c; simp_all [Cipher.examineFrom]

/-! ### Records -/

/-- A TERMINAL append is made at once, or waits (R153, R154). -/
theorem requestAppend_cases (b : BayId) (a : Addr) (r : TerminalRecord) (s : State) :
    (s.room = true ∧ s.report.waiting = [] ∧
      s.requestAppend b a r = (s.appendRecord (.terminal r)).markAppended b a) ∨
    ((s.room = false ∨ s.report.waiting ≠ []) ∧
      s.requestAppend b a r =
        { s with report := { s.report with waiting := s.report.waiting ++ [{ bay := b, addr := a, record := r }] } }) := by
  unfold State.requestAppend; split
  · next h => exact .inl ⟨by simp_all, by simp_all, rfl⟩
  · next h =>
    refine .inr ⟨?_, rfl⟩
    cases hr : s.room
    · exact .inl rfl
    · exact .inr (by simpa [hr] using h)

end Sys2Proof.Machine
end

