-- ==== Sys2Proof/Laws/Terminal.lean ====
section
/-! SUPPORT. The lapse timer and the frames that restart it (R47). Contention: parties of one unit show, period by period, what
`contend` says of their bits, and parties that send the same symbols look like one (R41, R42). -/

namespace Sys2Proof.Machine

/-! ### The lapse timer (R47) -/

@[simp] theorem Terminal.restart_restarted (t : Terminal) (now : Nat) : (t.restart now).restarted = now := rfl

/-- Taking a key leaves the lapse timer as it is (R48). -/
@[simp] theorem Terminal.takeKey_restarted (t : Terminal) (tag : Byte) (gen : Generation) (wrapped : Key) :
    (t.takeKey tag gen wrapped).1.restarted = t.restarted := by
  simp only [Terminal.takeKey]; split_ifs <;> rfl

/-- Taking a COMMIT leaves the lapse timer as it is (R49). -/
@[simp] theorem Terminal.takeCommit_restarted (t : Terminal) (list : List (Byte × Generation)) :
    (t.takeCommit list).1.restarted = t.restarted := by
  simp only [Terminal.takeCommit]; split_ifs <;> rfl

/-- An ENROL carrying the terminal's serial restarts its lapse timer, whatever address it offers (R46, R47). -/
theorem Terminal.hearEnrol_restarted (t : Terminal) (now : Nat) (f : LineFrame)
    (h : f.body.take 8 = wordBytes 8 t.serial) : (t.hearEnrol now f).1.restarted = now := by
  rw [Terminal.hearEnrol, if_pos h]; repeat' split
  all_goals rfl

/-- An ENROL carrying another serial is ignored (R46). -/
theorem Terminal.hearEnrol_other (t : Terminal) (now : Nat) (f : LineFrame)
    (h : f.body.take 8 ≠ wordBytes 8 t.serial) : t.hearEnrol now f = (t, none) := by
  rw [Terminal.hearEnrol, if_neg h]

/-- A KEY to the terminal's address restarts its lapse timer, whatever its body (R47). -/
@[simp] theorem Terminal.hearKey_restarted (t : Terminal) (now : Nat) (body : List Byte) :
    (t.hearKey now body).1.restarted = now := by
  unfold Terminal.hearKey; repeat' split
  all_goals simp

/-- Every KEY, COMMIT, POLL and DISMISS heard that carries the address of an ENROLLED terminal restarts its lapse timer (R47). -/
theorem Terminal.hear_restarts (t : Terminal) (now : Nat) (f : LineFrame) (a : Addr) (hs : t.state = .enrolled a)
    (ha : f.addr = a.val + 1) (hk : f.kind ∈ [FrameKind.key, .commit, .poll, .dismiss]) :
    (t.hear now f).1.restarted = now := by
  simp only [List.mem_cons, List.not_mem_nil, or_false] at hk
  rcases hk with hk | hk | hk | hk <;> simp [Terminal.hear, hs, hk, ha]

/-- ROLL_CALL, RATE and an ENROL for another serial do not restart the lapse timer of an ENROLLED terminal (R47). -/
theorem Terminal.hear_broadcast (t : Terminal) (now : Nat) (f : LineFrame) (a : Addr) (hs : t.state = .enrolled a)
    (hk : f.kind = .rollCall ∨ f.kind = .rate ∨ f.kind = .enrol ∧ f.body.take 8 ≠ wordBytes 8 t.serial) :
    (t.hear now f).1.restarted = t.restarted := by
  rcases hk with hk | hk | ⟨hk, hb⟩
  · simp [Terminal.hear, hs, hk]
  · simp only [Terminal.hear, hs, hk, Terminal.hearRate]; split_ifs <;> rfl
  · simp [Terminal.hear, hs, hk, t.hearEnrol_other now f hb]

/-! ### Contention (R41, R42) -/

/-- A bit's own symbol is measured as that bit by a party of the same unit (R54, R58). -/
theorem classBit_bitUnits (active b : Bool) {u : Nat} (hu : 0 < u) :
    classBit active (classify u (bitUnits active b * u)) = some b := by
  cases active <;> cases b <;> simp [bitUnits, classify] <;> split_ifs <;> first | rfl | omega

/-- On either level the symbol of two bits of one unit is the symbol of a 1 where either is a 1 (R41). -/
theorem jointLength_two (active a b : Bool) (u : Nat) :
    (if active then max else min) (bitUnits active a * u) (bitUnits active b * u) = bitUnits active (a || b) * u := by
  cases active <;> cases a <;> cases b <;> simp [bitUnits]

theorem foldl_jointLength (active : Bool) (u : Nat) (l : List Bool) : ∀ a : Bool,
    (l.map (fun b => bitUnits active b * u)).foldl (if active then max else min) (bitUnits active a * u) =
      bitUnits active (a || l.any id) * u := by
  induction l with
  | nil => simp
  | cons b l ih => intro a; rw [List.map_cons, List.foldl_cons, jointLength_two, ih]; simp [Bool.or_assoc]

/-- Parties of one unit that contend show the symbols of the bits that `contend` has prevail (R41, R42). -/
theorem contest_common {u : Nat} (hu : 0 < u) (n : Nat) : ∀ (active : Bool) (parties : List (List Bool)), parties ≠ [] →
    contest n active (parties.map (fun p => (u, p))) = bitPeriods u active (contend n parties) := by
  induction n with
  | zero => intro active parties _; rfl
  | succ n ih =>
    intro active parties hne
    obtain ⟨p, ps, rfl⟩ := List.exists_cons_of_ne_nil hne
    have hd : jointLength active (((p :: ps).map (fun q => (u, q))).map (fun x => bitUnits active (x.2.headD false) * x.1)) =
        bitUnits active ((p :: ps).any (fun q => q.headD false)) * u := by
      have h := foldl_jointLength active u (ps.map (fun q => q.headD false)) (p.headD false)
      simpa [jointLength, List.map_map, Function.comp_def, List.any_map] using h
    have hstay : ∀ q ∈ p :: ps, staysIn active (bitUnits active ((p :: ps).any (fun q => q.headD false)) * u) (u, q) =
        (q.headD false == (p :: ps).any (fun q => q.headD false)) := by
      intro q hq
      rw [staysIn, classBit_bitUnits active _ hu]
      cases hb : q.headD false
      · cases (p :: ps).any (fun q => q.headD false) <;> rfl
      · rw [List.any_eq_true.2 ⟨q, hq, hb⟩]; rfl
    have hsome : (p :: ps).filter (fun q => q.headD false == (p :: ps).any (fun q => q.headD false)) ≠ [] := by
      rw [Ne, List.filter_eq_nil_iff]
      intro h
      cases hb : (p :: ps).any (fun q => q.headD false)
      · rw [hb] at h
        have := List.any_eq_false.1 hb p (by simp)
        exact h p (by simp) (by simpa using this)
      · obtain ⟨q, hq, hqt⟩ := List.any_eq_true.1 hb
        exact h q hq (by rw [hb, hqt]; rfl)
    have hrest : (((p :: ps).map (fun q => (u, q))).filter
          (staysIn active (bitUnits active ((p :: ps).any (fun q => q.headD false)) * u))).map (fun x => (x.1, x.2.tail)) =
        (((p :: ps).filter (fun q => q.headD false == (p :: ps).any (fun q => q.headD false))).map List.tail).map
          (fun q => (u, q)) := by
      rw [List.filter_map, List.map_map, List.map_map,
        List.filter_congr (q := fun q => q.headD false == (p :: ps).any (fun q => q.headD false)) hstay]
      rfl
    have hi := ih (!active) _ (by simpa using hsome : ((p :: ps).filter
      (fun q => q.headD false == (p :: ps).any (fun q => q.headD false))).map List.tail ≠ [])
    rw [contend, bitPeriods, ← hi, ← hrest, ← hd]
    rfl

/-- The symbol of parties that all send it for `d` ticks lasts `d` ticks (R42). -/
theorem jointLength_replicate (active : Bool) (d n : Nat) : jointLength active (d :: List.replicate n d) = d := by
  induction n with
  | zero => rfl
  | succ n ih => cases active <;> simpa [jointLength, List.replicate_succ] using ih

/-- Parties of one unit that send the same symbols look like one of them alone (R42). -/
theorem together_identical (u n : Nat) (ks : List Nat) : ∀ active : Bool,
    together ks.length active (List.replicate (n + 1) (u, ks)) = ks.map (· * u) := by
  induction ks with
  | nil => intro active; rfl
  | cons k ks ih =>
    intro active
    have h := ih (!active)
    rw [List.replicate_succ] at h
    simp [together, List.replicate_succ, jointLength_replicate, h]

end Sys2Proof.Machine
end

