-- ==== Sys2Proof/WellFormed.lean ====
section
/-! DEFINITION. Which commands can reach the KT12 at all: request bodies that a station frame can carry, runs of bytes
that are not empty, and line periods of at least one tick. A command outside this still has its meaning in exec. -/

namespace Sys2Proof

/-- A station-link body is at most 512 bytes, the request code included (R165). -/
def argsFit (args : List Byte) : Bool := args.length ≤ 511

/-- A period lies between two changes of level, so it lasts at least a tick (R57). -/
def periodsPositive (periods : List Nat) : Bool := periods.all (0 < ·)

/-- A run of bytes that completes a frame has at least its last byte. -/
def bytesPresent (bytes : List Byte) : Bool := !bytes.isEmpty

/-- The commands that can occur. -/
def wellFormed : Instr → Bool
  | .batchStart _ args | .batchAbort _ args | .bayStatus _ args | .bayReset _ args | .lineTest _ args
  | .profileWrite _ args | .profileRead _ args | .profileEnable _ args | .profileDisable _ args
  | .profileClear _ args | .keyInfo _ args | .keyAssemble _ args | .keyImport _ args | .keyRetire _ args
  | .keyErase _ args | .tokenStatus _ args | .windowOpen _ args | .windowClose _ args | .recordsFetch _ args
  | .timeSet _ args | .status _ args | .tamperClear _ args | .restart _ args => argsFit args
  | .frameReceived bytes => bytesPresent bytes
  | .rollCallEnded _ shown | .enrolEnded _ shown | .keyEnded _ shown | .commitEnded _ shown
  | .pollEnded _ shown | .readTokenEnded _ shown => periodsPositive shown
  | .lineTestFrameEnded _ _ echo => periodsPositive echo
  | .bayPowerOn .. | .bayPowerOff .. | .frameLengthFault _ | .receiveGapTimeout | .outgoingFrameSent | .lineFree _
  | .dataEndPassed _ | .answerLimit _ | .rateEnded _ | .dismissEnded _ | .pollDue .. | .rollCallDue _
  | .resendDelayExpired _ | .lineStuckPassive _ | .echoMismatch _ | .lineHeldActive _ | .lineResetEnded _
  | .lineLevelChange .. | .quietCountReached _ | .powerTimeout _ | .overCurrent _ | .transportComplete
  | .prepareComplete | .checkComplete | .importComplete | .presenceContactCloses _ | .presenceContactOpens _
  | .settlingTimeExpires _ | .readTokenResendDue _ | .clockAdvance | .windowExpiry | .enclosureInputActive _
  | .enclosureInputInactive _ | .powerOn _ | .powerLoss | .stationByteReceived _ => true

end Sys2Proof
end

