-- ==== Sys2Proof/Tests/Slice0.lean ====
section
/-! SUPPORT. The author's tests: the well-formedness smoke, the manual's worked figures, one small step of each command, and
for every statement with hypotheses a concrete state and operands that meet them. Expected values are the manual's, from the
rule each name or comment gives. -/

set_option Elab.async false

namespace Sys2Proof.Tests

open Sys2Proof Sys2Proof.Machine

/-! ### Small states -/

/-- A property of the state a command leaves. -/
def after (c : Instr) (s : State) (p : State → Bool) : Bool :=
  match exec c s with
  | .next t => p t
  | _ => false

/-- The unit after start-up with the first notice sent and reported. -/
def unit : State := { State.reset with link := coldLink, notice := { flags := noFlags, armed := true } }

/-- The body being sent. -/
def sent (s : State) : List Byte :=
  match s.link.sending with
  | some f => f.parts.2.2
  | none => []

def tokenA : Token := { id := 0xA10017, role := .custodianA, component := some (0x0F#128, 0x111111#24) }
def tokenB : Token := { id := 0xB20009, role := .custodianB, component := some (0xF0#128, 0x222222#24) }

/-- Both tokens read. -/
def seated : State :=
  { unit with portA := { emptyPort with contact := true, state := .read tokenA }
              portB := { emptyPort with contact := true, state := .read tokenB } }

def info (k : KeyKind) : KeyInfo := { kind := k, gen := 3, check := 0, origin := .assembled, uses := 7, label := 0 }

def active (k : KeyKind) (key : Key) : Slot := { lastGen := 3, content := .active (info k) key }

def prof : Profile :=
  { priority := 8, mask := 0xFFFF000000000000#64, value := 0x534B000000000000#64, transportSlot := 29, parity := .none
    ahead := false, label := 0, keySet := [{ tag := 1, action := .derive 11 }, { tag := 2, action := .keep }] }

/-- The window open, slot 30 a TRANSPORT_BASE, slot 12 a BASE, slot 20 a TRANSFER, entry 9 ENABLED. -/
def keyed : State :=
  (((({ seated with window := some 900 } : State).setSlot 29 (active .transportBase 5)).setSlot 11 (active .base 6)).setSlot
    19 (active .transfer 7)).setEntry 8 (.stored true prof)

def serialM : Serial := 0x534B313300004000#64
def serialN : Serial := 0x534B313200004107#64

def ctx (a : Addr) (serial : Serial) (ph : Phase) : Context := { newContext a serial true (some 8) 2 0 with phase := ph }

/-- A bay with its supply on. -/
def bayIn (x : BayState) : Bay := { coldBay with state := x, supply := true }

def withBay (x : Bay) : State := keyed.setBay 0 x

def ready : State := withBay (bayIn .ready)

/-- A bay in POWERING whose line went passive at 0 and active at 30. -/
def interrupted : State :=
  withBay { bayIn .powering with line := { idleLine with active := true, changes := [30, 0] } }

/-- A bay as BATCH_ABORT leaves it, a frame in flight. -/
def aborting (x : Bay) : Bay := { x with state := .stopping, batch := { x.batch with stopCause := some .aborted } }

/-- A frame in flight. -/
def flying (f : LineFrame) (passed : Bool) (x : Bay) : Bay :=
  { x with line := { x.line with tx := .frame f .standard 0 passed, free := false } }

/-- A bay in ROLLING with a ROLL_CALL in flight. -/
def rolling (cs : List Context) : Bay :=
  flying rollCallFrame true { bayIn .rolling with roll := .rollCall none, contexts := cs }

/-- A bay in ROLLING with an ENROL in flight. -/
def enrolling (cs : List Context) (a : Addr) (n : Nat) : Bay :=
  flying (enrolFrame serialM a) true { bayIn .rolling with roll := .enrol serialM true a n none, contexts := cs }

def result : Prepared := { wrapped := 1, check := 2, tag := 1, gen := 3 }

/-- A bay in LOADING whose first context is in hand. -/
def loading (c : Context) (rest : List Context) : Bay :=
  { bayIn .loading with contexts := c :: rest, batch := { noBatch with number := 9, enrolled := 1, hand := some c.addr }
                        buffers := [.holds c.addr 1 result, .free] }

/-- The engine busy with the CHECK of a token. -/
def busy (s : State) : State :=
  { s with cipher := { s.cipher with
      running := some { job := .portCheck .a 1, urgent := false, withdrawn := false, material := .none } } }

def confirmedCtx : Context :=
  { ctx 0 serialM .committing with confirmed := [some { check := 2, gen := 3 }, none], attemptsTotal := 1 }

def keying : State := busy (withBay (flying (keyFrame 0 result) true (loading (ctx 0 serialM .loading) [])))
def committing : State := busy (withBay (flying (commitFrame confirmedCtx prof) true (loading confirmedCtx [])))

def ans (len : List Byte) : List Nat := answerPeriods 40 40 len

/-- A record. -/
def rec (n : Nat) : Record := { number := BitVec.ofNat 32 n, time := 0, body := .windowOpen 1 2 15 900 }

/-- A report queue of a number of records. -/
def queued (n : Nat) (s : State) : State :=
  { s with report := { s.report with records := (List.range n).map (fun i => rec (i + 1)), recordCounter := BitVec.ofNat 32 n } }

def bodies (s : State) : List RecordBody := s.report.records.map (·.body)

/-! ### Well-formedness: each check refuses an ill-formed command -/

theorem test_wellFormed_longBody : wellFormed (.batchStart 1 (List.replicate 512 0)) = false := by decide +kernel
theorem test_wellFormed_noBytes : wellFormed (.frameReceived []) = false := by decide +kernel
theorem test_wellFormed_zeroPeriod : wellFormed (.keyEnded 0 [320, 0]) = false := by decide +kernel
theorem test_wellFormed_good : wellFormed (.batchStart 1 [1, 0, 4]) = true := by decide +kernel
theorem test_decode_noBits : decodeTableWord 8 0x2A = none := rfl
theorem test_fetch_unchanged : unit.withFetchWord 16 5 = unit := rfl
theorem test_core_step : Sys2Proof.core.step = Sys2Proof.Machine.step := rfl

/-! ### The manual's worked figures -/

theorem test_crc8_poll : (bareFrame .poll 1).bytes = [0x62#8, 0xDA#8] := by decide +kernel
theorem test_crc8_rollCall : rollCallFrame.bytes = [0x10#8, 0x83#8] := by decide +kernel
theorem test_crc8_testFrame : testFrame.bytes = [0x60#8, 0xD4#8] := by decide +kernel
theorem test_crc8_readToken : readTokenFrame.bytes = [0x80#8, 0x7A#8] := by decide +kernel
/-- R71: 70U to the frame end of the test frame, 68U to the end of its data end. -/
theorem test_testFrame_length : testFrame.ticks 40 = 68 * 40 := by decide +kernel
/-- 12.2: an overlapping mark of 164 ticks is an answer mark with u = 41; a short bit then runs from 61 to 122. -/
theorem test_calibrate_164 : calibrate .standard 164 = .answer 41 := by decide +kernel
theorem test_classify_61 : classify 41 61 = .short ∧ classify 41 122 = .short ∧ classify 41 60 = .symbolError := by decide +kernel
/-- R57: 25 ticks active inside a passive bit is longer than the glitch threshold of 20: a passive period of 30 ticks. -/
theorem test_glitch_kept : passiveRun 20 30 [25, 90, 5] = (some 30, [25, 90, 5]) := by decide +kernel
theorem test_glitch_merged : passiveRun 20 30 [19, 90, 40] = (some 139, [40]) := by decide +kernel
/-- R41, R42: P and Q contend; Q's byte 3 is greater. -/
theorem test_contention : contend 64 [serialBits serialN, serialBits serialM] = serialBits serialM := by decide +kernel
/-- R109: 0x00 becomes 0x01, 0x01 stays, 0xFE has seven ones and stays, 0xFF becomes 0xFE. -/
theorem test_oddByte : [0x00#8, 0x01#8, 0xFE#8, 0xFF#8].map oddByte = [0x01#8, 0x01#8, 0xFE#8, 0xFE#8] := by decide +kernel
/-- R107: the derivation block of N, tag 2, generation 5. -/
theorem test_derivationBlock :
    derivationBlock serialN 2 5 = 0x534B313200004107020005ACB4CECD01#128 := by decide +kernel
/-- R55: the gap of 12U at STANDARD, 480 ticks. -/
theorem test_gap : ({ idleLine with free := false } : LineEnd).gapRun 479 = false ∧
    ({ idleLine with free := false } : LineEnd).gapRun 480 = true := by decide +kernel
/-- R67: 16U at STANDARD, 640 ticks, from the start of the active period or from the arming of the watch. -/
theorem test_held : ({ idleLine with active := true, changes := [0] } : LineEnd).held 639 = false ∧
    ({ idleLine with active := true, changes := [0] } : LineEnd).held 640 = true ∧
    ({ idleLine with active := true, changes := [0], armedAt := 100 } : LineEnd).held 739 = false := by decide +kernel
/-- R65: a line passive for U ticks from the first drive, and one that goes passive for 20 ticks while driven. -/
theorem test_stuckPassive : ({ idleLine with tx := .frame rollCallFrame .standard 0 false } : LineEnd).echoFault 39 = none ∧
    ({ idleLine with tx := .frame rollCallFrame .standard 0 false } : LineEnd).echoFault 40 = some .stuckPassive ∧
    ({ idleLine with tx := .reset 0, changes := [90, 0, 0] } : LineEnd).echoFault 110 = some .stuckPassive := by decide +kernel
/-- R65, R66: a break that began while the line was released is no stuck line; that period is too short for its symbol. -/
theorem test_breakBeforeDrive : frameEcho 40 240 rollCallFrame 0 [320, 120, 20, 19] = none ∧
    frameEcho 40 240 rollCallFrame 0 [320, 120, 20, 20] = some .echoMismatch ∧
    frameEcho 40 240 rollCallFrame 0 [320, 160, 20, 20] = some .stuckPassive := by decide +kernel
/-- R143: a token that goes on holding its line active is reported at 16U and not again. -/
theorem test_tokenHeldOnce :
    let q : Port := { emptyPort with line := { idleLine with free := false, active := true, changes := [0] } }
    q.watched 640 = true ∧ q.line.held 640 = true ∧ ({ q with line := q.line.faulted 640 } : Port).watched 1119 = true ∧
      ({ q with line := q.line.faulted 640 } : Port).watched 1120 = false ∧ (q.line.faulted 640).held 1279 = false := by decide +kernel
/-- R56, R66: the drive of 1,200 ticks, and a line still active 20 ticks after the release. -/
theorem test_resetEcho : ({ idleLine with tx := .reset 0, active := true } : LineEnd).driving 1199 = true ∧
    ({ idleLine with tx := .reset 0, active := true } : LineEnd).driving 1200 = false ∧
    ({ idleLine with tx := .reset 0, active := true } : LineEnd).echoFault 1219 = none ∧
    ({ idleLine with tx := .reset 0, active := true } : LineEnd).echoFault 1220 = some .echoMismatch := by decide +kernel
/-- R65, R66: on a line at FAST rate a line reset is stuck passive after 10 ticks and by a break of 5, and is to be passive 20 ticks
after the release. -/
theorem test_resetEcho_fast :
    let l : LineEnd := { idleLine with tx := .reset 0, rate := .fast }
    l.echoFault 9 = none ∧ l.echoFault 10 = some .stuckPassive ∧ ({ l with changes := [90, 0, 0] } : LineEnd).echoFault 94 = none ∧
      ({ l with changes := [90, 0, 0] } : LineEnd).echoFault 95 = some .stuckPassive ∧
      ({ l with active := true } : LineEnd).echoFault 1219 = none ∧
      ({ l with active := true } : LineEnd).echoFault 1220 = some .echoMismatch := by decide +kernel
/-- R45: a frame is heard at its rate and after a full data end of 8U, and not before. -/
theorem test_heardFrame :
    heardFrame .standard 40 ((bareFrame .poll 1).periods 40).dropLast 320 = some (bareFrame .poll 1) ∧
      heardFrame .standard 40 ((bareFrame .poll 1).periods 40).dropLast 319 = none ∧
      heardFrame .fast 10 ((bareFrame .poll 1).periods 40).dropLast 320 = none := by decide +kernel
/-- R41: a deferral mark of 6U prevails over an answer mark of 4U. -/
theorem test_rollCallShown : rollCallShown 40 [(40, .answer (wordBytes 8 serialM ++ [1])), (40, .deferral)] = [320, 240] := by
  decide +kernel
/-- R42: two terminals of one serial that give a frame one answer are read as one clean answer, with any units of the calibration
range; with another answer or a deferral beside it, the answer is garbled. -/
theorem test_repliesShown :
    repliesShown 40 .poll [(40, .answer [4]), (40, .answer [4])] = (Reply.answer [4]).shown 40 40 ∧
      judgeAnswer .standard 1 (repliesShown 40 .enrol [(40, .answer [1]), (41, .answer [1])]) = .clean [1] ∧
      judgeAnswer .standard 1 (repliesShown 40 .enrol [(45, .answer [1]), (35, .answer [1])]) = .clean [1] ∧
      judgeAnswer .standard 1 (repliesShown 40 .poll [(40, .answer [4]), (41, .answer [3])]) = .garbled ∧
      judgeAnswer .standard 1 (repliesShown 40 .poll [(40, .answer [4]), (40, .deferral)]) = .garbled := by decide +kernel
/-- R41, R42: of two terminals that answer a ROLL_CALL, each with a unit of its own, the one whose first bit is 1 stays alone. -/
theorem test_contest : contest 3 false [(40, [false, true, true]), (42, [true, true, true])] = [84, 168, 84] ∧
    contest 2 false [(40, [true, true]), (42, [true, true])] = [80, 168] := by decide +kernel
/-- A terminal enrolled at line address 1. -/
def terminalAt1 : Terminal :=
  { serial := serialM, fastCapable := true, working := 9, keeps := [1], demandsOdd := true
    committed := [], uncommitted := [], state := .enrolled 0, rate := .standard, rateNext := none
    restarted := 0, committedSince := false }
/-- R44, R47: a booting terminal holds its line active until it has started up; an addressed DISMISS restarts the lapse timer. -/
theorem test_trayActive :
    let t := terminalAt1
    trayActive [t, t.powerUp] = true ∧ trayChange 0 [t.powerUp] [t.powerUp.booted] = some (.lineLevelChange (.bay 0) false) ∧
      trayChange 0 [t] [t] = none ∧ (t.hear 7 (bareFrame .dismiss 0)).1 = { t with state := .silent, restarted := 7 } := by
  decide +kernel
/-- R46, R47: of two ENROLs of its serial the one that offers address 2 is taken and answered ACCEPT; the one that offers no address
1 to 4 restarts the lapse timer alone (log 53). -/
theorem test_hearEnrol :
    let enrol (a : Byte) : LineFrame := { kind := .enrol, addr := 0, body := wordBytes 8 serialM ++ [a] }
    terminalAt1.hear 7 (enrol 2) = ({ terminalAt1 with state := .enrolled 1, restarted := 7 }, some [0x01#8]) ∧
      terminalAt1.hear 7 (enrol 5) = ({ terminalAt1 with restarted := 7 }, none) := by decide +kernel
theorem test_byteOrder : wordBytes 4 0x12345678#32 = [0x12#8, 0x34#8, 0x56#8, 0x78#8] := by decide +kernel
theorem test_nextNumber : nextNumber 0xFFFFFFFF#32 = 1 ∧ nextNumber 0 = 1 := by decide +kernel

/-! ### One step of each command -/

theorem test_batchStart : after (.batchStart 7 [1, 1, 4]) ready (fun t =>
    (t.bay 0).state == .rolling && (t.bay 0).batch.number == 1 && (t.bay 0).batch.expected == 4 &&
      sent t == [0x00#8, 0, 0, 0, 1]) = true := by decide +kernel
theorem test_batchStart_queueFull : after (.batchStart 7 [1, 1, 4]) (queued 64 ready) (fun t => sent t == [0x0F#8]) = true := by
  decide +kernel
theorem test_batchAbort : after (.batchAbort 7 [1]) (withBay (rolling [])) (fun t =>
    (t.bay 0).state == .stopping && (t.bay 0).line.tx.inFlight && sent t == [0x00#8]) = true := by decide +kernel
theorem test_bayStatus : after (.bayStatus 7 [1]) ready (fun t => (sent t).take 4 == [0x00#8, 0x02, 0x00, 0x01]) = true := by
  decide +kernel
theorem test_bayReset_fault : after (.bayReset 7 [1]) (withBay { coldBay with state := .fault, faultReason := some .overCurrent })
    (fun t => (t.bay 0).state == .off && sent t == [0x00#8, 0x00]) = true := by decide +kernel
/-- 12.4: a BAY_RESET taken in STOPPING cuts the frame, and the stop cause becomes RESET. -/
theorem test_bayReset_stopping : after (.bayReset 7 [1])
    (withBay { rolling [] with state := .stopping, batch := { noBatch with stopCause := some .aborted } })
    (fun t => (t.bay 0).batch.stopCause == some .reset && (t.bay 0).line.tx.isReset) = true := by decide +kernel
theorem test_bayPowerOn : after (.bayPowerOn 7 2) unit (fun t =>
    (t.bay 1).state == .powering && (t.bay 1).supply && (t.bay 1).limitAt == some 5000000) = true := by decide +kernel
theorem test_bayPowerOff_running : after (.bayPowerOff 7 1) (withBay (rolling [])) (fun t => sent t == [0x08#8]) = true := by
  decide +kernel
theorem test_lineTest : after (.lineTest 7 [1]) ready (fun t => (t.bay 0).line.loopback && sent t == []) = true := by
  decide +kernel
theorem test_profileWrite_clamps : after (.profileWrite 7 ([1, 0] ++ List.replicate 7 0 ++ [0xF0] ++ List.replicate 7 0 ++
      [0xFF, 30, 0, 0] ++ List.replicate 8 0x41 ++ [1, 5, 1, 12])) unit
    (fun t => match t.entry 0 with
      | .stored on p => !on && p.priority == 1 && p.value == 0xF0
      | .empty => false) = true := by decide +kernel
theorem test_profileRead_empty : after (.profileRead 7 [24]) unit (fun t => sent t == [0x00#8, 24] ++ List.replicate 31 0) = true := by
  decide +kernel
theorem test_profileEnable_empty : after (.profileEnable 7 [1]) unit (fun t => sent t == [0x00#8, 0x00]) = true := by decide +kernel
theorem test_profileDisable : after (.profileDisable 7 [9]) keyed (fun t => t.entry 8 == .stored false prof && sent t == [0x00#8, 1]) = true := by
  decide +kernel
theorem test_profileClear_inUse : after (.profileClear 7 [9]) (withBay (loading (ctx 0 serialM .loading) []))
    (fun t => sent t == [0x09#8]) = true := by decide +kernel
theorem test_keyInfo : after (.keyInfo 7 [30]) keyed (fun t => (sent t).take 8 == [0x00#8, 30, 1, 0, 3, 2, 0, 3]) = true := by
  decide +kernel
theorem test_keyAssemble_holder : after (.keyAssemble 7 ([1, 1, 0, 1, 9, 9, 9] ++ List.replicate 8 0)) seated (fun t =>
    match t.keys.progress with
    | some (.assembly _ key _ _) => key == 0xFF
    | _ => false) = true := by decide +kernel
theorem test_keyAssemble_stale : after (.keyAssemble 7 ([30, 2, 0, 3, 9, 9, 9] ++ List.replicate 8 0))
    (seated.setSlot 29 { lastGen := 3, content := .empty }) (fun t => sent t == [0x0B#8]) = true := by decide +kernel
theorem test_keyImport_starts : after (.keyImport 7 ([1, 1, 0, 1, 20] ++ List.replicate 16 0 ++ [9, 9, 9] ++ List.replicate 8 0)) keyed
    (fun t => t.cipher.running.isSome && t.keys.progress.isSome) = true := by decide +kernel
theorem test_keyRetire : after (.keyRetire 7 [12]) keyed (fun t =>
    t.slot 11 == { lastGen := 3, content := .retired (info .base) } && t.report.records.length == 1) = true := by decide +kernel
theorem test_keyErase_active : after (.keyErase 7 [12]) keyed (fun t => sent t == [0x0A#8]) = true := by decide +kernel
theorem test_tokenStatus : after (.tokenStatus 7 []) unit (fun t => sent t == List.replicate 17 0) = true := by decide +kernel
theorem test_windowOpen_least : after (.windowOpen 7 [0, 14]) seated (fun t => t.window == some 900) = true := by decide +kernel
theorem test_windowOpen_most : after (.windowOpen 7 [1, 0xE1]) seated (fun t => t.window == some 28800) = true := by decide +kernel
theorem test_windowClose_rolling : after (.windowClose 7 []) (withBay { rolling [] with roll := .rollCall none }) (fun t =>
    t.window == none && (t.bay 0).rollOver) = true := by decide +kernel
/-- 12.5: a fetch of 8. -/
theorem test_recordsFetch : after (.recordsFetch 7 [8]) (queued 59 unit) (fun t =>
    t.report.records.length == 51 && (sent t).take 6 == [0x00#8, 8, 0, 0, 0, 1]) = true := by decide +kernel
theorem test_timeSet : after (.timeSet 7 [0, 0, 1, 0]) { unit with clock := 5 } (fun t =>
    t.clock == 256 && sent t == [0x00#8, 0, 0, 0, 5, 0, 0, 1, 0]) = true := by decide +kernel
theorem test_status_lowers : after (.status 7 []) State.reset (fun t => t.notice == { flags := noFlags, armed := true }) = true := by
  decide +kernel
theorem test_tamperClear : after (.tamperClear 7 []) { seated with enclosure := seated.enclosure.setLatch true } (fun t =>
    !t.latched && sent t == [0x00#8, 0, 0, 0]) = true := by decide +kernel
theorem test_restart_replies : after (.restart 7 []) ready (fun t => (t.bay 0).state == .ready && sent t == [0x00#8]) = true := by
  decide +kernel
theorem test_frameLengthFault : after (.frameLengthFault 1) { unit with link := { coldLink with assembler := .assembling [0] } }
    (fun t => t.link.assembler == .hunting && t.link.sending == some (.reject 0 .frameLength)) = true := by decide +kernel
theorem test_frameReceived_status :
    after (.frameReceived (linkFrameBytes 1 9 [0x16])) unit (fun t => t.link.queue == [{ tag := 9, code := 0x16, args := [] }]) = true := by
  decide +kernel
theorem test_receiveGapTimeout : after .receiveGapTimeout { unit with link := { coldLink with assembler := .assembling [0, 9] } }
    (fun t => t.link.assembler == .hunting) = true := by decide +kernel
theorem test_stationByte : after (.stationByteReceived 0xC3) unit (fun t => t.link.assembler == .assembling []) = true := by decide +kernel
theorem test_outgoingFrameSent : after .outgoingFrameSent State.reset (fun t => t.link.sending == none) = true := by decide +kernel
theorem test_lineFree_sends : after (.lineFree (.bay 0))
    (withBay { bayIn .rolling with roll := .rollCall none, line := { idleLine with free := false } })
    (fun t => (t.bay 0).line.tx == .frame rollCallFrame .standard 0 false) = true := by decide +kernel
theorem test_dataEndPassed : after (.dataEndPassed (.bay 0)) (busy (withBay (flying (commitFrame confirmedCtx prof) false (loading confirmedCtx []))))
    (fun t => (t.bay 0).contexts.all (·.commitSent)) = true := by decide +kernel
theorem test_answerLimit : after (.answerLimit (.bay 0)) keying (fun t => (t.bay 0).contexts.all (fun c => c.attempts == 1)) = true := by
  decide +kernel
theorem test_rollCallEnded_clean : after (.rollCallEnded 0 (ans (wordBytes 8 serialM ++ [1]))) (withBay (rolling []))
    (fun t => (t.bay 0).roll == .enrol serialM true 0 0 none) = true := by decide +kernel
/-- 12.1, K: no entry matches, so the outcome is UNKNOWN. -/
theorem test_enrolEnded_unknown : after (.enrolEnded 0 (ans [1])) ((withBay (enrolling [] 0 0)).setEntry 8 .empty)
    (fun t => (t.bay 0).contexts.all (fun c => c.outcome == some .unknown && c.recordAppended) && (t.bay 0).batch.unknown == 1) = true := by
  decide +kernel
theorem test_rateEnded : after (.rateEnded 0)
    (busy (withBay (flying { kind := .rate, addr := 0, body := [1] } true (loading (ctx 0 serialM .loading) []))))
    (fun t => (t.bay 0).line.rate == .fast && (t.bay 0).line.gapRate == .standard) = true := by decide +kernel
theorem test_keyEnded_refused : after (.keyEnded 0 (ans [1, 0, 0, 0, 5])) keying
    (fun t => (t.bay 0).contexts.all (fun c => c.outcome == some (.failed .refused))) = true := by decide +kernel
theorem test_keyEnded_mismatch : after (.keyEnded 0 (ans [1, 0, 0, 9, 2])) keying
    (fun t => (t.bay 0).contexts.all (fun c => c.attempts == 1 && c.outcome == none)) = true := by decide +kernel
theorem test_commitEnded : after (.commitEnded 0 (ans [4])) committing
    (fun t => (t.bay 0).batch.loaded == 1 && (t.bay 0).contexts.all (·.recordAppended)) = true := by decide +kernel
theorem test_pollEnded_lapsed : after (.pollEnded 0 []) (busy (withBay (flying (bareFrame .poll 0) true
      (loading { ctx 0 serialM .loading with pollMisses := 1 } []))))
    (fun t => (t.bay 0).contexts.all (fun c => c.outcome == some (.failed .lapsed))) = true := by decide +kernel
theorem test_dismissEnded_last : after (.dismissEnded 0) (withBay (flying (bareFrame .dismiss 0) true
      { loading (ctx 0 serialM .reportWait) [] with batch := { noBatch with number := 9, enrolled := 1 } }))
    (fun t => (t.bay 0).state == .ready && (t.bay 0).batch.stopCause == some .complete) = true := by decide +kernel
/-- R27, R88: a DISMISS in flight at BATCH_ABORT brings its context to DONE, and its entry stays in use until the table is cleared. -/
theorem test_dismissEnded_aborted :
    let c := ctx 0 serialM .reportWait
    (withBay (loading { c with phase := .done } [])).inUse 8 = false ∧
      after (.dismissEnded 0) (withBay (aborting (flying (bareFrame .dismiss 0) true (loading c [])))) (fun t =>
        (t.bay 0).contexts.all (fun d => d.phase == .done) && t.inUse 8) = true := by decide +kernel
theorem test_pollDue : after (.pollDue 0 0) (busy (withBay (loading (ctx 0 serialM .transport) [])))
    (fun t => (t.bay 0).line.tx == .frame (bareFrame .poll 0) .standard 0 false) = true := by decide +kernel
theorem test_rollCallDue : after (.rollCallDue 0) (withBay { bayIn .rolling with roll := .rollCall (some 9) })
    (fun t => (t.bay 0).line.tx == .frame rollCallFrame .standard 0 false) = true := by decide +kernel
theorem test_resendDelayExpired : after (.resendDelayExpired 0) (withBay { bayIn .rolling with roll := .enrol serialM true 0 1 (some 9) })
    (fun t => (t.bay 0).line.tx == .frame (enrolFrame serialM 0) .standard 0 false) = true := by decide +kernel
theorem test_lineStuckPassive : after (.lineStuckPassive (.bay 0)) (withBay (flying rollCallFrame false (rolling [])))
    (fun t => (t.bay 0).state == .stopping && (t.bay 0).faultReason == some .lineStuckPassive) = true := by decide +kernel
theorem test_echoMismatch_port : after (.echoMismatch (.port .a)) { unit with portA := { emptyPort with
      contact := true, state := .reading 0 0 .inFlight, line := { idleLine with tx := .frame readTokenFrame .standard 0 false } } }
    (fun t => t.portA.state == .unreadable .lineFault) = true := by decide +kernel
theorem test_lineHeldActive : after (.lineHeldActive (.bay 0)) ready
    (fun t => (t.bay 0).faultReason == some .lineHeldActive && (t.bay 0).supply && t.notice.flags.bayFault) = true := by decide +kernel
/-- 12.4, variant C: address 2 ABANDONED, address 3 ABANDONED, the bay READY. -/
theorem test_lineResetEnded_list : after (.lineResetEnded 0) (withBay { bayIn .stopping with
      batch := { noBatch with number := 205, enrolled := 3, loaded := 1, stopCause := some .reset }
      contexts := [{ ctx 0 serialM .done with recordAppended := true, outcome := some .loaded }, ctx 1 serialN .committing,
        { ctx 2 5 .enrolled with commitSent := true }]
      line := { idleLine with tx := .reset 0, free := false } })
    (fun t => (t.bay 0).state == .ready && match bodies t with
      | [.batchEnd r] => r.cause == .reset && r.list.map (·.state) == [.abandoned, .indeterminate]
      | _ => false) = true := by decide +kernel
theorem test_lineTestFrameEnded : after (.lineTestFrameEnded 0 0 [])
    { withBay { bayIn .ready with line := { idleLine with tx := .test 0, loopback := true, free := false } } with
      link := { coldLink with queue := [{ tag := 7, code := 0x06, args := [1] }], head := .withOwner } }
    (fun t => sent t == [0x00#8, 0x04] && (t.bay 0).state == .ready && !(t.bay 0).line.loopback) = true := by decide +kernel
/-- R75: an interruption of 47 ticks starts the quiet count again, one of 19 ticks does not. -/
theorem test_lineLevelChange : after (.lineLevelChange (.bay 0) false) { interrupted with time := 77 }
    (fun t => (t.bay 0).quietSince == some 77) = true := by decide +kernel
theorem test_lineLevelChange_glitch : after (.lineLevelChange (.bay 0) false) { interrupted with time := 49 }
    (fun t => (t.bay 0).quietSince == some 0) = true := by decide +kernel
theorem test_quietCountReached : after (.quietCountReached 0) (withBay { bayIn .powering with limitAt := some 5 })
    (fun t => (t.bay 0).state == .ready && (t.bay 0).limitAt == none) = true := by decide +kernel
theorem test_powerTimeout : after (.powerTimeout 0) (withBay (bayIn .powering))
    (fun t => (t.bay 0).faultReason == some .powerTimeout && !(t.bay 0).supply) = true := by decide +kernel
theorem test_overCurrent : after (.overCurrent 0) (withBay (rolling [ctx 0 serialM .enrolled]))
    (fun t => (t.bay 0).batch.stopCause == some .powerFault && (t.bay 0).state == .fault && t.report.records.length == 1) = true := by
  decide +kernel
theorem test_transportComplete : after .transportComplete { withBay (loading (ctx 0 serialM .transport) []) with
      cipher := { coldCipher with running := some { job := .transport 0 0 serialM 29, urgent := true, withdrawn := false, material := .slot 5 3 } } }
    (fun t => (t.bay 0).contexts.all (fun c => c.phase == .loading)) = true := by decide +kernel
theorem test_prepareComplete_withdrawn : after .prepareComplete { ready with
      cipher := { coldCipher with running := some { job := .prepare 0 0 1 serialM 1 11 .none, urgent := true, withdrawn := true, material := .none } } }
    (fun t => t.cipher.running == none && (t.bay 0).buffers == [.free, .free]) = true := by decide +kernel
theorem test_checkComplete_frees : after .checkComplete (busy unit) (fun t => t.cipher.running == none) = true := by decide +kernel
theorem test_importComplete_withdrawn : after .importComplete { unit with
      cipher := { coldCipher with running := some { job := .importKey 19 4, urgent := false, withdrawn := true, material := .slot 7 3 } } }
    (fun t => t.cipher.running == none && t.keys == unit.keys) = true := by decide +kernel
theorem test_contactCloses : after (.presenceContactCloses .a) { unit with time := 4 } (fun t => t.portA.state == .settling 4) = true := by
  decide +kernel
theorem test_contactOpens : after (.presenceContactOpens .b) seated (fun t => t.portB.state == .empty && t.notice.flags.token) = true := by
  decide +kernel
theorem test_settlingTimeExpires : after (.settlingTimeExpires .a) { unit with portA := { emptyPort with contact := true, state := .settling 0 } }
    (fun t => t.portA.state == .reading 0 0 .inFlight) = true := by decide +kernel
/-- R140: a token ID of 0 is bad content. -/
theorem test_readTokenEnded_bad : after (.readTokenEnded .a (ans (List.replicate 25 0))) { unit with portA := { emptyPort with
      contact := true, state := .reading 0 0 .inFlight, line := { idleLine with tx := .frame readTokenFrame .standard 0 true } } }
    (fun t => t.portA.state == .unreadable .badContent) = true := by decide +kernel
theorem test_readTokenResendDue : after (.readTokenResendDue .a) { unit with portA := { emptyPort with contact := true, state := .reading 1 2 (.waiting 9) } }
    (fun t => t.portA.state == .reading 1 2 .inFlight) = true := by decide +kernel
theorem test_clockAdvance_expires : after .clockAdvance { unit with window := some 1 } (fun t =>
    t.window == none && t.clock == 1 && t.notice.flags.windowExpired) = true := by decide +kernel
theorem test_windowExpiry : after .windowExpiry { keyed with window := some 1 } (fun t => t.window == none && t.notice.flags.windowExpired) = true := by decide +kernel
/-- R149: a WINDOW_OPEN taken first leaves nothing to expire. -/
theorem test_windowExpiry_none : after .windowExpiry keyed (fun t =>
    t.window == keyed.window && !t.notice.flags.windowExpired) = true := by decide +kernel
theorem test_enclosureInputActive : after (.enclosureInputActive .mesh) ready (fun t =>
    t.latched && t.slot 29 == { lastGen := 3, content := .empty } && (t.bay 0).line.tx.isReset && t.window == none) = true := by decide +kernel
theorem test_enclosureInputInactive : after (.enclosureInputInactive .lid) { unit with enclosure := { unit.enclosure with lid := true } }
    (fun t => !t.enclosure.lid) = true := by decide +kernel

/-- What a start-up finds when nothing has happened. -/
def calm : PowerOnFinds :=
  { lid := false, mesh := false, contactA := false, contactB := false, keyStore := none, profiles := none
    queue := none, counters := none, latchFound := none, clockFound := none, early := [] }

theorem test_powerOn : after (.powerOn { calm with contactA := true, clockFound := some 9 }) State.manufactured (fun t =>
    t.started && t.clock == 9 && t.portA.state == .settling 0 && t.notice.flags.started && !t.notice.flags.tamper) = true := by
  decide +kernel
/-- R183: stores as they were left pass, and counters whose CRC-16 is another fail. -/
theorem test_startResults (s : State) (h : ChecksAgree s) (c : Counters) : s.startResults calm = noneFailed ∧
    s.startResults { calm with counters := some { contents := c, check := ~~~counterCheck c } } =
      { noneFailed with counters := true } := by
  obtain ⟨h1, h2, h3, h4⟩ := h
  have h5 : counterCheck c ≠ ~~~counterCheck c := by bv_omega
  simp [State.startResults, State.foundKeys, State.foundProfiles, State.foundQueue, State.foundCounters, foundOr, calm,
    noneFailed, h1, h2, h3, h4, h5]
/-- R156: counters that fail their check are rebuilt from the newest record. -/
theorem test_countersRebuilt : Counters.checked true [rec 4, rec 5] { record := 77, batch := 8 } = { record := 5, batch := 0 } := by
  decide +kernel
theorem test_powerLoss : after .powerLoss (queued 5 ready) (fun t =>
    t.report.records.length == 5 && (t.bay 0).state == .off && t.window == none) = true := by decide +kernel

/-! ### Witnesses: states and operands that meet the hypotheses of the statements -/

/-- A table that the invariant admits, decided. -/
def tableFits (x : Bay) : Bool :=
  decide (x.contexts.length ≤ 4) && decide (x.contexts.map (fun c => c.addr.val) = List.range x.contexts.length) &&
    decide (x.contexts.map (fun c => c.serial)).Nodup &&
    match x.roll with
    | .enrol serial _ a _ _ =>
      x.contexts.any (fun c => c.serial == serial && c.addr == a) ||
        (x.contexts.all (fun c => c.serial != serial) && a.val == x.contexts.length)
    | _ => true

theorem tablesOrdered_of {s : State} (h : ∀ b, tableFits (s.bay b) = true) : TablesOrdered s := by
  intro b
  have h := h b
  unfold tableFits at h
  simp only [Bool.and_eq_true, decide_eq_true_eq] at h
  refine ⟨h.1.1.1, h.1.1.2, h.1.2, ?_⟩
  have h2 := h.2
  unfold Bay.offerFits
  split
  · next serial fast a n w hr =>
    rw [hr] at h2
    simp only [Bool.or_eq_true, List.any_eq_true, Bool.and_eq_true, List.all_eq_true, beq_iff_eq, bne_iff_ne] at h2
    rcases h2 with ⟨c, hc, h1, h2⟩ | ⟨h1, h2⟩
    · exact .inl ⟨c, hc, h1, h2⟩
    · exact .inr ⟨h1, h2⟩
  · trivial

/-- The positions of a context in order, decided for the profile it is loaded under. -/
def positionsFit (s : State) (c : Context) : Bool :=
  match s.profileOf c with
  | none => true
  | some p =>
    (c.phase != .loading || p.numbered.all (fun x => !x.1.derives || decide (c.posIndex ≤ x.2) ||
      ((c.confirmed[x.2 - 1]?).join).isSome)) &&
    (c.phase != .committing || p.numbered.all (fun x => !x.1.derives || ((c.confirmed[x.2 - 1]?).join).isSome))

theorem positionsInOrder_of {s : State} (h : ∀ b, (s.bay b).contexts.all (positionsFit s) = true) :
    PositionsInOrder s := by
  intro b c hc p hp
  have h := List.all_eq_true.mp (h b) c hc
  unfold positionsFit at h
  rw [hp] at h
  simp only [Bool.and_eq_true, Bool.or_eq_true, List.all_eq_true, bne_iff_ne, decide_eq_true_eq,
    Bool.not_eq_true'] at h
  refine ⟨fun hl x hx hd hlt => ?_, fun hl x hx hd => ?_⟩
  · rcases h.1 with h1 | h1
    · exact absurd hl h1
    · rcases h1 x hx with (h2 | h2) | h2
      · simp_all
      · omega
      · exact h2
  · rcases h.2 with h1 | h1
    · exact absurd hl h1
    · rcases h1 x hx with h2 | h2
      · simp_all
      · exact h2

/-- A batch in LOADING with a report queue of one free place: the state the invariants are met in. -/
def full : State := queued 63 keying

theorem step_full (c : Instr) : step { full with pending := [c] } = exec c { full with pending := [] } := rfl

theorem witness_StepRunsFront : unit.pending = [] ∧ ({ unit with time := 999999 } : State).tick.pending = [.clockAdvance] := by decide +kernel

theorem witness_ReportQueueKept : ReservationHolds full ∧ NumbersRise full ∧
    after (.keyEnded 0 (ans [1, 0, 0, 0, 5])) full (fun t => t.report.waiting.length == 1) = true := by
  unfold ReservationHolds NumbersRise; decide +kernel

/-- No start-up is in front, and a calm one misses no decay. -/
theorem frontSeen_full : FrontSeen full := fun _ _ h => nomatch (show ([] : List Instr) = _ from h)
theorem decaySeen_calm : DecaySeen calm full := by
  simp [DecaySeen, calm]

theorem witness_CipherSharesKept : SharesHold full := by
  unfold SharesHold; decide +kernel

theorem witness_RangesKept : ValuesMasked full ∧ WindowInRange full ∧ LinkBounded full ∧ ChecksAgree keyed := by
  refine ⟨?_, ?_, by unfold LinkBounded; decide +kernel, rfl, rfl, rfl, rfl⟩
  · have h : ∀ e, ((full.entry e).profile.all (fun p => p.value &&& p.mask == p.value)) = true := by decide +kernel
    intro e p hp
    have := h e
    rw [hp] at this
    simpa using this
  · intro n hn
    have h : full.window = some 900 := rfl
    have h2 : n = 900 := by
      rw [h] at hn
      simpa using hn.symm
    omega

theorem witness_SupplyKept : SupplyFollows full := by
  unfold SupplyFollows; decide +kernel

theorem witness_ContextTablesKept : TablesOrdered (withBay (enrolling [ctx 0 serialN .enrolled] 1 0)) :=
  tablesOrdered_of (by decide +kernel)

theorem witness_LastGenerationNeverFalls :
    ProgressFresh { seated with keys := { seated.keys with
      progress := some (.assembly { slot := 0, kind := .base, gen := 1, expected := 0, label := 0 } 0 1 2) } } := by
  show (0 : Generation) < 1; decide

theorem witness_LatchedStaysEmpty : LatchedIsEmpty { seated with enclosure := seated.enclosure.setLatch true } ∧
    State.latched { seated with enclosure := seated.enclosure.setLatch true } = true := by
  refine ⟨fun _ => ⟨?_, rfl, rfl⟩, rfl⟩
  decide +kernel

theorem witness_PositionsKept : TablesOrdered committing ∧ PositionsInOrder committing ∧
    after (.commitEnded 0 []) committing (fun t => (t.bay 0).contexts.all (fun c => c.attempts == 1)) = true :=
  ⟨tablesOrdered_of (by decide +kernel), positionsInOrder_of (by decide +kernel), by decide +kernel⟩

/-- A PREPARE queued for the first position, the engine free. -/
def preparing : State :=
  withBay { loading (ctx 0 serialM .loading) [] with buffers := [.reserved 0 1, .free] }

theorem witness_DerivationsStartUnderWindow :
    after (.pollDue 0 0) (withBay (loading (ctx 0 serialM .transport) []))
      (fun t => t.cipher.running.any (fun r => r.job.isDerivation) && t.window.isSome) = true := by decide +kernel

theorem witness_CommitOnlyConfirmed :
    let s := withBay (loading confirmedCtx [])
    PositionsInOrder s ∧ s.nextFrame 0 = some (commitFrame confirmedCtx prof) :=
  ⟨positionsInOrder_of (by decide +kernel), by decide +kernel⟩

/-- Every clause of the order of frames: a POLL due, a DISMISS owed, the batch's own frame, and no frame in READY. -/
theorem witness_FramesInOrder :
    let c1 := { ctx 0 serialM .reportWait with recordAppended := true, outcome := some .loaded }
    let c2 := { ctx 1 serialN .enrolled with pollDue := true }
    TablesOrdered (withBay (loading c1 [c2])) ∧
      (withBay (loading c1 [c2])).nextFrame 0 = some (bareFrame .poll 1) ∧
      (withBay (loading c1 [{ c2 with pollDue := false }])).nextFrame 0 = some (bareFrame .dismiss 0) ∧
      (withBay (loading confirmedCtx [])).nextFrame 0 = some (commitFrame confirmedCtx prof) ∧ ready.nextFrame 0 = none :=
  ⟨tablesOrdered_of (by decide +kernel), by decide +kernel⟩

/-- An answer of one byte with its integrity byte, and one with another byte. -/
theorem witness_IntegrityByte : ([4, crc8 [4]] : List Byte).length = 1 + 1 ∧ crc8 [4, crc8 [4]] = 0 ∧ crc8 [4, 4] ≠ 0 := by
  decide +kernel

/-- A STATUS request whose CRC is right, and the same with another CRC. -/
theorem witness_FrameCheck : (wordBytes 2 (crc16 [0, 3, 1, 9, RequestCode.status.code])).length = 2 ∧
    crc16 ([0, 3, 1, 9, RequestCode.status.code] ++ [] ++ wordBytes 2 (crc16 [0, 3, 1, 9, RequestCode.status.code])) = 0 ∧
    crc16 ([0, 3, 1, 9, RequestCode.status.code] ++ [] ++ [0, 0]) ≠ 0 := by decide +kernel

/-- The limits of the calibration range, each class of mark: STANDARD 35 to 45, FAST 9 to 11. -/
theorem witness_MarkCalibration :
    calibrate .standard 138 = .answer 35 ∧ calibrate .standard 181 = .answer 45 ∧ calibrate .standard 137 = .garbled ∧
      calibrate .standard 207 = .deferral 35 ∧ calibrate .standard 272 = .deferral 45 ∧ calibrate .standard 273 = .garbled ∧
      calibrate .fast 34 = .answer 9 ∧ calibrate .fast 45 = .answer 11 ∧ calibrate .fast 68 = .deferral 11 := by decide +kernel

/-- The limits of the range, with the shortest answer, the longest, and none. -/
theorem witness_AnswersJudged :
    inRange .standard 35 = true ∧ inRange .standard 45 = true ∧ inRange .standard 46 = false ∧
      judgeAnswer .standard 1 (answerPeriods 40 35 [4]) = .clean [4] ∧
      judgeAnswer .standard 25 (answerPeriods 40 45 (List.replicate 25 0xAA)) = .clean (List.replicate 25 0xAA) ∧
      judgeAnswer .fast 1 ([80, 44] ++ bitPeriods 11 false (bytesBits [4, 0])) = .garbled ∧ (0 : Byte) ≠ crc8 [4] := by
  decide +kernel

theorem witness_GreatestSerialWins : (0 < 40 ∧ serialM ∈ [serialN, serialM]) ∧ ∀ x ∈ [serialN, serialM], x ≤ serialM := by
  refine ⟨by simp, fun x hx => ?_⟩
  simp only [List.mem_cons, List.not_mem_nil, or_false] at hx
  rcases hx with rfl | rfl <;> decide +kernel

/-- A mask of whole bytes, and each of the particular masks of R86. -/
theorem witness_MatchIsBytewise : prof.matches serialM = true ∧ prof.matches 0x5452000000001001#64 = false ∧
    ({ prof with mask := 0, value := 0 } : Profile).matches serialM = true ∧
    ({ prof with mask := BitVec.allOnes 64, value := serialM } : Profile).matches serialM = true ∧
    (prof.value &&& prof.mask = prof.value) ∧
    ∀ i < 8, (wordBytes 8 prof.mask).getD i 0 = 0x00#8 ∨ (wordBytes 8 prof.mask).getD i 0 = 0xFF#8 := by decide +kernel

theorem witness_LookupIsBestCandidate : keyed.lookup serialM = some 8 ∧ keyed.lookup 0 = none ∧
    ((keyed.setEntry 3 (.stored true { prof with priority := 9 })).setEntry 2 (.stored true { prof with priority := 9 })).lookup
      serialM = some 2 := by decide +kernel

/-- A terminal that keeps tag 1, with an earlier key committed under it and odd parity demanded. -/
theorem witness_TerminalConfirmsPreparedKey :
    let t : Terminal := { serial := serialM, fastCapable := true, working := 9, keeps := [1], demandsOdd := true
                          committed := [{ tag := 1, gen := 3, key := 0 }], uncommitted := [], state := .enrolled 0
                          rate := .standard, rateNext := none, restarted := 0, committedSince := false }
    t.working = 9 ∧ t.keeps.contains 1 = true ∧ (∀ k, heldUnder 1 t.committed = some k → k.gen ≤ 3) ∧
      (t.demandsOdd = true → Parity.odd = .odd) := by
  refine ⟨rfl, rfl, ?_, fun _ => rfl⟩
  intro k hk
  have : k = { tag := 1, gen := 3, key := 0 } := by
    have h : heldUnder 1 [{ tag := 1, gen := 3, key := 0 }] = some k := hk
    simpa [heldUnder] using h.symm
  subst this; decide

/-- The same terminal with a position key that has an even byte, and with one that has none. -/
theorem witness_DerivationAndParity :
    let t : Terminal := { serial := serialM, fastCapable := true, working := 9, keeps := [1], demandsOdd := true
                          committed := [{ tag := 1, gen := 3, key := 0 }], uncommitted := [], state := .enrolled 0
                          rate := .standard, rateNext := none, restarted := 0, committedSince := false }
    t.working = 9 ∧ t.keeps.contains 1 = true ∧ (∀ k, heldUnder 1 t.committed = some k → k.gen ≤ 3) ∧ t.demandsOdd = true ∧
      (∃ i < 16, oneBits ((wordBytes 16 (0 : Key)).getD i 0) % 2 = 0) ∧
      ∀ i < 16, oneBits ((wordBytes 16 0x01010101010101010101010101010101#128).getD i 0) % 2 = 1 := by
  obtain ⟨h1, h2, h3, _⟩ := witness_TerminalConfirmsPreparedKey
  exact ⟨h1, h2, h3, rfl, ⟨0, by decide +kernel⟩, by decide +kernel⟩

/-- A queue in which an URGENT request stands behind an ORDINARY one. -/
def queue2 (job : CipherJob) : Cipher := { coldCipher with queue := [{ job := .storeCheck 1, urgent := false }, { job := job, urgent := true }] }

/-- Each kind of request as the engine's choice, with its slot, the holder, the window and the latch as its checks want them. -/
theorem witness_EngineTakes :
    let s (job : CipherJob) : State := { keyed with cipher := queue2 job }
    (∀ job ∈ [.transport 0 0 serialM 29, .prepare 0 0 1 serialM 1 11 .odd, .portCheck .a 1, .importKey 19 5],
      (s job).cipher.running = none ∧ (s job).cipher.choice = some { job := job, urgent := true }) ∧
    (coldCipher.choice = none) ∧ ({ coldCipher with queue := [{ job := .storeCheck 1, urgent := false }] } : Cipher).choice =
      some { job := .storeCheck 1, urgent := false } ∧
    keyed.window ≠ none ∧ keyed.latched = false ∧ (keyed.slot 29).content = .active (info .transportBase) 5 ∧
      (keyed.slot 11).content = .active (info .base) 6 ∧ (keyed.slot 19).content = .active (info .transfer) 7 ∧
      (coldCipher.setHolder 0 0 (some 4)).holder 0 0 = some 4 ∧ (keyed.slot 0).content = .empty ∧
      State.latched { unit with enclosure := unit.enclosure.setLatch true } = true ∧ unit.window = none := by
  decide +kernel

/-- The idle link, with every reading request's operand at the ends of its range. -/
theorem linkIdle_of {s : State} (h : (s.powered && s.started && s.link.queue.isEmpty && s.link.head == .notGiven) = true) :
    LinkIdle s := by
  simp only [Bool.and_eq_true, List.isEmpty_iff, beq_iff_eq] at h
  exact ⟨h.1.1.1, h.1.1.2, h.1.2, h.2⟩

theorem idle_keyed : LinkIdle keyed := linkIdle_of (by decide +kernel)

theorem witness_ReadingRequestsAnswer : LinkIdle keyed ∧ readBay [0] = none ∧ readBay [13] = none ∧ readBay [12] = some 11 ∧
    readEntry [25] = none ∧ readEntry [24] = some 23 ∧ readSlot [33] = none ∧ readSlot [32] = some 31 ∧ readBay [1, 2] = none :=
  ⟨idle_keyed, by decide +kernel⟩

/-- A full queue, a TERMINAL append waiting, its bay in ROLLING with a free line: a fetch of 8 admits it and the DISMISS goes
out. -/
def appendWaits : State :=
  let c := { ctx 0 serialM .reportWait with outcome := some .loaded }
  let s := queued 64 (withBay { bayIn .rolling with contexts := [c], roll := .rollCall (some 5) })
  { s with report := { s.report with waiting := [{ bay := 0, addr := 0, record := s.terminalRecord 0 c .loaded }] } }

theorem witness_ClockSetAndRecordsFetched : TablesOrdered appendWaits ∧ LinkIdle (queued 9 keyed) ∧ EngineQuiet (queued 9 keyed) ∧
    (queued 9 keyed).report.waiting = [] ∧ ([] : List Byte).length ≠ 4 ∧ ([] : List Byte).length ≠ 1 ∧
    LinkIdle appendWaits ∧ EngineQuiet appendWaits ∧ ¬ (appendWaits.bay 0).state = .loading ∧
    ((appendWaits.bay 0).ctx 0).any (fun c => c.phase == .reportWait) = true ∧
    after (.recordsFetch 7 [8]) appendWaits (fun t => t.report.waiting.isEmpty && t.report.records.length == 57 &&
      (t.bay 0).line.tx == .frame (bareFrame .dismiss 0) .standard 0 false) = true := by
  exact ⟨tablesOrdered_of (by decide +kernel), by unfold LinkIdle EngineQuiet; decide +kernel⟩

theorem witness_ProfilesChanged : LinkIdle keyed ∧ ChecksAgree keyed ∧ readProfileWrite [] = none ∧
    (readProfileWrite ([1, 0] ++ List.replicate 16 0 ++ [30, 0, 0] ++ List.replicate 8 0x41 ++ [1, 5, 1, 12])).isSome = true ∧
    keyed.entry 8 = .stored true prof ∧ keyed.entry 7 = .empty ∧ keyed.inUse 8 = false ∧
    (withBay (loading (ctx 0 serialM .loading) [])).inUse 8 = true :=
  ⟨idle_keyed, ⟨rfl, rfl, rfl, rfl⟩, by decide +kernel⟩

theorem witness_KeysRetiredAndErased : LinkIdle keyed ∧ (keyed.slot 11).content = .active (info .base) 6 ∧
    keyed.cipher.names 11 = false ∧ keyed.slotHeld 11 = false ∧ keyed.room = true ∧ (queued 64 keyed).room = false ∧
    (queued 63 keyed).room = true ∧ (withBay (loading (ctx 0 serialM .loading) [])).slotHeld 11 = true ∧
    ((keyed.setSlot 11 { lastGen := 3, content := .retired (info .base) }).slot 11).content = .retired (info .base) ∧
    (keyed.slot 0).content = .empty :=
  ⟨idle_keyed, by decide +kernel⟩

def assembleArgs : List Byte := [1, 1, 0, 1, 9, 9, 9] ++ List.replicate 8 0
def assembleReq : KeyRequest := { slot := 0, kind := .base, gen := 1, expected := 0x090909, label := 0 }

theorem witness_AssemblyAccepted : LinkIdle seated ∧ readKeyAssemble [] = none ∧
    readKeyAssemble assembleArgs = some assembleReq ∧ seated.latched = false ∧ (seated.slot 0).isActive = false ∧
    (seated.slot 0).lastGen < 1 ∧ (1 : Generation) ≤ (keyed.slot 29).lastGen ∧ (keyed.slot 29).isActive = true ∧
    seated.components = some (0x0F, 0xF0) ∧ seated.twoTokens = .satisfied 0xA10017 0xB20009 ∧ unit.components = none ∧
    State.twoTokens { seated with portB := seated.portA } = .invalid ∧ seated.room = true ∧ (queued 64 seated).room = false ∧
    seated.cipher = coldCipher ∧ CipherEmpty seated := by
  unfold LinkIdle CipherEmpty; decide +kernel

theorem witness_ImportAccepted : LinkIdle keyed ∧ readKeyImport [] = none ∧
    readKeyImport ([1, 1, 0, 1, 20] ++ List.replicate 16 0 ++ [9, 9, 9] ++ List.replicate 8 0) = some (assembleReq, 19, 0) ∧
    keyed.window ≠ none ∧ unit.window = none ∧ (keyed.slot 19).available .transfer = some (7, 3) ∧
    (keyed.slot 29).available .transfer = none ∧ keyed.room = true ∧ CipherEmpty keyed := by
  unfold LinkIdle CipherEmpty; decide +kernel

theorem witness_WindowOpened : LinkIdle seated ∧ seated.latched = false ∧ unit.portA.state.token = none ∧
    seated.portA.state.token = some tokenA ∧ seated.portB.state.token = some tokenB ∧ tokenA.role = .custodianA ∧
    tokenB.role = .custodianB ∧ tokenA.id ≠ tokenB.id ∧ (queued 63 seated).report.records.length + (queued 63 seated).running < 64 ∧
    64 ≤ (queued 64 seated).report.records.length + (queued 64 seated).running :=
  ⟨linkIdle_of (by decide +kernel), by decide +kernel⟩

/-- Bay 1 in LOADING with a TRANSPORT queued, bay 2 in ROLLING with a ROLL_CALL in flight, bay 3 between two, bay 4 with every
context DONE; the engine busy. -/
def closing : State :=
  let s := (((withBay (loading (ctx 0 serialM .transport) [])).setBay 1 (rolling [])).setBay 2
    { bayIn .rolling with roll := .rollCall (some 5), contexts := [ctx 0 serialN .enrolled] }).setBay 3
    { bayIn .rolling with roll := .rollCall (some 5)
                          contexts := [{ ctx 0 5 .done with outcome := some .unknown, recordAppended := true }] }
  busy { s with cipher := { s.cipher with queue := [{ job := .transport 0 0 serialM 29, urgent := true }] } }

theorem witness_WindowClosesAndRunsDown : LinkIdle keyed ∧ keyed.window ≠ none ∧ keyed.window ≠ some 1 ∧
    CipherEmpty { keyed with window := some 1 } ∧ CipherEmpty keyed ∧
    (∀ b, (keyed.bay b).isRunning = false) ∧ unit.window = none ∧ State.manufactured.powered = false ∧
    State.manufactured.window = none ∧ ({ unit with window := some 2 } : State).window = some 2 ∧ LinkIdle closing ∧
    closing.window ≠ none ∧ (closing.bay 1).rollInFlight = true ∧ (closing.bay 2).rollInFlight = false ∧
    after (.windowClose 7 []) closing (fun t => (t.bay 0).contexts.all (fun c => c.outcome == some (.failed .windowClosed)) &&
      (t.bay 1).rollOver && (t.bay 2).state == .loading && (t.bay 3).state == .ready &&
        t.cipher.queue.all (fun r => r.job.bay == some 2)) = true := by
  unfold LinkIdle CipherEmpty; decide +kernel

theorem witness_BatchStarted : LinkIdle ready ∧ readBatchStart [] = none ∧ readBatchStart [1, 1, 4] = some (0, .fast, 4) ∧
    readBatchStart [12, 0, 0] = some (11, .standard, 0) ∧ ready.latched = false ∧ (ready.bay 0).state = .ready ∧
    (ready.bay 11).state ≠ .ready ∧ ready.window ≠ none ∧ unit.window = none ∧
    (queued 63 ready).report.records.length + (queued 63 ready).running < 64 ∧
    64 ≤ (queued 64 ready).report.records.length + (queued 64 ready).running ∧ (ready.bay 0).lineReady ∧
    (ready.bay 0).contexts = [] ∧ EngineQuiet ready := by
  unfold LinkIdle EngineQuiet Bay.lineReady; decide +kernel

theorem witness_BatchAborted :
    let s := withBay (rolling [])
    let u := withBay (bayIn .loading)
    LinkIdle s ∧ (s.bay 0).state = .rolling ∧ EngineQuiet s ∧ (s.bay 0).line.tx.inFlight = true ∧ LinkIdle u ∧
      (u.bay 0).state = .loading ∧ (u.bay 0).line.tx = .idle ∧ (u.bay 0).faultReason = none ∧ (ready.bay 0).isRunning = false ∧
      ((withBay (bayIn .stopping)).bay 0).state = .stopping ∧ readBay [13] = none := by
  unfold LinkIdle EngineQuiet; decide +kernel

/-- Each state, and in STOPPING a frame in flight and a line reset under way. -/
theorem witness_BayReset :
    let f (r : FaultReason) : Bay := { bayIn .fault with faultReason := some r }
    let cut := withBay (aborting (rolling []))
    let under := withBay (aborting { bayIn .stopping with line := { idleLine with tx := .reset 0, free := false } })
    LinkIdle (withBay (bayIn .powering)) ∧ ((withBay (bayIn .powering)).bay 0).state = .powering ∧
      ((withBay coldBay).bay 0).state = .off ∧ ((withBay (f .powerTimeout)).bay 0).faultReason = some .powerTimeout ∧
      ((withBay (f .lineHeldActive)).bay 0).faultReason = some .lineHeldActive ∧
      ((withBay (f .echoMismatch)).bay 0).tamperOff = false ∧ (ready.bay 0).state = .ready ∧
      ((withBay (rolling [])).bay 0).faultReason = none ∧ ((withBay (rolling [])).bay 0).line.tx.isReset = false ∧
      EngineQuiet (withBay (rolling [])) ∧ LinkIdle cut ∧ (cut.bay 0).state = .stopping ∧
      (cut.bay 0).batch.stopCause = some .aborted ∧ (cut.bay 0).line.tx.isReset = false ∧ LinkIdle under ∧
      (under.bay 0).line.tx.isReset = true ∧
      after (.bayReset 7 [1]) under (fun t => (t.bay 0).line.tx == .reset 0 && (t.bay 0).batch.stopCause == some .reset) = true := by
  unfold LinkIdle EngineQuiet; decide +kernel

theorem witness_BayPowerSwitched : LinkIdle ready ∧ ready.latched = false ∧ (ready.bay 11).state = .off ∧ (ready.bay 0).state ≠ .off ∧
    (ready.bay 0).isRunning = false ∧ ((withBay (rolling [])).bay 0).isRunning = true ∧ ((13 : Byte).toNat = 0 ∨ 12 < (13 : Byte).toNat) :=
  ⟨linkIdle_of (by decide +kernel), by decide +kernel⟩

/-- The request and the test frame of LINE_TEST, and an echo delay at its limit of one unit less a tick. -/
theorem witness_LineTested :
    let s : State := { withBay { bayIn .ready with line := { idleLine with tx := .test 0, loopback := true, free := false } } with
      link := { coldLink with queue := [{ tag := 7, code := 0x06, args := [1] }], head := .withOwner } }
    LinkIdle ready ∧ (ready.bay 0).supply = true ∧ (ready.bay 0).state = .ready ∧ (ready.bay 1).supply = false ∧ s.powered = true ∧
      (s.bay 0).line.tx = .test 0 ∧ s.link.head = .withOwner ∧ s.link.queue = [{ tag := 7, code := 0x06, args := [1] }] ∧
      (39 < Rate.standard.unit ∧ echoFault .standard testFrame 39 (perfectEcho testFrame) = none ∧
        echoFault .standard testFrame 40 (perfectEcho testFrame) = some .stuckPassive) :=
  ⟨linkIdle_of (by decide +kernel), by decide +kernel⟩

theorem witness_TamperCleared :
    let s : State := { seated with enclosure := seated.enclosure.setLatch true }
    LinkIdle s ∧ s.latched = true ∧ s.enclosure.lid = false ∧ s.enclosure.mesh = false ∧
      s.twoTokens = .satisfied 0xA10017 0xB20009 ∧ unit.twoTokens = .absent ∧ seated.latched = false ∧
      State.twoTokens { seated with portB := seated.portA } = .invalid ∧ ([0] : List Byte) ≠ [] :=
  ⟨linkIdle_of (by decide +kernel), by decide +kernel⟩

theorem witness_TamperResponse : ready.powered = true ∧ SupplyFollows ready ∧ ready.latched = false ∧
    ready.enclosure.input .lid = false ∧ ready.enclosure.input .mesh = false := by
  unfold SupplyFollows; decide +kernel

theorem witness_RestartTakesPlace :
    let r : Request := { tag := 7, code := 0x18, args := [] }
    let s : State := { withBay (rolling []) with link := { coldLink with queue := [r], head := .replyReady, sending := some (.reply 7 [0]) } }
    LinkIdle ready ∧ s.powered = true ∧ SupplyFollows s ∧ s.link.sending = some (.reply 7 [0]) ∧ s.link.queue = [r] ∧ r.code = 0x18 ∧
      (s.bay 0).isRunning = true := by
  unfold LinkIdle SupplyFollows; decide +kernel

theorem witness_PowerLossAndStartUp : ready.powered = true ∧ State.manufactured.powered = false ∧ calm.early = [] ∧
    ({ calm with latchFound := some (false, false), lid := true } : PowerOnFinds).early = [] := by decide +kernel

theorem witness_FrameIsItsRequest : unit.powered = true ∧ unit.link.assembler = .hunting ∧ (List.replicate 511 (0 : Byte)).length ≤ 511 ∧
    requestOf .status 9 [] = some (.status 9 []) ∧ requestOf .bayPower 9 [1, 1] = some (.bayPowerOn 9 1) ∧
    requestOf .bayPower 9 [1, 0] = some (.bayPowerOff 9 1) ∧ unit.link.waiting = [] ∧ unit.link.noticeWanted = false ∧
    State.reset.link.sending.isSome = true ∧ ([0xC3] : List Byte) ≠ [] := by decide +kernel

/-- The ends of the length range 2 to 514, a wrong CRC, an unknown kind, an empty body and an unknown request code. -/
theorem witness_ReceiveAssembler :
    (1 < 2 ∧ (0 : Byte).toNat * 256 + (1 : Byte).toNat = 1) ∧ ((0 : Byte).toNat * 256 + (2 : Byte).toNat = 2) ∧
    ((2 : Byte).toNat * 256 + (2 : Byte).toNat = 514) ∧ ((2 : Byte).toNat * 256 + (3 : Byte).toNat = 515) ∧
    ((linkFrameBytes 2 9 [0x16]).length = 8 ∧ crc16 ((linkFrameBytes 2 9 [0x16]).tail) = 0) ∧
    ((linkFrameBytes 1 9 []).length = 7 ∧ crc16 ((linkFrameBytes 1 9 []).tail) = 0) ∧
    (RequestCode.ofByte 0x19 = none ∧ crc16 ((linkFrameBytes 1 9 [0x19]).tail) = 0) ∧ crc16 [0, 2, 1, 9, 0, 0] ≠ 0 := by decide +kernel

/-- A full and a busy queue, a queue of four whose head is replied to, and a notice that waits beside the reply to STATUS. -/
theorem witness_OutgoingFrameSent :
    let r : Request := { tag := 1, code := 0x16, args := [] }
    let s (q : List Request) : State := { unit with link := { coldLink with queue := q, head := .replyReady, sending := some (.reply 1 [0]) } }
    let u : State := { unit with link := { coldLink with queue := [r], head := .replyReady, waiting := [.reply 1 [0]], noticeWanted := true } }
    (s [r]).powered = true ∧ (s [r]).started = true ∧ requestOf .status 2 [] = some (.status 2 []) ∧
      4 ≤ (s [r, r, r, r]).link.queue.length ∧ (s [r, r, r]).link.queue.length < 4 ∧ (s [r]).link.head ≠ .notGiven ∧
      (s [r]).link.sending = some (.reply 1 [0]) ∧ r.code ≠ 0x18 ∧ r.code = RequestCode.status.code ∧
      4 ≤ ({ coldLink with waiting := List.replicate 4 (.reject 0 .busy) } : Link).rejects ∧
      State.reset.link.sending = some (.notice [0x20, 0]) ∧ unit.link.sending = none ∧ u.link.sending = none ∧
      u.link.noticeWanted = true ∧ u.beginFrame.link.sending = some (.notice [0, 0]) ∧
      u.beginFrame.link.waiting = [.reply 1 [0]] := by decide +kernel

/-- Every outcome of a roll call: a new serial, a known one, the third and the fourth garble, a deferral, the first and the
second silence with a table empty and not; and one in STOPPING. -/
theorem witness_RollCallEnded :
    let s (cs : List Context) := withBay (rolling cs)
    TablesOrdered (s [ctx 0 serialM .enrolled]) ∧ (s []).powered = true ∧ EngineQuiet (s []) ∧ ((s []).bay 0).state = .rolling ∧
      ((s []).bay 0).rollOver = false ∧ ((s []).bay 0).hasFrame rollCallFrame .standard 0 ∧
      judgeAnswer .standard 9 (ans (wordBytes 8 serialM ++ [1])) = .clean (wordBytes 8 serialM ++ [1]) ∧
      capabilityOfCode 1 = some true ∧ capabilityOfCode 2 = none ∧ beWord 64 (wordBytes 8 serialM) = serialM ∧
      judgeAnswer .standard 9 [320, 160, 3] = .garbled ∧ judgeAnswer .standard 9 [320, 240] = .deferral ∧
      judgeAnswer .standard 9 [] = .absent ∧ ({ noBatch with garbles := 2 } : BatchRecord).garbles + 1 < 4 ∧
      4 ≤ ({ noBatch with garbles := 3 } : BatchRecord).garbles + 1 ∧ (ctx 0 serialM .enrolled).phase ≠ .done ∧
      Aborting (withBay (aborting (rolling []))) 0 rollCallFrame .standard 0 :=
  ⟨tablesOrdered_of (by decide +kernel), by unfold EngineQuiet Bay.hasFrame Aborting EngineQuiet Bay.hasFrame; decide +kernel⟩

/-- A third context, a context refreshed, a fourth context, and an ENROL in STOPPING. -/
theorem witness_EnrolEnded :
    let s := withBay (enrolling [ctx 0 serialN .enrolled, ctx 1 5 .enrolled] 2 0)
    let u := withBay (enrolling [ctx 0 serialM .enrolled, ctx 1 5 .enrolled, ctx 2 6 .enrolled] 0 1)
    let v := withBay (enrolling [ctx 0 serialN .enrolled, ctx 1 5 .enrolled, ctx 2 6 .enrolled] 3 0)
    (TablesOrdered s ∧ TablesOrdered u ∧ TablesOrdered v) ∧ s.powered = true ∧ EngineQuiet s ∧ (s.bay 0).state = .rolling ∧
      (s.bay 0).roll = .enrol serialM true 2 0 none ∧ (s.bay 0).hasFrame (enrolFrame serialM 2) .standard 0 ∧
      judgeAnswer .standard 1 (ans [1]) = .clean [1] ∧ (s.bay 0).contexts.length < 3 ∧ (u.bay 0).contexts.length < 4 ∧
      s.lookup serialM = some 8 ∧ s.entry 8 = .stored true prof ∧ unit.lookup serialM = none ∧
      judgeAnswer .standard 1 [320, 240] = .deferral ∧ judgeAnswer .standard 1 (ans [5]) = .clean [5] ∧
      (v.bay 0).contexts.length = 3 ∧ (v.bay 0).contexts.all (fun c => c.serial != serialM) = true ∧
      Aborting (withBay (aborting (enrolling [] 0 0))) 0 (enrolFrame serialM 0) .standard 0 ∧
      after (.enrolEnded 0 (ans [1])) v (fun t => (t.bay 0).state == .loading && (t.bay 0).contexts.length == 4) = true :=
  ⟨⟨tablesOrdered_of (by decide +kernel), tablesOrdered_of (by decide +kernel), tablesOrdered_of (by decide +kernel)⟩, by
    unfold EngineQuiet Bay.hasFrame Aborting EngineQuiet Bay.hasFrame; decide +kernel⟩

theorem witness_FramesFallDue :
    let s := withBay { bayIn .rolling with roll := .rollCall (some 5) }
    let u := withBay { bayIn .rolling with roll := .enrol serialM true 0 1 (some 5) }
    let k := withBay { loading (ctx 0 serialM .loading) [] with resendAt := some 5 }
    s.powered = true ∧ EngineQuiet s ∧ (s.bay 0).lineReady ∧ (s.bay 0).onlyBatchFrame ∧ (s.bay 0).rollOver = false ∧
      (u.bay 0).roll = .enrol serialM true 0 1 (some 5) ∧ (ready.bay 0).isRunning = false ∧
      PositionWorked k 0 (ctx 0 serialM .loading) prof { tag := 1, action := .derive 11 } ∧ (k.bay 0).result 0 1 = some result ∧
      EngineQuiet k ∧ (k.bay 0).onlyBatchFrame ∧ (k.bay 0).lineReady ∧ (k.bay 0).rateOwed = false := by
  unfold EngineQuiet Bay.lineReady Bay.onlyBatchFrame PositionWorked; decide +kernel

/-- The terminal in hand's KEY in flight, the engine idle; and the same with the engine busy. -/
def keyingIdle : State := withBay (flying (keyFrame 0 result) true (loading (ctx 0 serialM .loading) []))

theorem witness_PreparesStart :
    PreparesStart { keyed with cipher := coldCipher.setHolder 0 0 (some 4) } 0 (ctx 0 serialM .loading) prof := by
  refine ⟨by decide +kernel, by decide +kernel, by decide +kernel, ?_⟩
  intro d hd slot hs
  have h : ∀ d ∈ prof.keySet, d.action = .keep ∨ d.action = .derive 11 := by decide +kernel
  rcases h d hd with h | h <;> rw [h] at hs <;> cases hs
  decide +kernel

/-- Every judgement of a KEY: a deferral, a mismatch, a wrong echo, a refusal, a confirmation, silence; and one in STOPPING. -/
theorem witness_KeyEnded : KeyInFlight keying 0 (ctx 0 serialM .loading) prof { tag := 1, action := .derive 11 } result .standard 0 ∧
    KeyInFlight keyingIdle 0 (ctx 0 serialM .loading) prof { tag := 1, action := .derive 11 } result .standard 0 ∧
    Aborting (keyingIdle.updBay 0 aborting) 0 (keyFrame 0 result) .standard 0 ∧
    (((keyingIdle.updBay 0 aborting).bay 0).batch.hand = some 0 ∧ ((keyingIdle.updBay 0 aborting).bay 0).result 0 1 = some result) ∧
    judgeAnswer .standard 5 [320, 240] = .deferral ∧
    judgeKey result (judgeAnswer .standard 5 (ans [1, 0, 0, 2, 2])) = .confirmed ∧
    judgeKey result (judgeAnswer .standard 5 (ans [1, 0, 0, 3, 2])) = .failure true ∧
    judgeKey result (judgeAnswer .standard 5 (ans [2, 0, 0, 2, 2])) = .failure false ∧
    judgeKey result (judgeAnswer .standard 5 (ans [1, 0, 0, 2, 5])) = .refused ∧
    judgeKey result (judgeAnswer .standard 5 (ans [1, 0, 0, 2, 6])) = .failure false ∧
    judgeKey result (judgeAnswer .standard 5 []) = .failure false ∧ (ctx 0 serialM .loading).attempts + 1 < 3 ∧
    3 ≤ ({ ctx 0 serialM .loading with attempts := 2 } : Context).attempts + 1 ∧
    6 ≤ ({ ctx 0 serialM .loading with deferrals := 5 } : Context).deferrals + 1 := by
  unfold KeyInFlight PositionWorked Aborting EngineQuiet Bay.hasFrame; decide +kernel

/-- Each judgement of a COMMIT, the engine busy and idle, and one in STOPPING that is left INDETERMINATE. -/
theorem witness_CommitEnded :
    let idle := withBay (flying (commitFrame confirmedCtx prof) true (loading confirmedCtx []))
    CommitInFlight committing 0 confirmedCtx prof .standard 0 ∧ CommitInFlight idle 0 confirmedCtx prof .standard 0 ∧
    Aborting (idle.updBay 0 aborting) 0 (commitFrame confirmedCtx prof) .standard 0 ∧ (idle.bay 0).nextToLoad = none ∧
    judgeAnswer .standard 1 (ans [4]) = .clean [4] ∧ judgeAnswer .standard 1 (ans [5]) = .clean [5] ∧
    judgeAnswer .standard 1 [320, 240] = .deferral ∧ judgeAnswer .standard 1 [] = .absent ∧ confirmedCtx.attempts + 1 < 3 ∧
    confirmedCtx.deferrals + 1 < 6 ∧
    after (.commitEnded 0 []) (idle.updBay 0 aborting) (fun t => (t.bay 0).line.tx == .reset 0 &&
      (t.bay 0).contexts.all (fun c => c.listState == .indeterminate && c.attempts == 0)) = true := by
  unfold CommitInFlight Aborting EngineQuiet Bay.hasFrame; decide +kernel

/-- A POLL due on a busy and on a free line, one ended with an answer and without, the engine busy and idle, and in STOPPING. -/
theorem witness_KeepAlive :
    let c := ctx 0 serialM .transport
    let s := withBay (loading c [])
    let u := withBay (flying (bareFrame .poll 0) true (loading { c with pollMisses := 1 } []))
    s.powered = true ∧ EngineQuiet s ∧ EngineQuiet (busy s) ∧ (s.bay 0).state = .loading ∧ (s.bay 0).ctx 0 = some c ∧
      c.phase ≠ .done ∧ (s.bay 0).lineReady ∧ (u.bay 0).line.tx ≠ .idle ∧ (u.bay 0).hasFrame (bareFrame .poll 0) .standard 0 ∧
      (judgeAnswer .standard 1 (ans [2])).answers = true ∧ (judgeAnswer .standard 1 []).answers = false ∧
      ((withBay (rolling [])).bay 0).state ≠ .loading ∧
      Aborting (u.updBay 0 aborting) 0 (bareFrame .poll 0) .standard 0 := by
  unfold EngineQuiet Bay.lineReady Aborting EngineQuiet Bay.hasFrame; decide +kernel

/-- RATE, a DISMISS of the last context and of one among several, a COMMIT's data end, and RATE and DISMISS in STOPPING. -/
theorem witness_FramesRunOut :
    let c := { ctx 0 serialM .reportWait with recordAppended := true, outcome := some .loaded }
    let rate : LineFrame := { kind := .rate, addr := 0, body := [1] }
    let s := withBay (flying rate true (loading (ctx 0 serialM .loading) []))
    let u := withBay (flying (bareFrame .dismiss 0) true (loading c []))
    let v := withBay (flying (bareFrame .dismiss 0) true (loading c [ctx 1 serialN .enrolled]))
    let w := withBay (flying (commitFrame confirmedCtx prof) false (loading confirmedCtx []))
    s.powered = true ∧ (s.bay 0).hasFrame rate .standard 0 ∧ (s.bay 0).allDone = false ∧ EngineQuiet s ∧
      (u.bay 0).ctx 0 = some c ∧ (u.bay 0).hasFrame (bareFrame .dismiss 0) .standard 0 ∧ EngineQuiet u ∧ c.outcome.isSome = true ∧
      (∀ d ∈ (u.bay 0).contexts, d.addr = 0 ∨ d.phase = .done) ∧ (∃ d ∈ (v.bay 0).contexts, d.addr ≠ 0 ∧ d.phase ≠ .done) ∧
      (w.bay 0).line.tx = .frame (commitFrame confirmedCtx prof) .standard 0 false ∧ (commitFrame confirmedCtx prof).addr = 1 ∧
      (commitFrame confirmedCtx prof).kind.drawsAnswer = true ∧ Aborting (s.updBay 0 aborting) 0 rate .standard 0 ∧
      Aborting (u.updBay 0 aborting) 0 (bareFrame .dismiss 0) .standard 0 := by
  unfold EngineQuiet Aborting EngineQuiet Bay.hasFrame; decide +kernel

theorem witness_OutcomeDecided : TablesOrdered keying ∧ (keying.bay 0).ctx 0 = some (ctx 0 serialM .loading) ∧
    (ctx 0 serialM .loading).outcome = none ∧ keying.room = true ∧ (queued 63 keying).room = false ∧
    keying.report.waiting = [] ∧ (keying.bay 0).state ≠ .stopping :=
  ⟨tablesOrdered_of (by decide +kernel), by decide +kernel⟩

theorem witness_LineFaults :
    let s := withBay (flying rollCallFrame false (rolling []))
    let h := withBay (rolling [])
    let r : State := { withBay { bayIn .ready with resetReply := some .ok, line := { idleLine with tx := .reset 0, free := false } } with
      link := { coldLink with queue := [{ tag := 7, code := 0x04, args := [1] }], head := .withOwner } }
    ready.powered = true ∧ EngineQuiet ready ∧ (ready.bay 0).line.tx = .idle ∧ EngineQuiet s ∧ (s.bay 0).faultReason = none ∧
      (s.bay 0).line.tx = .frame rollCallFrame .standard 0 false ∧ (h.bay 0).line.tx.sending = false ∧
      (h.bay 0).line.tx.isReset = false ∧ EngineQuiet r ∧ (r.bay 0).line.tx = .reset 0 ∧ (r.bay 0).tamperOff = false ∧
      (r.bay 0).resetReply = some .ok ∧ r.link.head = .withOwner := by
  unfold EngineQuiet; decide +kernel

theorem witness_LineResetEnded :
    let line : LineEnd := { idleLine with tx := .reset 0, free := false }
    let r : State := { withBay { bayIn .fault with faultReason := some .echoMismatch, resetReply := some .ok, line := line } with
      link := { coldLink with queue := [{ tag := 7, code := 0x04, args := [1] }], head := .withOwner } }
    let s (cause : StopCause) := withBay { bayIn .stopping with line := line, batch := { noBatch with stopCause := some cause } }
    let m := withBay { bayIn .ready with tamperOff := true, line := line }
    r.powered = true ∧ EngineQuiet r ∧ (r.bay 0).line.tx = .reset 0 ∧ (r.bay 0).resetReply = some .ok ∧ (r.bay 0).tamperOff = false ∧
      (∀ cause ∈ [.aborted, .reset, .lineFault, .tamper], ((s cause).bay 0).batch.stopCause = some cause ∧
        ((s cause).bay 0).state = .stopping ∧ ((s cause).bay 0).line.tx = .reset 0) ∧
      (m.bay 0).tamperOff = true ∧ (m.bay 0).state ≠ .stopping := by
  unfold EngineQuiet; decide +kernel

/-- The quiet count at 100 ms exactly, and one tick short of it; an interruption of 19 ticks and of 20. -/
theorem witness_PowerEvents :
    let s (now : Nat) : State := { withBay { bayIn .powering with line := { idleLine with changes := [5] } } with time := now }
    (s 0).powered = true ∧ EngineQuiet (s 0) ∧ ((s 0).bay 0).state = .powering ∧ ((s 0).bay 0).line.free = true ∧
      ((s 0).bay 0).quietSince = some 5 ∧ ((s 0).bay 0).line.changes ≠ [] ∧ 5 + 20 ≤ (s 25).time ∧ (19 < 20 ∧ ¬ 20 < 20) ∧
      5 + 100000 ≤ (s 100005).time ∧ (s 100004).time < 5 + 100000 ∧ (ready.bay 0).supply = true ∧ (ready.bay 0).tamperOff = false ∧
      (ready.bay 0).resetReply = none ∧ ((withBay (rolling [])).bay 0).isRunning = true ∧
      ((withBay (rolling [])).bay 0).batch.stopCause ≠ some .tamper ∧ (ready.bay 1).supply = false := by
  unfold EngineQuiet; decide +kernel

/-- A profile of two DERIVE positions with prepare-ahead ON. -/
def prof2 : Profile :=
  { prof with ahead := true, keySet := [{ tag := 1, action := .derive 11 }, { tag := 2, action := .derive 11 }] }

/-- A TRANSPORT of the terminal in hand under way, a second context enrolled, with prepare-ahead and two positions or one. -/
def transporting (p : Profile) : State :=
  { (withBay { loading (ctx 0 serialM .transport) [ctx 1 serialN .enrolled] with buffers := [.free, .free] }).setEntry 8
      (.stored true p) with
    cipher := { coldCipher with running := some {
      job := .transport 0 0 serialM 29, urgent := true, withdrawn := false, material := .slot 5 3 } } }

/-- The PREPARE of the second position queued ORDINARY behind a running CHECK while the first KEY is answered. -/
def raising : State :=
  let s := (busy (withBay (flying (keyFrame 0 result) true (loading (ctx 0 serialM .loading) [])))).setEntry 8 (.stored true prof2)
  { s with cipher := { s.cipher with queue := [{ job := .prepare 0 0 2 serialM 2 11 .none, urgent := false }] } }

/-- The top-up by a second position and by the next context, a PREPARE its start checks end, a result sent as KEY, and a request
raised in place. -/
theorem witness_DerivationsComplete :
    let c := ctx 0 serialM .transport
    let s := transporting prof2
    let d := ctx 0 serialM .loading
    let u : State := { preparing with cipher := { coldCipher with running := some {
      job := .prepare 0 0 1 serialM 1 11 .none, urgent := true, withdrawn := false, material := .slotAndTransport 6 3 4 } } }
    s.powered = true ∧ (s.bay 0).state = .loading ∧ (s.bay 0).batch.hand = some 0 ∧ (s.bay 0).ctx 0 = some c ∧ c.outcome = none ∧
      s.profileOf c = some prof2 ∧ s.cipher.queue = [] ∧
      ({ c with posIndex := 1 } : Context).nextPosition prof2 = some ({ tag := 1, action := .derive 11 }, 1) ∧
      ({ c with posIndex := 2 } : Context).nextPosition prof2 = some ({ tag := 2, action := .derive 11 }, 2) ∧
      ({ c with posIndex := 2 } : Context).nextPosition prof = none ∧ (s.bay 0).nextAhead 0 = some (ctx 1 serialN .enrolled) ∧
      (s.bay 0).buffers = [.free, .free] ∧ s.window ≠ none ∧ s.latched = false ∧ (s.slot 11).content = .active (info .base) 6 ∧
      (u.bay 0).ctx 0 = some d ∧ d.nextPosition prof = some ({ tag := 1, action := .derive 11 }, 1) ∧
      (u.bay 0).result 0 1 = none ∧ Buffer.reserved 0 1 ∈ (u.bay 0).buffers ∧ (u.bay 0).onlyBatchFrame ∧ (u.bay 0).lineReady ∧
      (u.bay 0).rateOwed = false ∧ (u.bay 0).resendAt = none ∧
      KeyInFlight raising 0 d prof2 { tag := 1, action := .derive 11 } result .standard 0 ∧
      (raising.bay 0).result 0 2 = none ∧ raising.cipher.running.isSome = true := by
  unfold KeyInFlight PositionWorked EngineQuiet Bay.hasFrame Bay.onlyBatchFrame Bay.lineReady; decide +kernel

/-- R23: with the engine taking the URGENT PREPARE, the bay's second request is the next position's, or the next context's
TRANSPORT. -/
theorem test_topUp :
    after .transportComplete (transporting prof2)
      (fun t => t.cipher.queue.map (·.job) == [.prepare 0 0 2 serialM 2 11 .none]) = true ∧
    after .transportComplete (transporting { prof with ahead := true })
      (fun t => t.cipher.queue.map (·.job) == [.transport 0 1 serialN 29]) = true := by decide +kernel
/-- R21: a PREPARE whose slot is not ACTIVE, and one after the window has closed. -/
theorem test_prepareRefused :
    after .transportComplete ((transporting prof).setSlot 11 emptySlot)
      (fun t => ((t.bay 0).ctx 0).any (fun c => c.outcome == some (.failed .keyUnavailable))) = true ∧
    after .transportComplete { transporting prof with window := none }
      (fun t => ((t.bay 0).ctx 0).any (fun c => c.outcome == some (.failed .windowClosed))) = true := by decide +kernel
/-- R102: raised to URGENT where it stands. -/
theorem test_raised : after (.keyEnded 0 (ans [1, 0, 0, 2, 2])) raising
    (fun t => t.cipher.queue.head? == some { job := .prepare 0 0 2 serialM 2 11 .none, urgent := true }) = true := by
  decide +kernel

theorem witness_StoredOnCompletion :
    let s : State := { seated with
      keys := { seated.keys with progress := some (.assembly assembleReq 0xFF 0xA10017 0xB20009) }
      cipher := { coldCipher with running := some { job := .storeCheck 0xFF, urgent := false, withdrawn := false, material := .none } } }
    let u : State := { keyed with
      keys := { keyed.keys with progress := some (.importing assembleReq 19) }
      cipher := { coldCipher with running := some { job := .importKey 19 4, urgent := false, withdrawn := false, material := .slot 7 3 } } }
    s.powered = true ∧ s.cipher.queue = [] ∧ s.cipher.waiting = [] ∧ s.room = true ∧ (queued 64 s).room = false ∧
      s.keys.progress = some (.assembly assembleReq 0xFF 0xA10017 0xB20009) ∧ u.keys.progress = some (.importing assembleReq 19) ∧
      assembleReq.slot ≠ 19 ∧ u.cipher.running.isSome = true := by decide +kernel

theorem witness_PortSeated :
    let s : State := { seated with
      keys := { seated.keys with progress := some (.assembly assembleReq 0xFF 0xA10017 0xB20009) }
      link := { coldLink with queue := [{ tag := 7, code := 0x0D, args := [] }], head := .withOwner } }
    unit.powered = true ∧ (unit.port .a).state = .empty ∧ (s.port .b).state = .read tokenB ∧ (s.port .b).state ≠ .empty ∧
      EngineQuiet s ∧ s.keys.progress = some (.assembly assembleReq 0xFF 0xA10017 0xB20009) ∧ s.link.head = .withOwner ∧
      (({ emptyPort with state := .settling 0 } : Port).line.tx = .idle ∧ emptyPort.line.free = true) := by
  unfold EngineQuiet; decide +kernel

/-- Each class of answer and of content, and the limits of three attempts and six deferrals. -/
theorem witness_TokenRead :
    let heldLine : LineEnd := { idleLine with afterFault := true, gapAt := 7, free := false }
    let plain : Token := { id := 1, role := .custodianA, component := none }
    let judged := fun (bytes : List Byte) => judgeAnswer .standard 25 (ans bytes)
    tokenA.id ≠ 0 ∧ unit.powered = true ∧ judged plain.answerBytes = .clean plain.answerBytes ∧
      tokenContent plain.answerBytes = .plain plain ∧ judged tokenA.answerBytes = .clean tokenA.answerBytes ∧
      tokenContent tokenA.answerBytes = .carrying tokenA 0x0F ∧ tokenContent (List.replicate 25 0) = .bad ∧
      judgeAnswer .standard 25 [320, 240] = .deferral ∧ judgeAnswer .standard 25 [] = .absent ∧
      judgeAnswer .standard 25 [320, 160, 3] = .garbled ∧ CipherEmpty unit ∧
      heldLine.tx = .idle ∧ heldLine.afterFault = true ∧ heldLine.gapAt + 12 * heldLine.gapRate.unit ≤ 487 ∧ (1 + 1 < 3 ∧ 3 ≤ 2 + 1) ∧ (4 + 1 < 6 ∧ 6 ≤ 5 + 1) := by
  unfold CipherEmpty; decide +kernel

end Sys2Proof.Tests
end

/-! SUPPORT. The integrity register of R35 and the gathering of bits into bytes (R33, R60), then the statement about them. -/

namespace Sys2Proof.Machine

/-! ### The integrity register (R35) -/

/-- One shift of the CRC-8 register toward its most significant end (R35, step 2), as `crc8Shifts` repeats it. -/
def crc8Shift (r : Byte) : Byte := if r.msb then (r <<< 1) ^^^ 0x07#8 else r <<< 1

theorem crc8Shifts_eq_iterate (k : Nat) (r : Byte) : crc8Shifts k r = crc8Shift^[k] r := by
  induction k generalizing r with
  | zero => rfl
  | succ k ih => exact ih (crc8Shift r)

/-- A byte more goes through the register that the bytes before it have left. -/
theorem crc8_append_singleton (bytes : List Byte) (b : Byte) : crc8 (bytes ++ [b]) = crc8Shifts 8 (crc8 bytes ^^^ b) := by
  simp only [crc8, List.foldl_append, List.foldl_cons, List.foldl_nil, crc8Step]

/-- No register but zero is shifted to zero: the bit shifted out leaves its mark, the lowest bit of the polynomial, which the
shift alone has cleared. -/
theorem crc8Shift_eq_zero_iff (r : Byte) : crc8Shift r = 0x00#8 ↔ r = 0x00#8 := by
  unfold crc8Shift
  split
  next hmsb =>
    have hlow : ((r <<< 1) ^^^ 0x07#8).getLsbD 0 = true := by simp
    constructor
    · intro h; simp [h] at hlow
    · intro h; simp [h] at hmsb
  next hmsb =>
    have hsmall : 2 * r.toNat < 2 ^ 8 := BitVec.msb_eq_false_iff_two_mul_lt.1 (by simpa using hmsb)
    constructor
    · intro h
      have hshift : (r.toNat <<< 1) % 2 ^ 8 = 0 := by simpa using congrArg BitVec.toNat h
      exact BitVec.eq_of_toNat_eq (by rw [Nat.shiftLeft_eq] at hshift; simp; omega)
    · rintro rfl; rfl

theorem crc8Shifts_eq_zero_iff (k : Nat) (r : Byte) : crc8Shifts k r = 0x00#8 ↔ r = 0x00#8 := by
  induction k generalizing r with
  | zero => rfl
  | succ k ih => exact (ih (crc8Shift r)).trans (crc8Shift_eq_zero_iff r)

/-- The register reads zero after the integrity byte of the bytes before it and after no other byte. -/
theorem crc8_append_singleton_eq_zero_iff (bytes : List Byte) (last : Byte) :
    crc8 (bytes ++ [last]) = 0x00#8 ↔ last = crc8 bytes := by
  rw [crc8_append_singleton, crc8Shifts_eq_zero_iff, BitVec.xor_eq_zero_iff, eq_comm]

/-! ### Bits gathered into bytes (R33, R60) -/

@[simp] theorem bytesBits_nil : bytesBits [] = [] := rfl
@[simp] theorem bytesBits_cons (b : Byte) (bytes : List Byte) : bytesBits (b :: bytes) = byteBits b ++ bytesBits bytes := rfl
@[simp] theorem byteBits_length (b : Byte) : (byteBits b).length = 8 := rfl

@[simp] theorem bytesBits_length (bytes : List Byte) : (bytesBits bytes).length = 8 * bytes.length := by
  induction bytes with
  | nil => rfl
  | cons b bytes ih => simp [ih]; omega

theorem ofBoolListBE_byteBits (b : Byte) : BitVec.ofBoolListBE (byteBits b) = b := by
  apply BitVec.eq_of_getLsbD_eq
  intro i (hi : i < 8)
  refine (BitVec.getLsbD_ofBoolListBE ..).trans ?_
  interval_cases i <;> rfl

theorem bitsBytes_byteBits_append (b : Byte) (bits : List Bool) : bitsBytes (byteBits b ++ bits) = b :: bitsBytes bits :=
  congrArg (· :: bitsBytes bits) (ofBoolListBE_byteBits b)

/-- Bytes sent bit by bit are gathered again as they were. -/
@[simp] theorem bitsBytes_bytesBits (bytes : List Byte) : bitsBytes (bytesBits bytes) = bytes := by
  induction bytes with
  | nil => rfl
  | cons b bytes ih => rw [bytesBits_cons, bitsBytes_byteBits_append, ih]

/-- An answer of the right length that ends within the answer limit is judged by its register alone (R37, R38). -/
theorem judgeBits_bytesBits {len endAt : Nat} {bytes : List Byte} (hlen : bytes.length = len + 1)
    (hend : endAt ≤ Config.answerLimit) :
    judgeBits len endAt (bytesBits bytes) = if crc8 bytes = 0x00#8 then .clean (bytes.take len) else .garbled := by
  have hbits : (bytesBits bytes).length = 8 * (len + 1) := by rw [bytesBits_length, hlen]
  simp [judgeBits, hbits, Nat.not_lt.2 hend]

/-- Settles O14: no shift clears a register that is not zero already, so only the byte equal to the register does,
and the bits of an answer are gathered into the bytes that were sent. -/
theorem integrityByte : Obligations.IntegrityByte := by
  refine ⟨rfl, fun bytes b => ?stepwise, crc8_append_singleton_eq_zero_iff, fun _ => rfl, fun _ _ _ => rfl,
    fun len endAt bytes hlen hend => ?judged⟩
  case stepwise => rw [crc8_append_singleton, crc8Shifts_eq_iterate]; rfl
  case judged =>
    have hlimit : Config.answerLimit = 50000 := rfl
    exact judgeBits_bytesBits hlen (by omega)

end Sys2Proof.Machine

/-! SUPPORT. The bytes of a quantity (R1) as slices of its word, then the match test byte by byte (R86). -/

namespace Sys2Proof.Machine

/-! ### The bytes of a quantity (R1) -/

/-- The byte at position `i` of a field of `k` bytes has the weight of the `k - 1 - i` bytes after it. -/
theorem getD_beBytes {k i : Nat} (n : Nat) (hi : i < k) :
    (beBytes k n).getD i 0 = BitVec.ofNat 8 (n / 256 ^ (k - 1 - i)) := by
  induction k generalizing i with
  | zero => omega
  | succ k ih =>
    cases i with
    | zero => rfl
    | succ i =>
      have hweight : k + 1 - 1 - (i + 1) = k - 1 - i := by omega
      rw [hweight]
      exact ih (by omega)

theorem getD_wordBytes {w k i : Nat} (x : BitVec w) (hi : i < k) :
    (wordBytes k x).getD i 0 = x.extractLsb' (8 * (k - 1 - i)) 8 := by
  have hpow : 256 ^ (k - 1 - i) = 2 ^ (8 * (k - 1 - i)) := by rw [Nat.pow_mul]
  rw [wordBytes, getD_beBytes _ hi, BitVec.extractLsb', Nat.shiftRight_eq_div_pow, hpow]

theorem getD_wordBytes_and {w k i : Nat} (x y : BitVec w) (hi : i < k) :
    (wordBytes k (x &&& y)).getD i 0 = (wordBytes k x).getD i 0 &&& (wordBytes k y).getD i 0 := by
  simp only [getD_wordBytes _ hi, BitVec.extractLsb'_and]

/-- Bit `n` of a word is bit `n % 8` of the byte that `n / 8` bytes follow. -/
theorem getLsbD_getD_wordBytes {w k n : Nat} (x : BitVec w) (hn : n < 8 * k) :
    ((wordBytes k x).getD (k - 1 - n / 8) 0).getLsbD (n % 8) = x.getLsbD n := by
  have hbit : 8 * (k - 1 - (k - 1 - n / 8)) + n % 8 = n := by omega
  have hmod : n % 8 < 8 := Nat.mod_lt _ (by decide)
  rw [getD_wordBytes x (by omega), BitVec.getLsbD_extractLsb', hbit]
  simp [hmod]

/-- A word is known by its bytes when they are enough to hold all its bits. -/
theorem eq_iff_getD_wordBytes {w k : Nat} (hw : w ≤ 8 * k) (x y : BitVec w) :
    x = y ↔ ∀ i < k, (wordBytes k x).getD i 0 = (wordBytes k y).getD i 0 := by
  constructor
  · rintro rfl _ _; rfl
  · intro hbytes
    apply BitVec.eq_of_getLsbD_eq
    intro n hn
    have hn' : n < 8 * k := by omega
    rw [← getLsbD_getD_wordBytes x hn', ← getLsbD_getD_wordBytes y hn', hbytes _ (by omega)]

/-! ### The match test (R86) -/

theorem Profile.matches_iff (p : Profile) (serial : Serial) : p.matches serial = true ↔ serial &&& p.mask = p.value :=
  beq_iff_eq

theorem Profile.matches_iff_bytes (p : Profile) (serial : Serial) :
    p.matches serial = true ↔
      ∀ i < 8, ((wordBytes 8 serial).getD i 0 &&& (wordBytes 8 p.mask).getD i 0) = (wordBytes 8 p.value).getD i 0 := by
  rw [p.matches_iff, eq_iff_getD_wordBytes (k := 8) (by decide)]
  exact forall₂_congr fun i hi => by rw [getD_wordBytes_and _ _ hi]

/-- A mask byte of zeros asks nothing of a value byte already masked, one of ones asks for the value byte itself. -/
theorem byte_and_eq_iff_of_whole {b m v : Byte} (hmasked : v &&& m = v) (hwhole : m = 0x00#8 ∨ m = 0xFF#8) :
    b &&& m = v ↔ (m = 0xFF#8 → b = v) := by
  have hones : b &&& 0xFF#8 = b := BitVec.and_allOnes
  rcases hwhole with rfl | rfl
  · have hv : v = 0x00#8 := by simpa using hmasked.symm
    simp [hv]
  · simp [hones]

/-- With every mask byte all zeros or all ones, the bytes under the ones decide (the value being kept masked, R91). -/
theorem Profile.matches_iff_of_whole_bytes {p : Profile} (serial : Serial) (hmasked : p.value &&& p.mask = p.value)
    (hwhole : ∀ i < 8, (wordBytes 8 p.mask).getD i 0 = 0x00#8 ∨ (wordBytes 8 p.mask).getD i 0 = 0xFF#8) :
    p.matches serial = true ↔
      ∀ i < 8, (wordBytes 8 p.mask).getD i 0 = 0xFF#8 → (wordBytes 8 serial).getD i 0 = (wordBytes 8 p.value).getD i 0 := by
  rw [p.matches_iff_bytes]
  refine forall₂_congr fun i hi => byte_and_eq_iff_of_whole ?_ (hwhole i hi)
  rw [← getD_wordBytes_and _ _ hi, hmasked]

/-- Settles O19: AND acts on each byte of the word alone and a word is known by its bytes, so the test on the 64-bit words is
the test of R86 on their bytes. -/
theorem matchIsBytewise : Obligations.MatchIsBytewise := by
  intro p serial
  refine ⟨p.matches_iff_bytes serial, fun hmask hvalue => ?allZero, fun hmask => ?allOnes,
    Profile.matches_iff_of_whole_bytes serial⟩
  case allZero => rw [p.matches_iff, hmask, hvalue]; exact BitVec.and_zero
  case allOnes => rw [p.matches_iff, hmask, BitVec.and_allOnes]

end Sys2Proof.Machine

/-! SUPPORT. Words put together of bytes and taken apart again (R1), the derivation block (R107), parity adjustment (R109) and a
terminal's answer to a KEY (R48), then the statement about them. -/

namespace Sys2Proof.Machine

/-! ### Words and their bytes (R1) -/

@[simp] theorem length_beBytes (k n : Nat) : (beBytes k n).length = k := by
  induction k with
  | zero => rfl
  | succ k ih => simp [beBytes, ih]

@[simp] theorem length_wordBytes {w : Nat} (k : Nat) (x : BitVec w) : (wordBytes k x).length = k := length_beBytes k x.toNat

theorem getElem_wordBytes {w k i : Nat} (x : BitVec w) (hi : i < (wordBytes k x).length) :
    (wordBytes k x)[i] = x.extractLsb' (8 * (k - 1 - i)) 8 := by
  rw [← List.getD_eq_getElem (d := 0), getD_wordBytes x (by simpa using hi)]

/-- The bytes of a word put together of two, the second of them of whole bytes, are those of the first and then those of the
second. -/
theorem wordBytes_append {w a b : Nat} (x : BitVec w) (y : BitVec (8 * b)) :
    wordBytes (a + b) (x ++ y) = wordBytes a x ++ wordBytes b y := by
  refine List.ext_getElem (by simp) fun i hi _ => ?_
  have hlen : i < a + b := by simpa using hi
  rw [List.getElem_append, getElem_wordBytes]
  split
  next hfirst =>
    have hfirst' : i < a := by simpa using hfirst
    have hplace : 8 * (a + b - 1 - i) - 8 * b = 8 * (a - 1 - i) := by omega
    rw [BitVec.extractLsb'_append_eq_of_le (by omega), getElem_wordBytes, hplace]
  next hsecond =>
    have hsecond' : a ≤ i := by simpa using hsecond
    have hplace : a + b - 1 - i = b - 1 - (i - a) := by omega
    rw [BitVec.extractLsb'_append_eq_of_add_le (by omega), getElem_wordBytes, length_wordBytes, hplace]

/-- The first bytes of a word are the bytes of its upper part. -/
theorem take_wordBytes {a b : Nat} (x : BitVec (8 * a + 8 * b)) :
    (wordBytes (a + b) x).take a = wordBytes a (x.extractLsb' (8 * b) (8 * a)) := by
  conv_lhs => rw [← BitVec.extractLsb'_append_extractLsb' (x := x)]
  rw [wordBytes_append, List.take_left' (length_wordBytes a _)]

/-- The complement of a word of whole bytes has the complements of its bytes. -/
theorem wordBytes_not {k : Nat} (x : BitVec (8 * k)) : wordBytes k (~~~x) = (wordBytes k x).map (fun b => ~~~b) := by
  refine List.ext_getElem (by simp) fun i hi _ => ?_
  have hlen : i < k := by simpa using hi
  rw [List.getElem_map, getElem_wordBytes, getElem_wordBytes]
  apply BitVec.eq_of_getLsbD_eq
  intro n hn
  have hinside : 8 * (k - 1 - i) + n < 8 * k := by omega
  simp [hn, hinside]

theorem beNat_append_singleton (bytes : List Byte) (b : Byte) : beNat (bytes ++ [b]) = beNat bytes * 256 + b.toNat := by
  simp [beNat]

theorem beNat_lt (bytes : List Byte) : beNat bytes < 256 ^ bytes.length := by
  induction bytes using List.reverseRecOn with
  | nil => decide
  | append_singleton bytes b ih =>
    have hb := b.isLt
    rw [beNat_append_singleton, List.length_append, List.length_singleton, pow_succ]
    omega

theorem beBytes_succ_eq_append (k n : Nat) : beBytes (k + 1) n = beBytes k (n / 256) ++ [BitVec.ofNat 8 n] := by
  induction k with
  | zero => simp [beBytes]
  | succ k ih =>
    have hweight : n / 256 ^ (k + 1) = n / 256 / 256 ^ k := by rw [Nat.div_div_eq_div_mul, pow_succ']
    rw [beBytes, ih, beBytes, hweight, List.cons_append]

/-- A number read from bytes is written as the same bytes. -/
theorem beBytes_beNat (bytes : List Byte) : beBytes bytes.length (beNat bytes) = bytes := by
  induction bytes using List.reverseRecOn with
  | nil => rfl
  | append_singleton bytes b ih =>
    have hb := b.isLt
    have hrest : (beNat bytes * 256 + b.toNat) / 256 = beNat bytes := by omega
    have hlast : BitVec.ofNat 8 (beNat bytes * 256 + b.toNat) = b := BitVec.eq_of_toNat_eq (by simp; omega)
    rw [List.length_append, List.length_singleton, beBytes_succ_eq_append, beNat_append_singleton, hrest, hlast, ih]

/-- A word read from its bytes has those bytes. -/
theorem wordBytes_beWord {k : Nat} {bytes : List Byte} (hlen : bytes.length = k) :
    wordBytes k (beWord (8 * k) bytes) = bytes := by
  subst hlen
  have hfits : beNat bytes < 2 ^ (8 * bytes.length) := by rw [pow_mul]; exact beNat_lt bytes
  rw [wordBytes, beWord, BitVec.toNat_ofNat, Nat.mod_eq_of_lt hfits, beBytes_beNat]

/-! ### The derivation block (R107) -/

theorem wordBytes_derivationBlock (serial : Serial) (tag : Byte) (gen : Generation) :
    wordBytes 16 (derivationBlock serial tag gen) =
      wordBytes 8 serial ++ [tag] ++ wordBytes 2 gen ++ ((wordBytes 8 serial).take 4).map (fun b => ~~~b) ++ [0x01#8] := by
  have htag : wordBytes 1 tag = [tag] := by simp [wordBytes, beBytes]
  have hupper : wordBytes 4 (~~~(serial.extractLsb' 32 32)) = ((wordBytes 8 serial).take 4).map (fun b => ~~~b) := by
    rw [take_wordBytes (a := 4) (b := 4) serial]
    exact wordBytes_not (k := 4) _
  calc wordBytes 16 (derivationBlock serial tag gen)
      = wordBytes 15 (serial ++ tag ++ gen ++ ~~~(serial.extractLsb' 32 32)) ++ wordBytes 1 (0x01#8) :=
        wordBytes_append (a := 15) (b := 1) _ _
    _ = wordBytes 11 (serial ++ tag ++ gen) ++ wordBytes 4 (~~~(serial.extractLsb' 32 32)) ++ [0x01#8] :=
        congrArg (· ++ _) (wordBytes_append (a := 11) (b := 4) _ _)
    _ = wordBytes 9 (serial ++ tag) ++ wordBytes 2 gen ++ wordBytes 4 (~~~(serial.extractLsb' 32 32)) ++ [0x01#8] :=
        congrArg (· ++ _ ++ _) (wordBytes_append (a := 9) (b := 2) _ _)
    _ = wordBytes 8 serial ++ wordBytes 1 tag ++ wordBytes 2 gen ++ wordBytes 4 (~~~(serial.extractLsb' 32 32)) ++ [0x01#8] :=
        congrArg (· ++ _ ++ _ ++ _) (wordBytes_append (a := 8) (b := 1) _ _)
    _ = _ := by rw [htag, hupper]

theorem bitVec_append_inj {w v : Nat} {x x' : BitVec w} {y y' : BitVec v} (h : x ++ y = x' ++ y') : x = x' ∧ y = y' := by
  have hupper := congrArg (BitVec.extractLsb' v w) h
  have hlower := congrArg (BitVec.extractLsb' 0 v) h
  rw [BitVec.extractLsb'_append_eq_left, BitVec.extractLsb'_append_eq_left] at hupper
  rw [BitVec.extractLsb'_append_eq_right, BitVec.extractLsb'_append_eq_right] at hlower
  exact ⟨hupper, hlower⟩

/-- The serial, the tag and the generation can be read back from the block, whose parts stand at fixed places. -/
theorem derivationBlock_inj {serial serial' : Serial} {tag tag' : Byte} {gen gen' : Generation}
    (h : derivationBlock serial tag gen = derivationBlock serial' tag' gen') : serial = serial' ∧ tag = tag' ∧ gen = gen' := by
  obtain ⟨hrest, -⟩ := bitVec_append_inj h
  obtain ⟨hfields, -⟩ := bitVec_append_inj hrest
  obtain ⟨hserialTag, hgen⟩ := bitVec_append_inj hfields
  obtain ⟨hserial, htag⟩ := bitVec_append_inj hserialTag
  exact ⟨hserial, htag, hgen⟩

/-! ### Parity adjustment (R109) -/

theorem byteBits_xor_one (b : Byte) : byteBits (b ^^^ 0x01#8) = (byteBits b).dropLast ++ [!b.getLsbD 0] := by
  simp [byteBits]

/-- The one bits of a byte are those above its least significant bit and that bit itself. -/
theorem oneBits_eq (b : Byte) : oneBits b = (byteBits b).dropLast.count true + (b.getLsbD 0).toNat := by
  have hbits : byteBits b = (byteBits b).dropLast ++ [b.getLsbD 0] := rfl
  rw [oneBits, hbits, List.count_append, List.dropLast_concat]
  cases b.getLsbD 0 <;> rfl

theorem oneBits_xor_one (b : Byte) : oneBits (b ^^^ 0x01#8) = (byteBits b).dropLast.count true + (!b.getLsbD 0).toNat := by
  rw [oneBits, byteBits_xor_one, List.count_append]
  cases b.getLsbD 0 <;> rfl

/-- Inverting the least significant bit of a byte turns an even number of one bits into an odd one. -/
theorem oneBits_xor_one_odd {b : Byte} (heven : oneBits b % 2 = 0) : oneBits (b ^^^ 0x01#8) % 2 = 1 := by
  have hflip : (!b.getLsbD 0).toNat + (b.getLsbD 0).toNat = 1 := by cases b.getLsbD 0 <;> rfl
  rw [oneBits_eq] at heven
  rw [oneBits_xor_one]
  omega

theorem oneBits_oddByte (b : Byte) : oneBits (oddByte b) % 2 = 1 := by
  unfold oddByte
  split
  next heven => exact oneBits_xor_one_odd heven
  next hodd => omega

theorem oddByte_and (b : Byte) : oddByte b &&& 0xFE#8 = b &&& 0xFE#8 := by
  unfold oddByte
  split
  next => exact BitVec.eq_of_toNat_eq (by simp [Nat.and_xor_distrib_right])
  next => rfl

theorem oddByte_of_odd {b : Byte} (hodd : oneBits b % 2 = 1) : oddByte b = b := if_neg (by omega)

@[simp] theorem wordBytes_adjustParity_odd (k : Key) : wordBytes 16 (adjustParity .odd k) = (wordBytes 16 k).map oddByte :=
  wordBytes_beWord (k := 16) (by simp)

theorem getD_wordBytes_adjustParity_odd (k : Key) {i : Nat} (hi : i < 16) :
    (wordBytes 16 (adjustParity .odd k)).getD i 0 = oddByte ((wordBytes 16 k).getD i 0) := by
  rw [wordBytes_adjustParity_odd, List.getD_eq_getElem _ _ (by simpa using hi), List.getD_eq_getElem _ _ (by simpa using hi),
    List.getElem_map]

theorem oddThroughout_iff (k : Key) : oddThroughout k = true ↔ ∀ i < 16, oneBits ((wordBytes 16 k).getD i 0) % 2 = 1 := by
  simp only [oddThroughout, List.all_eq_true, beq_iff_eq, List.forall_mem_iff_getElem, length_wordBytes]
  exact forall₂_congr fun i hi => by rw [List.getD_eq_getElem]

/-! ### A terminal's answer to a KEY (R48) -/

@[simp] theorem decipher_encipher (k x : Key) : Config.decipher k (Config.encipher k x) = x :=
  (Config.transform k).symm_apply_apply x

@[simp] theorem heldUnder_holdKey (k : HeldKey) (l : List HeldKey) : heldUnder k.tag (holdKey k l) = some k := by
  simp [heldUnder, holdKey]

/-- A KEY for a tag kept, its generation not behind the committed one, is judged by the terminal's own test alone. -/
theorem Terminal.takeKey_of_current {t : Terminal} {tag : Byte} {gen : Generation} (wrapped : Key)
    (hkeeps : t.keeps.contains tag = true) (hcurrent : ∀ k, heldUnder tag t.committed = some k → k.gen ≤ gen) :
    t.takeKey tag gen wrapped =
      let key := Config.decipher t.working wrapped
      if t.demandsOdd && !oddThroughout key then (t, [tag, 0, 0, 0, 0x06#8])
      else ({ t with uncommitted := holdKey { tag := tag, gen := gen, key := key } t.uncommitted },
        [tag] ++ wordBytes 3 (checkValue key) ++ [0x02#8]) := by
  have hkept : tag ∈ t.keeps := by simpa using hkeeps
  unfold Terminal.takeKey
  cases hheld : heldUnder tag t.committed with
  | none => simp [hkept]
  | some k =>
    have hle : ¬ gen < k.gen := by simpa using hcurrent k hheld
    simp [hkept, hle]

/-- An answer with status INTEGRITY is a failed attempt, not a check value mismatch (R18). -/
theorem judgeKey_integrity (r : Prepared) (echo c2 c1 c0 : Byte) :
    judgeKey r (.clean [echo, c2, c1, c0, 0x06#8]) = .failure false := rfl

section KeyHeard

variable {t : Terminal} {tag : Byte} {gen : Generation} {position : Key}

/-- A terminal that demands odd parity refuses a key with an even byte and holds what it held (R48, R109). -/
theorem Terminal.takeKey_of_even (hkeeps : t.keeps.contains tag = true)
    (hcurrent : ∀ k, heldUnder tag t.committed = some k → k.gen ≤ gen) (hdemands : t.demandsOdd = true)
    (heven : ∃ i < 16, oneBits ((wordBytes 16 position).getD i 0) % 2 = 0) :
    t.takeKey tag gen (Config.encipher t.working position) = (t, [tag, 0, 0, 0, 0x06#8]) := by
  have hnotOdd : oddThroughout position = false := by
    obtain ⟨i, hi, heven⟩ := heven
    by_contra hodd
    have := (oddThroughout_iff position).1 (by simpa using hodd) i hi
    omega
  simp [Terminal.takeKey_of_current _ hkeeps hcurrent, hdemands, hnotOdd]

/-- A key that meets the terminal's parity test is held as it was before it was wrapped, and its check value answered (R48). -/
theorem Terminal.takeKey_of_accepted (hkeeps : t.keeps.contains tag = true)
    (hcurrent : ∀ k, heldUnder tag t.committed = some k → k.gen ≤ gen)
    (hodd : t.demandsOdd = true → ∀ i < 16, oneBits ((wordBytes 16 position).getD i 0) % 2 = 1) :
    t.takeKey tag gen (Config.encipher t.working position) =
      ({ t with uncommitted := holdKey { tag := tag, gen := gen, key := position } t.uncommitted },
        [tag] ++ wordBytes 3 (checkValue position) ++ [0x02#8]) := by
  have hpasses : t.demandsOdd = true → oddThroughout position = true := fun h => (oddThroughout_iff position).2 (hodd h)
  rw [Terminal.takeKey_of_current _ hkeeps hcurrent, decipher_encipher]
  exact if_neg (by simpa using hpasses)

end KeyHeard

/-- Settles O21: a word put together of words has their bytes one after another, inverting the lowest bit of a byte changes
the parity of its one bits, and deciphering under the same working key gives back the key that was wrapped. -/
theorem derivationAndParity : Obligations.DerivationAndParity := by
  refine ⟨fun base serial tag gen => ⟨wordBytes_derivationBlock serial tag gen, rfl, fun _ _ _ => derivationBlock_inj⟩,
    fun k => ⟨rfl, fun i hi => ?odd⟩, fun _ _ _ _ _ _ => ⟨rfl, rfl⟩, ?heard⟩
  case odd =>
    rw [getD_wordBytes_adjustParity_odd k hi]
    exact ⟨oneBits_oddByte _, oddByte_and _, oddByte_of_odd⟩
  case heard =>
    rintro _ position tag gen r t rfl hkeeps hcurrent
    refine ⟨fun hdemands heven => ?refused, fun hodd => ?held⟩
    case refused =>
      rw [Terminal.takeKey_of_even hkeeps hcurrent hdemands heven]
      exact ⟨rfl, rfl, judgeKey_integrity r tag 0 0 0⟩
    case held =>
      rw [Terminal.takeKey_of_accepted hkeeps hcurrent hodd]
      exact heldUnder_holdKey _ _

end Sys2Proof.Machine

/-! SUPPORT. The CRC register of R166 and the judgement of a received frame by it (R168), then the statement about them. -/

namespace Sys2Proof.Machine

/-! ### The CRC register (R166) -/

/-- One shift of the CRC-16 register toward its most significant end (R166, step 2), as `crc16Shifts` repeats it. -/
def crc16Shift (r : BitVec 16) : BitVec 16 := if r.msb then (r <<< 1) ^^^ 0x1021#16 else r <<< 1

theorem crc16Shift_of_msb {r : BitVec 16} (hmsb : r.msb = true) : crc16Shift r = (r <<< 1) ^^^ 0x1021#16 := if_pos hmsb

theorem crc16Shift_of_not_msb {r : BitVec 16} (hmsb : r.msb = false) : crc16Shift r = r <<< 1 := by simp [crc16Shift, hmsb]

theorem crc16Shifts_eq_iterate (k : Nat) (r : BitVec 16) : crc16Shifts k r = crc16Shift^[k] r := by
  induction k generalizing r with
  | zero => rfl
  | succ k ih => exact ih (crc16Shift r)

/-- A byte more goes through the register that the bytes before it have left. -/
theorem crc16_append_singleton (bytes : List Byte) (b : Byte) :
    crc16 (bytes ++ [b]) = crc16Shift^[8] (crc16 bytes ^^^ (b ++ 0x00#8)) := by
  rw [← crc16Shifts_eq_iterate]
  simp only [crc16, List.foldl_append, List.foldl_cons, List.foldl_nil, crc16Step]

/-- The polynomial is decided by the bit shifted out, so a word that has none there passes through a shift beside the register. -/
theorem crc16Shift_xor (r : BitVec 16) {x : BitVec 16} (hx : x.msb = false) :
    crc16Shift (r ^^^ x) = crc16Shift r ^^^ (x <<< 1) := by
  have hmsb : (r ^^^ x).msb = r.msb := by simp [hx]
  cases hr : r.msb with
  | true =>
    rw [crc16Shift_of_msb (hmsb.trans hr), crc16Shift_of_msb hr, BitVec.shiftLeft_xor_distrib, BitVec.xor_assoc, BitVec.xor_assoc,
      BitVec.xor_comm (x <<< 1)]
  | false => rw [crc16Shift_of_not_msb (hmsb.trans hr), crc16Shift_of_not_msb hr, BitVec.shiftLeft_xor_distrib]

/-- The same for `k` shifts and a word whose first `k` bits are zero. -/
theorem crc16Shift_iterate_xor {k : Nat} (r : BitVec 16) {x : BitVec 16} (hx : ∀ i < k, x.getMsbD i = false) :
    crc16Shift^[k] (r ^^^ x) = crc16Shift^[k] r ^^^ (x <<< k) := by
  induction k generalizing r x with
  | zero => simp
  | succ k ih =>
    have hmsb : x.msb = false := hx 0 (Nat.succ_pos k)
    have hrest : ∀ i < k, (x <<< 1).getMsbD i = false := fun i hi => by simp [hx (i + 1) (by omega)]
    rw [Function.iterate_succ_apply, Function.iterate_succ_apply, crc16Shift_xor r hmsb, ih _ hrest, ← BitVec.shiftLeft_add,
      Nat.add_comm 1 k]

/-- A word put together of two is the sum of its upper and its lower part. -/
theorem append_eq_xor {a b : Nat} (x : BitVec a) (y : BitVec b) : x ++ y = (x ++ 0#b) ^^^ (0#a ++ y) := by
  simp [BitVec.xor_append]

theorem getMsbD_zero_append {a b i : Nat} (y : BitVec b) (hi : i < a) : (0#a ++ y).getMsbD i = false := by
  simp [BitVec.getMsbD_append, Nat.not_le.2 hi]

theorem zero_append_shiftLeft {a : Nat} (y : BitVec a) : (0#a ++ y) <<< a = y ++ 0#a := by
  apply BitVec.eq_of_getLsbD_eq
  intro i hi
  have hinside : i - a < a := by omega
  rw [BitVec.getLsbD_shiftLeft, BitVec.getLsbD_append, BitVec.getLsbD_append]
  simp [hi, hinside]

/-- Two bytes more go through the register as the one word they make. -/
theorem crc16_append_pair (bytes : List Byte) (hi lo : Byte) :
    crc16 (bytes ++ [hi, lo]) = crc16Shift^[16] (crc16 bytes ^^^ (hi ++ lo)) := by
  have hword : hi ++ lo = (hi ++ 0x00#8) ^^^ (0x00#8 ++ lo) := append_eq_xor hi lo
  have hlow : (0x00#8 ++ lo) <<< 8 = lo ++ 0x00#8 := zero_append_shiftLeft lo
  have hupper : ∀ i < 8, (0x00#8 ++ lo).getMsbD i = false := fun _ => getMsbD_zero_append lo
  calc crc16 (bytes ++ [hi, lo])
      = crc16Shift^[8] (crc16 (bytes ++ [hi]) ^^^ (lo ++ 0x00#8)) := by
        rw [← crc16_append_singleton, List.append_assoc, List.singleton_append]
    _ = crc16Shift^[8] (crc16Shift^[8] (crc16 bytes ^^^ (hi ++ 0x00#8)) ^^^ (0x00#8 ++ lo) <<< 8) := by
        rw [crc16_append_singleton, hlow]
    _ = crc16Shift^[16] (crc16 bytes ^^^ (hi ++ lo)) := by
        rw [← crc16Shift_iterate_xor _ hupper, ← Function.iterate_add_apply, BitVec.xor_assoc, ← hword]

/-- No register but zero is shifted to zero: the polynomial's lowest bit marks a bit shifted out, and no other bit is lost. -/
theorem crc16Shift_eq_zero_iff (r : BitVec 16) : crc16Shift r = 0x0000#16 ↔ r = 0x0000#16 := by
  constructor
  · intro h
    cases hmsb : r.msb with
    | true =>
      rw [crc16Shift_of_msb hmsb] at h
      have hlow : ((r <<< 1) ^^^ 0x1021#16).getLsbD 0 = true := by simp
      simp [h] at hlow
    | false =>
      rw [crc16Shift_of_not_msb hmsb] at h
      have hsmall := BitVec.msb_eq_false_iff_two_mul_lt.1 hmsb
      bv_omega
  · rintro rfl; rfl

theorem crc16Shift_iterate_eq_zero_iff (k : Nat) (r : BitVec 16) : crc16Shift^[k] r = 0x0000#16 ↔ r = 0x0000#16 := by
  induction k generalizing r with
  | zero => rfl
  | succ k ih => exact (ih (crc16Shift r)).trans (crc16Shift_eq_zero_iff r)

/-- The two bytes of a word are its upper and its lower half (R1). -/
theorem wordBytes_two (c : BitVec 16) : wordBytes 2 c = [c.extractLsb' 8 8, c.extractLsb' 0 8] :=
  List.ext_getElem (by simp) fun i hi _ => by
    have hlen : i < 2 := by simpa using hi
    rw [getElem_wordBytes]
    interval_cases i <;> rfl

/-- The register reads zero after the CRC bytes of the bytes before them and after no others. -/
theorem crc16_append_wordBytes_eq_zero_iff (bytes : List Byte) (c : BitVec 16) :
    crc16 (bytes ++ wordBytes 2 c) = 0x0000#16 ↔ c = crc16 bytes := by
  have hhalves : c.extractLsb' 8 8 ++ c.extractLsb' 0 8 = c := BitVec.extractLsb'_append_extractLsb' (w := 8) (len := 8)
  rw [wordBytes_two, crc16_append_pair, hhalves, crc16Shift_iterate_eq_zero_iff, BitVec.xor_eq_zero_iff, eq_comm]

/-! ### The judgement of a received frame (R168) -/

theorem judgeFrame_of_crc16_ne (s : State) {bytes : List Byte} (hcrc : crc16 bytes ≠ 0x0000#16) :
    s.judgeFrame bytes = s.placeReject (bytes.getD 3 0x00#8) .frameCheck := if_pos hcrc

/-- A frame whose CRC is right and whose kind and body are those of a known request is that request arriving. -/
theorem judgeFrame_of_request {s : State} {c : RequestCode} {bytes args : List Byte} (hcrc : crc16 bytes = 0x0000#16)
    (hkind : bytes.getD 2 0x00#8 = requestKind) (hbody : (bytes.drop 4).take (bytes.length - 6) = c.code :: args) :
    s.judgeFrame bytes = s.requestArrives (bytes.getD 3 0x00#8) c.code args := by
  simp [State.judgeFrame, hcrc, hkind, hbody, -List.getD_eq_getElem?_getD]

/-- The body stands between the four bytes of length, kind and tag and the two CRC bytes (R165). -/
theorem take_drop_frame (n1 n0 kind tag : Byte) (body : List Byte) {check : List Byte} (hlen : check.length = 2) :
    let frame := [n1, n0, kind, tag] ++ body ++ check
    (frame.drop 4).take (frame.length - 6) = body := by
  intro frame
  have hcount : frame.length - 6 = body.length := by simp [frame, hlen]
  rw [hcount]
  exact List.take_left

/-- Settles O15: bits not yet shifted out are added to the register at any time, so the two CRC bytes act as one word upon it,
and no shift clears a register that is not zero already. -/
theorem frameCheck : Obligations.FrameCheck := by
  refine ⟨rfl, crc16_append_singleton, fun _ _ _ => rfl, crc16_append_wordBytes_eq_zero_iff,
    fun s _ hcrc => judgeFrame_of_crc16_ne s hcrc, ?request, by decide +kernel⟩
  case request =>
    intro s c n1 n0 tag args check hlen frame hcrc
    exact judgeFrame_of_request hcrc rfl (take_drop_frame n1 n0 requestKind tag (c.code :: args) hlen)

end Sys2Proof.Machine

/-! SUPPORT. Every command taken apart into small changes of the state: `BayMove`, what a bay controller does by itself; `Move`, a
change that starts or ends no cipher request and closes nothing; `Turn`, which adds what the cipher engine does; and `Jump`, the
closing of the window, the tamper response, RESTART and the supply. An invariant is proved once for each of them. -/

namespace Sys2Proof.Machine

/-! ### The invariants bay by bay -/

/-- The supply rule of one bay (R72). -/
def Bay.supplyOk (x : Bay) : Prop := x.supply = x.supplyExpected ∧ (x.line.tx.isReset = true → x.supply = true)

/-- The context table of one bay (R5). -/
def Bay.tableOk (x : Bay) : Prop :=
  x.contexts.length ≤ 4 ∧ x.contexts.map (fun c => c.addr.val) = List.range x.contexts.length ∧
    (x.contexts.map (fun c => c.serial)).Nodup ∧ x.offerFits

/-- The key set of one context worked in order under a profile (R17, R19). -/
def Context.inOrder (c : Context) (p : Profile) : Prop :=
  (c.phase = .loading → ∀ x ∈ p.numbered, x.1.derives = true → x.2 < c.posIndex →
    ((c.confirmed[x.2 - 1]?).join).isSome = true) ∧
  (c.phase = .committing → ∀ x ∈ p.numbered, x.1.derives = true → ((c.confirmed[x.2 - 1]?).join).isSome = true)

/-- The key sets of one bay worked in order, under the profiles of a state. -/
def Bay.positionsOk (s : State) (x : Bay) : Prop :=
  ∀ c ∈ x.contexts, ∀ p, s.profileOf c = some p → c.inOrder p

theorem supplyFollows_iff (s : State) : SupplyFollows s ↔ ∀ b, (s.bay b).supplyOk := Iff.rfl
theorem tablesOrdered_iff (s : State) : TablesOrdered s ↔ ∀ b, (s.bay b).tableOk := Iff.rfl
theorem positionsInOrder_iff (s : State) : PositionsInOrder s ↔ ∀ b, (s.bay b).positionsOk s := Iff.rfl

/-- A context outside LOADING and COMMITTING has nothing to keep in order. -/
theorem Context.inOrder_of_phase {c : Context} (p : Profile) (hl : c.phase ≠ .loading) (hc : c.phase ≠ .committing) :
    c.inOrder p := ⟨fun h => absurd h hl, fun h => absurd h hc⟩

/-- The serial and the address that the roll phase offers in its next ENROL. -/
def RollNext.offers : RollNext → Option (Serial × Addr)
  | .enrol serial _ a _ _ => some (serial, a)
  | _ => Option.none

theorem offerFits_iff (x : Bay) :
    x.offerFits ↔ ∀ serial a, x.roll.offers = some (serial, a) →
      (∃ c ∈ x.contexts, c.serial = serial ∧ c.addr = a) ∨
        ((∀ c ∈ x.contexts, c.serial ≠ serial) ∧ a.val = x.contexts.length) := by
  unfold Bay.offerFits RollNext.offers
  cases x.roll <;> simp

/-- With the table in order a context is known by its address. -/
theorem Bay.tableOk.addr_inj {x : Bay} (h : x.tableOk) {c d : Context} (hc : c ∈ x.contexts) (hd : d ∈ x.contexts)
    (ha : c.addr = d.addr) : c = d := by
  have hnd : (x.contexts.map (fun c => c.addr.val)).Nodup := h.2.1 ▸ List.nodup_range
  exact List.inj_on_of_nodup_map hnd hc hd (congrArg Fin.val ha)

theorem Bay.ctx_mem {x : Bay} {a : Addr} {c : Context} (h : x.ctx a = some c) : c ∈ x.contexts := List.mem_of_find?_eq_some h

theorem Bay.ctx_addr {x : Bay} {a : Addr} {c : Context} (h : x.ctx a = some c) : c.addr = a := by
  simpa using List.find?_some h

theorem Bay.handCtx_mem {x : Bay} {c : Context} (h : x.handCtx = some c) : c ∈ x.contexts := by
  obtain ⟨a, _, h⟩ := Option.bind_eq_some_iff.1 h
  exact ctx_mem h

/-! ### What a change of a bay keeps -/

/-- A change of a bay that keeps its supply rule, its table and the order of its key sets. -/
structure BayKept (s : State) (x y : Bay) : Prop where
  supply : x.supplyOk → y.supplyOk
  table : x.tableOk → y.tableOk
  positions : x.tableOk → x.positionsOk s → y.positionsOk s

theorem BayKept.refl (s : State) (x : Bay) : BayKept s x x := ⟨id, id, fun _ => id⟩

theorem BayKept.trans {s : State} {x y z : Bay} (h : BayKept s x y) (k : BayKept s y z) : BayKept s x z :=
  ⟨k.supply ∘ h.supply, k.table ∘ h.table, fun ht hp => k.positions (h.table ht) (h.positions ht hp)⟩

/-- What a change of a context keeps: who it is, and the order of its key set. -/
structure CtxKept (s : State) (c d : Context) : Prop where
  addr : d.addr = c.addr
  serial : d.serial = c.serial
  order : (∀ p, s.profileOf c = some p → c.inOrder p) → ∀ p, s.profileOf d = some p → d.inOrder p

theorem CtxKept.refl (s : State) (c : Context) : CtxKept s c c := ⟨rfl, rfl, id⟩

/-- A change of a context that leaves its phase, entry, position and confirmations. -/
theorem CtxKept.of_eq {s : State} {c d : Context} (ha : d.addr = c.addr) (hs : d.serial = c.serial) (he : d.entry = c.entry)
    (hp : d.phase = c.phase) (hi : d.posIndex = c.posIndex) (hc : d.confirmed = c.confirmed) : CtxKept s c d := by
  refine ⟨ha, hs, fun h p hprof => ?_⟩
  have := h p (by simpa [State.profileOf, he] using hprof)
  simpa [Context.inOrder, hp, hi, hc] using this

/-- A change of a context that takes it out of LOADING and COMMITTING. -/
theorem CtxKept.of_phase {s : State} {c d : Context} (ha : d.addr = c.addr) (hs : d.serial = c.serial)
    (hl : d.phase ≠ .loading) (hc : d.phase ≠ .committing) : CtxKept s c d :=
  ⟨ha, hs, fun _ p _ => d.inOrder_of_phase p hl hc⟩

/-- The table and the order of the key sets are kept by a change that goes context by context and offers no new ENROL. -/
theorem BayKept.of_map {s : State} {x y : Bay} (f : Context → Context) (hsup : x.supplyOk → y.supplyOk)
    (hctx : y.contexts = x.contexts.map f) (hroll : y.roll.offers = none ∨ y.roll.offers = x.roll.offers)
    (hid : ∀ c ∈ x.contexts, (f c).addr = c.addr ∧ (f c).serial = c.serial)
    (hf : x.tableOk → ∀ c ∈ x.contexts, CtxKept s c (f c)) : BayKept s x y := by
  refine ⟨hsup, fun ⟨hlen, haddr, hnd, hoff⟩ => ⟨?_, ?_, ?_, ?_⟩, fun ht hpos => ?_⟩
  · simpa [hctx] using hlen
  · rw [hctx, List.length_map, ← haddr, List.map_map]
    exact List.map_congr_left fun c hc => by simp [(hid c hc).1]
  · rw [hctx, List.map_map]
    rwa [List.map_congr_left (g := fun c : Context => c.serial) fun c hc => by simp [(hid c hc).2]]
  · rw [offerFits_iff] at hoff ⊢
    intro serial a ho
    rcases hroll with hn | hr
    · simp [hn] at ho
    · rcases hoff serial a (hr ▸ ho) with ⟨c, hc, h1, h2⟩ | ⟨h1, h2⟩
      · exact .inl ⟨f c, hctx ▸ List.mem_map_of_mem hc, (hid c hc).2.trans h1, (hid c hc).1.trans h2⟩
      · refine .inr ⟨fun d hd => ?_, by simpa [hctx] using h2⟩
        rw [hctx, List.mem_map] at hd
        obtain ⟨c, hc, rfl⟩ := hd
        rw [(hid c hc).2]
        exact h1 c hc
  · intro d hd p hprof
    rw [hctx, List.mem_map] at hd
    obtain ⟨c, hc, rfl⟩ := hd
    exact (hf ht c hc).order (hpos c hc) p hprof

/-- A change of a bay that leaves its table and offers no new ENROL. -/
theorem BayKept.of_contexts {s : State} {x y : Bay} (hsup : x.supplyOk → y.supplyOk) (hctx : y.contexts = x.contexts)
    (hroll : y.roll.offers = none ∨ y.roll.offers = x.roll.offers) : BayKept s x y :=
  .of_map id hsup (by simpa using hctx) hroll (fun _ _ => ⟨rfl, rfl⟩) fun _ c _ => .refl s c

/-- A change of a bay that empties its table. -/
theorem BayKept.of_empty {s : State} {x y : Bay} (hsup : x.supplyOk → y.supplyOk) (hctx : y.contexts = [])
    (hroll : y.roll.offers = none) : BayKept s x y := by
  refine ⟨hsup, fun _ => ⟨by simp [hctx], by simp [hctx], by simp [hctx], ?_⟩, fun _ _ c hc => by simp [hctx] at hc⟩
  rw [offerFits_iff]; simp [hroll]

/-- The supply rule is kept where state, fault reason and supply are left and no line reset begins. -/
theorem Bay.supplyOk.of_eq {x y : Bay} (h : x.supplyOk) (hst : y.state = x.state) (hf : y.faultReason = x.faultReason)
    (hs : y.supply = x.supply) (hr : y.line.tx.isReset = true → x.line.tx.isReset = true) : y.supplyOk := by
  refine ⟨?_, fun h' => hs ▸ h.2 (hr h')⟩
  have hexp : y.supplyExpected = x.supplyExpected := by unfold Bay.supplyExpected; rw [hst, hf]
  rw [hs, hexp, h.1]

/-- A change of a bay's line or bookkeeping that leaves its state, supply and table. -/
theorem BayKept.of_eq {s : State} {x y : Bay} (hst : y.state = x.state) (hf : y.faultReason = x.faultReason)
    (hs : y.supply = x.supply) (hr : y.line.tx.isReset = true → x.line.tx.isReset = true) (hctx : y.contexts = x.contexts)
    (hroll : y.roll.offers = none ∨ y.roll.offers = x.roll.offers) : BayKept s x y :=
  .of_contexts (fun h => h.of_eq hst hf hs hr) hctx hroll

/-- A change of the contexts at one address. -/
theorem BayKept.updCtx {s : State} {x : Bay} {a : Addr} {f : Context → Context}
    (hid : ∀ c ∈ x.contexts, c.addr = a → (f c).addr = c.addr ∧ (f c).serial = c.serial)
    (hf : x.tableOk → ∀ c ∈ x.contexts, c.addr = a → CtxKept s c (f c)) : BayKept s x (x.updCtx a f) := by
  refine .of_map (fun c => if c.addr = a then f c else c) (fun h => h.of_eq rfl rfl rfl id) rfl (.inr rfl) ?_ ?_
  · intro c hc
    split
    · next h => exact hid c hc h
    · exact ⟨rfl, rfl⟩
  · intro ht c hc
    split
    · next h => exact hf ht c hc h
    · exact .refl s c

/-- A change of the contexts at one address, the same for every context. -/
theorem BayKept.updCtx_all {s : State} {x : Bay} {a : Addr} {f : Context → Context} (hf : ∀ c, CtxKept s c (f c)) :
    BayKept s x (x.updCtx a f) :=
  .updCtx (fun c _ _ => ⟨(hf c).addr, (hf c).serial⟩) fun _ c _ _ => hf c

@[simp] theorem updCtx_state (x : Bay) (a : Addr) (f : Context → Context) : (x.updCtx a f).state = x.state := rfl
@[simp] theorem updCtx_faultReason (x : Bay) (a : Addr) (f : Context → Context) : (x.updCtx a f).faultReason = x.faultReason := rfl
@[simp] theorem updCtx_supply (x : Bay) (a : Addr) (f : Context → Context) : (x.updCtx a f).supply = x.supply := rfl
@[simp] theorem updCtx_batch (x : Bay) (a : Addr) (f : Context → Context) : (x.updCtx a f).batch = x.batch := rfl
@[simp] theorem updCtx_buffers (x : Bay) (a : Addr) (f : Context → Context) : (x.updCtx a f).buffers = x.buffers := rfl
@[simp] theorem updCtx_line (x : Bay) (a : Addr) (f : Context → Context) : (x.updCtx a f).line = x.line := rfl
@[simp] theorem updCtx_roll (x : Bay) (a : Addr) (f : Context → Context) : (x.updCtx a f).roll = x.roll := rfl
@[simp] theorem updCtx_rollOver (x : Bay) (a : Addr) (f : Context → Context) : (x.updCtx a f).rollOver = x.rollOver := rfl
@[simp] theorem updCtx_rateOwed (x : Bay) (a : Addr) (f : Context → Context) : (x.updCtx a f).rateOwed = x.rateOwed := rfl
@[simp] theorem updCtx_resendAt (x : Bay) (a : Addr) (f : Context → Context) : (x.updCtx a f).resendAt = x.resendAt := rfl
@[simp] theorem updCtx_isRunning (x : Bay) (a : Addr) (f : Context → Context) : (x.updCtx a f).isRunning = x.isRunning := rfl

/-! ### The cipher queue (R100) -/

/-- The places held in the cipher queue are within their bounds (R100). -/
def Cipher.sharesOk (c : Cipher) : Prop := c.held ≤ 16 ∧ ∀ b, c.heldBy b ≤ 2

/-- A change of the cipher unit that keeps its bounds and goes on with the job it runs. -/
structure CipherKept (c d : Cipher) : Prop where
  shares : c.sharesOk → d.sharesOk
  job : d.running.map (·.job) = c.running.map (·.job)

theorem CipherKept.refl (c : Cipher) : CipherKept c c := ⟨id, rfl⟩

theorem CipherKept.trans {c d e : Cipher} (h : CipherKept c d) (k : CipherKept d e) : CipherKept c e :=
  ⟨k.shares ∘ h.shares, k.job.trans h.job⟩

/-- The places of a bay held by the running request. -/
def Cipher.runningOf (c : Cipher) (b : BayId) : Nat := if c.running.bind (·.job.bay) = some b then 1 else 0

theorem heldBy_eq (c : Cipher) (b : BayId) : c.heldBy b = c.queue.countP (fun r => r.job.bay == some b) + c.runningOf b := by
  unfold Cipher.heldBy Cipher.runningOf
  cases c.running <;> rfl

theorem runningOf_congr {c d : Cipher} (h : d.running.map (·.job) = c.running.map (·.job)) (b : BayId) :
    d.runningOf b = c.runningOf b := by
  unfold Cipher.runningOf
  have hb : ∀ e : Cipher, e.running.bind (·.job.bay) = (e.running.map (·.job)).bind (·.bay) := fun e => by cases e.running <;> rfl
  rw [hb d, hb c, h]

theorem isSome_congr {c d : Cipher} (h : d.running.map (·.job) = c.running.map (·.job)) :
    d.running.isSome = c.running.isSome := by simpa using congrArg Option.isSome h

/-- A shorter queue of the same kind of requests beside the same running job stays within the bounds. -/
theorem CipherKept.of_queue {c d : Cipher} (hr : d.running.map (·.job) = c.running.map (·.job))
    (hq : (d.queue.map (·.job)).Sublist (c.queue.map (·.job))) : CipherKept c d := by
  refine ⟨fun ⟨h1, h2⟩ => ⟨?_, fun b => ?_⟩, hr⟩
  · have := hq.length_le
    simp only [List.length_map] at this
    unfold Cipher.held at h1 ⊢
    rw [isSome_congr hr]; omega
  · have hcount : ∀ l : List CipherRequest,
        l.countP (fun r => r.job.bay == some b) = (l.map (·.job)).countP (fun j => j.bay == some b) := fun l => by
      rw [List.countP_map]; rfl
    have := h2 b
    rw [heldBy_eq, hcount] at this ⊢
    have hle := hq.countP_le (p := fun j : CipherJob => j.bay == some b)
    rw [runningOf_congr hr]; omega

/-- A request that passes the admission test can join the queue (R100). -/
theorem CipherKept.joins {c : Cipher} {r : CipherRequest} (h : c.admits r.job = true) :
    CipherKept c { c with queue := c.queue ++ [r] } := by
  refine ⟨fun ⟨h1, h2⟩ => ⟨?_, fun b => ?_⟩, rfl⟩
  · have : c.held < 16 := by
      unfold Cipher.admits at h
      simp only [Bool.and_eq_true, decide_eq_true_eq] at h
      exact h.1
    unfold Cipher.held at this ⊢
    simp only [List.length_append, List.length_cons, List.length_nil]
    omega
  · have hb := h2 b
    rw [heldBy_eq] at hb ⊢
    have hrun : ({ c with queue := c.queue ++ [r] } : Cipher).runningOf b = c.runningOf b := rfl
    rw [hrun]
    simp only [List.countP_append, List.countP_singleton]
    split
    · next hbay =>
      have hbay : r.job.bay = some b := by simpa using hbay
      unfold Cipher.admits at h
      rw [hbay] at h
      simp only [Bool.and_eq_true, decide_eq_true_eq, heldBy_eq, Config.bayShare] at h
      omega
    · omega

theorem CipherKept.examineFrom (l : List CipherRequest) (c : Cipher) : CipherKept c (Cipher.examineFrom l c) := by
  induction l generalizing c with
  | nil => exact .refl c
  | cons r rest ih =>
    unfold Cipher.examineFrom
    split
    · next h => exact (CipherKept.joins h).trans (ih _)
    · exact CipherKept.trans (d := { c with waiting := c.waiting ++ [r] }) (.of_queue rfl (List.Sublist.refl _)) (ih _)

theorem CipherKept.examine (c : Cipher) : CipherKept c c.examine :=
  CipherKept.trans (d := { c with waiting := [] }) (.of_queue rfl (List.Sublist.refl _)) (.examineFrom c.waiting _)

theorem CipherKept.place (job : CipherJob) (urgent : Bool) (c : Cipher) : CipherKept c (c.place job urgent) := by
  unfold Cipher.place
  dsimp only
  split
  · next h => exact .joins h
  · exact .of_queue rfl (List.Sublist.refl _)

theorem CipherKept.raise (p : CipherJob → Bool) (c : Cipher) : CipherKept c (c.raise p) := by
  refine .of_queue rfl ?_
  have : (c.raise p).queue.map (·.job) = c.queue.map (·.job) := by
    simp only [Cipher.raise, List.map_map]
    exact List.map_congr_left fun r _ => by simp only [Function.comp]; split <;> rfl
  rw [this]

theorem CipherKept.withdraw (p : CipherJob → Bool) (c : Cipher) : CipherKept c (c.withdraw p) := by
  refine CipherKept.trans (.of_queue ?_ ?_) (.examine _)
  · cases c.running with
    | none => rfl
    | some r => simp only [Option.map_some, Option.some.injEq]; split <;> rfl
  · exact List.Sublist.map _ List.filter_sublist

theorem CipherKept.closeDerivations (c : Cipher) : CipherKept c c.closeDerivations :=
  CipherKept.trans
    (d := { c with queue := c.queue.filter (fun r => !r.job.isDerivation)
                   waiting := c.waiting.filter (fun r => !r.job.isDerivation) })
    (.of_queue rfl (List.Sublist.map _ List.filter_sublist)) (.examine _)

theorem CipherKept.setHolder (c : Cipher) (b : BayId) (a : Addr) (k : Option Key) : CipherKept c (c.setHolder b a k) :=
  .of_queue rfl (List.Sublist.refl _)

theorem CipherKept.emptyHolders (c : Cipher) (b : BayId) : CipherKept c (c.emptyHolders b) :=
  .of_queue rfl (List.Sublist.refl _)

theorem CipherKept.dropContext (b : BayId) (a : Addr) (c : Cipher) : CipherKept c (c.dropContext b a) :=
  (CipherKept.setHolder c b a none).trans (.withdraw _ _)

/-- The end of the running request leaves the bounds (R105). -/
theorem sharesOk_free {c : Cipher} (h : c.sharesOk) : ({ c with running := none } : Cipher).examine.sharesOk := by
  refine (CipherKept.examine _).shares ⟨?_, fun b => ?_⟩
  · have := h.1
    unfold Cipher.held at this ⊢
    simp only [Option.isSome_none, Bool.false_eq_true, if_false]
    omega
  · have := h.2 b
    rw [heldBy_eq] at this ⊢
    have hrun : ({ c with running := none } : Cipher).runningOf b = 0 := rfl
    rw [hrun]; show c.queue.countP _ + 0 ≤ 2; omega

/-- A request that becomes running keeps its place (R100, R103). -/
theorem sharesOk_run {c : Cipher} {r : CipherRequest} {x : Running} (hr : r ∈ c.queue)
    (hx : x.job = r.job) (h : c.sharesOk) : (c.run r x).sharesOk := by
  have hlen := List.length_erase_of_mem hr
  have hpos := List.length_pos_of_mem hr
  refine ⟨?_, fun b => ?_⟩
  · have := h.1
    simp only [Cipher.held, Cipher.run, Option.isSome_some, if_true, hlen] at this ⊢
    split at this <;> omega
  · have := h.2 b
    rw [heldBy_eq] at this ⊢
    have hcount := (List.perm_cons_erase hr).countP_eq (fun q => q.job.bay == some b)
    rw [hcount, List.countP_cons] at this
    have hrun : (c.run r x).runningOf b = if (r.job.bay == some b) = true then 1 else 0 := by
      simp [Cipher.runningOf, Cipher.run, hx]
    have hqueue : (c.run r x).queue = c.queue.erase r := rfl
    rw [hrun, hqueue]
    omega

end Sys2Proof.Machine

/-! SUPPORT. The bay controllers' own changes (Bay.lean), as paths of small changes. -/

namespace Sys2Proof.Machine

/-! ### Small changes -/

/-- A small change by the controller of one bay: of the bay itself (with the record that ends its batch where it ends one), of the
cipher requests, of the report queue, of the notice flags, and an answer. -/
inductive BayMove (b : BayId) : State → State → Prop
  | bay (s : State) (y : Bay) (hr : y.isRunning = true → (s.bay b).isRunning = true) (h : BayKept s (s.bay b) y) :
      BayMove b s (s.setBay b y)
  | close (s : State) (body : RecordBody) (y : Bay) (hr : (s.bay b).isRunning = true) (hn : y.isRunning = false)
      (h : BayKept s (s.bay b) y) : BayMove b s ((s.appendRecord body).setBay b y)
  | cipher (s : State) (c : Cipher) (h : CipherKept s.cipher c) : BayMove b s { s with cipher := c }
  | append (s : State) (body : RecordBody) (h : s.room = true) : BayMove b s (s.appendRecord body)
  | waits (s : State) (w : List WaitingAppend) : BayMove b s { s with report := { s.report with waiting := w } }
  | raise (s : State) (f : Flag) : BayMove b s (s.raise f)
  | answer (s : State) (code : ResultCode) (contents : List Byte) : BayMove b s (s.answer code contents)

/-- A run of small changes by the controller of one bay. -/
def BayPath (b : BayId) : State → State → Prop := Relation.ReflTransGen (BayMove b)

theorem BayPath.refl (b : BayId) (s : State) : BayPath b s s := Relation.ReflTransGen.refl

theorem BayPath.single {b : BayId} {s t : State} (h : BayMove b s t) : BayPath b s t := Relation.ReflTransGen.single h

theorem BayPath.trans {b : BayId} {s t u : State} (h : BayPath b s t) (k : BayPath b t u) : BayPath b s u :=
  Relation.ReflTransGen.trans h k

/-- A run that ends with a change of the cipher unit. -/
theorem BayPath.cipher {b : BayId} {s t : State} {c : Cipher} (h : BayPath b s t) (hc : CipherKept t.cipher c) :
    BayPath b s { t with cipher := c } := h.trans (.single (.cipher t c hc))

/-- A run that ends with a flag raised. -/
theorem BayPath.raise {b : BayId} {s t : State} (h : BayPath b s t) (f : Flag) : BayPath b s (t.raise f) :=
  h.trans (.single (.raise t f))

/-- A run that ends with an answer. -/
theorem BayPath.answer {b : BayId} {s t : State} (h : BayPath b s t) (code : ResultCode) (contents : List Byte) :
    BayPath b s (t.answer code contents) := h.trans (.single (.answer t code contents))

theorem BayPath.upd {b : BayId} {s : State} {f : Bay → Bay} (hr : (f (s.bay b)).isRunning = true → (s.bay b).isRunning = true)
    (h : BayKept s (s.bay b) (f (s.bay b))) : BayPath b s (s.updBay b f) := .single (.bay s _ hr h)

/-- A change of the contexts at one address. -/
theorem BayPath.updCtx_all {b : BayId} {s : State} {a : Addr} {f : Context → Context} (h : ∀ c, CtxKept s c (f c)) :
    BayPath b s (s.updBay b (fun x => x.updCtx a f)) := .upd id (.updCtx_all h)

/-- A change of a bay's line or bookkeeping that leaves its state, supply and table. -/
theorem BayPath.upd_of_eq {b : BayId} {s : State} {f : Bay → Bay} (hst : (f (s.bay b)).state = (s.bay b).state)
    (hf : (f (s.bay b)).faultReason = (s.bay b).faultReason) (hs : (f (s.bay b)).supply = (s.bay b).supply)
    (hr : (f (s.bay b)).line.tx.isReset = true → (s.bay b).line.tx.isReset = true)
    (hctx : (f (s.bay b)).contexts = (s.bay b).contexts)
    (hroll : (f (s.bay b)).roll.offers = none ∨ (f (s.bay b)).roll.offers = (s.bay b).roll.offers) :
    BayPath b s (s.updBay b f) :=
  .upd (fun h => by unfold Bay.isRunning at h ⊢; rwa [hst] at h) (.of_eq hst hf hs hr hctx hroll)

/-! ### Records handed over -/

theorem markAppended_path (b : BayId) (a : Addr) (s : State) : BayPath b s (s.markAppended b a) :=
  .updCtx_all fun _ => .of_eq rfl rfl rfl rfl rfl rfl

theorem requestAppend_path (b : BayId) (a : Addr) (r : TerminalRecord) (s : State) : BayPath b s (s.requestAppend b a r) := by
  rcases requestAppend_cases b a r s with ⟨hroom, _, h⟩ | ⟨_, h⟩
  · rw [h]
    exact (BayPath.single (.append s _ hroom)).trans (markAppended_path b a _)
  · rw [h]
    exact .single (.waits s _)

theorem withdrawAppends_path (b : BayId) (s : State) : BayPath b s (s.withdrawAppends b) := .single (.waits s _)

/-! ### The decision of an outcome -/

theorem decided_kept (s : State) (a : Addr) (v : Verdict) (x : Bay) : BayKept s x (x.decided a v) := by
  refine BayKept.trans (y := x.updCtx a (fun c => { c with phase := .reportWait, outcome := some v })) ?_ ?_
  · exact .updCtx_all fun _ => .of_phase rfl rfl (by simp) (by simp)
  · exact .of_eq rfl rfl rfl id rfl (.inr rfl)

theorem decideOutcome_path (b : BayId) (a : Addr) (v : Verdict) (s : State) : BayPath b s (s.decideOutcome b a v) := by
  have hdrop : BayPath b s { s.updBay b (Bay.decided a v) with cipher := (s.updBay b (Bay.decided a v)).cipher.dropContext b a } :=
    .cipher (.upd id (decided_kept s a v _)) (.dropContext b a _)
  unfold State.decideOutcome
  split
  · exact .refl b s
  · split
    · exact .refl b s
    · dsimp only
      split
      · exact hdrop
      · exact hdrop.trans (requestAppend_path b a _ _)

/-! ### The terminal in hand -/

theorem takeInHand_path (b : BayId) (s : State) : BayPath b s (s.updBay b Bay.takeInHand) := by
  have hkept : BayKept s (s.bay b) (s.bay b).takeInHand := by
    unfold Bay.takeInHand
    split
    · next c _ hc =>
      refine BayKept.trans (.updCtx_all (a := c.addr) (f := fun c => { c with phase := .transport }) fun _ =>
        .of_phase rfl rfl (by simp) (by simp)) (.of_eq rfl rfl rfl id rfl (.inr rfl))
    · exact .refl _ _
  refine .upd (fun h => ?_) hkept
  unfold Bay.takeInHand at h
  split at h <;> exact h

theorem placePrepare_path (b : BayId) (c : Context) (p : Profile) (d : Descriptor) (pos : Nat) (urgent : Bool) (s : State) :
    BayPath b s (s.placePrepare b c p d pos urgent) := by
  unfold State.placePrepare
  split
  · exact .refl b s
  · exact .cipher (.upd_of_eq rfl rfl rfl id rfl (.inr rfl)) (.place _ _ _)

theorem placeTransport_path (b : BayId) (c : Context) (p : Profile) (urgent : Bool) (s : State) :
    BayPath b s (s.placeTransport b c p urgent) := .cipher (.refl b s) (.place _ _ _)

theorem mem_numbered_pos {p : Profile} {x : Descriptor × Nat} (h : x ∈ p.numbered) : 1 ≤ x.2 := by
  obtain ⟨i, hi⟩ := List.mem_iff_getElem?.1 h
  obtain ⟨_, rfl⟩ := List.getElem?_eq_some_iff.1 hi
  simp [Profile.numbered, List.getElem_zipIdx]

theorem workTransport_path (b : BayId) (s : State) : BayPath b s (s.workTransport b) := by
  unfold State.workTransport
  split
  · exact .refl b s
  split
  · exact .refl b s
  split
  · refine .updCtx_all fun c => ⟨rfl, rfl, fun _ p _ => ⟨fun _ x hx _ hlt => ?_, fun h => by simp at h⟩⟩
    exact absurd hlt (Nat.not_lt.2 (mem_numbered_pos hx))
  split
  · exact .cipher (.refl b s) (.raise _ _)
  split
  · exact placeTransport_path b _ _ true s
  · exact .refl b s

/-- The positions of a key set are numbered upward. -/
theorem numbered_pairwise (p : Profile) : p.numbered.Pairwise (fun x y => x.2 < y.2) := by
  have h : (p.numbered.map Prod.snd).Pairwise (· < ·) := by
    simp only [Profile.numbered, List.zipIdx_map_snd]
    exact List.pairwise_lt_range'
  exact (List.pairwise_map.1 h)

/-- Before the next position every DERIVE position at or after the position index is confirmed (R17). -/
theorem confirmed_before_next {c : Context} {p : Profile} {d : Descriptor} {pos : Nat} (h : c.nextPosition p = some (d, pos))
    {x : Descriptor × Nat} (hx : x ∈ p.numbered) (hd : x.1.derives = true) (hle : c.posIndex ≤ x.2) (hlt : x.2 < pos) :
    ((c.confirmed[x.2 - 1]?).join).isSome = true := by
  obtain ⟨_, before, after, hlist, hbefore⟩ := List.find?_eq_some_iff_append.1 h
  have hmem : x ∈ before := by
    rw [hlist] at hx
    rcases List.mem_append.1 hx with hx | hx
    · exact hx
    · exfalso
      have hpw := numbered_pairwise p
      rw [hlist] at hpw
      rcases List.mem_cons.1 hx with rfl | hx
      · exact Nat.lt_irrefl _ hlt
      · have := (List.pairwise_cons.1 (List.pairwise_append.1 hpw).2.1).1 x hx
        simp only at this
        omega
  have := hbefore x hmem
  simp only [hle, hd, decide_true, Bool.and_self, Bool.true_and, Bool.not_eq_true', Option.isNone_eq_false_iff] at this
  exact this

/-- With no next position every DERIVE position at or after the position index is confirmed (R17). -/
theorem confirmed_of_no_next {c : Context} {p : Profile} (h : c.nextPosition p = none) {x : Descriptor × Nat}
    (hx : x ∈ p.numbered) (hd : x.1.derives = true) (hle : c.posIndex ≤ x.2) :
    ((c.confirmed[x.2 - 1]?).join).isSome = true := by
  have := List.find?_eq_none.1 h x hx
  simp only [hle, hd, decide_true, Bool.and_self, Bool.true_and, Bool.not_eq_true, Option.isNone_eq_false_iff] at this
  exact this

theorem workLoading_path (b : BayId) (s : State) : BayPath b s (s.workLoading b) := by
  unfold State.workLoading
  split
  · exact .refl b s
  next c hc =>
  split
  · exact .refl b s
  next hphase =>
  have hphase : c.phase = .loading := not_not.1 hphase
  have hmem := Bay.handCtx_mem hc
  split
  · exact .refl b s
  next p hp =>
  split
  · next hnext =>
    refine .upd id (.updCtx (fun _ _ _ => ⟨rfl, rfl⟩) fun ht d hd ha => ?_)
    obtain rfl := ht.addr_inj hd hmem ha
    refine ⟨rfl, rfl, fun hord q hq => ⟨fun h => by simp at h, fun _ x hx hder => ?_⟩⟩
    obtain rfl : p = q := Option.some.inj (hp.symm.trans hq)
    rcases Nat.lt_or_ge x.2 d.posIndex with hlt | hle
    · exact (hord p hp).1 hphase x hx hder hlt
    · exact confirmed_of_no_next hnext hx hder hle
  · next d pos hnext =>
    dsimp only
    have hset : BayPath b s (s.updBay b (fun x => x.updCtx c.addr (fun c => { c with posIndex := pos }))) := by
      refine .upd id (.updCtx (fun _ _ _ => ⟨rfl, rfl⟩) fun ht e he ha => ?_)
      obtain rfl := ht.addr_inj he hmem ha
      refine ⟨rfl, rfl, fun hord q hq => ⟨fun _ x hx hder hlt => ?_, fun h => by simp [hphase] at h⟩⟩
      obtain rfl : p = q := Option.some.inj (hp.symm.trans hq)
      rcases Nat.lt_or_ge x.2 e.posIndex with hlt' | hle
      · exact (hord p hp).1 hphase x hx hder hlt'
      · exact confirmed_before_next hnext hx hder hle hlt
    split
    · exact hset
    split
    · exact .cipher hset (.raise _ _)
    split
    · exact hset.trans (placePrepare_path b c p d pos true _)
    · exact hset

/-! ### Prepare-ahead -/

theorem aheadNext_path (b : BayId) (c : Context) (s : State) : BayPath b s (s.aheadNext b c) := by
  unfold State.aheadNext
  split
  · exact .refl b s
  split
  · split
    · exact .refl b s
    · exact placeTransport_path b _ _ _ s
  split
  · exact .refl b s
  split
  · exact .refl b s
  · exact placePrepare_path b _ _ _ _ _ s

theorem aheadOnce_path (b : BayId) (s : State) : BayPath b s (s.aheadOnce b) := by
  unfold State.aheadOnce
  split
  · exact .refl b s
  split
  · exact .refl b s
  split
  · split
    · split
      · exact placePrepare_path b _ _ _ _ _ s
      · exact .refl b s
    · split
      · exact aheadNext_path b _ s
      · exact .refl b s
  · exact .refl b s

/-! ### The frame next sent -/

theorem send_state (now : Nat) (f : LineFrame) (x : Bay) : (x.send now f).state = x.state := by
  unfold Bay.send; cases f.to <;> dsimp only <;> split <;> rfl

theorem send_kept (s : State) (now : Nat) (f : LineFrame) (x : Bay) : BayKept s x (x.send now f) := by
  have hline : BayKept s x { x with line := x.line.transmit (.frame f x.line.rate now false) now } :=
    .of_eq rfl rfl rfl (by simp [Tx.isReset]) rfl (.inr rfl)
  have haddr : ∀ (y : Bay) (a : Addr), BayKept s y (y.updCtx a (Context.addressed now f.kind)) := fun y a =>
    .updCtx_all fun c => .of_eq rfl rfl rfl rfl rfl rfl
  have howed : ∀ y : Bay, BayKept s y { y with rateOwed := false } := fun y => .of_eq rfl rfl rfl id rfl (.inr rfl)
  unfold Bay.send
  cases f.to with
  | none => dsimp only; split <;> [exact hline.trans (howed _); exact hline]
  | some a => dsimp only; split <;> [exact (hline.trans (haddr _ a)).trans (howed _); exact hline.trans (haddr _ a)]

theorem isRunning_of_state {x y : Bay} (h : y.state = x.state) : y.isRunning = x.isRunning := by
  unfold Bay.isRunning; rw [h]

theorem sendNext_path (b : BayId) (s : State) : BayPath b s (s.sendNext b) := by
  unfold State.sendNext
  dsimp only
  split
  · split
    · next f _ => exact .upd (fun h => isRunning_of_state (send_state _ f _) ▸ h) (send_kept s _ f _)
    · exact .refl b s
  · exact .refl b s

/-! ### The ends of the roll phase and of the batch -/

/-- The supply of a bay whose batch is running is on (R72). -/
theorem Bay.supplyOk.running {x : Bay} (h : x.supplyOk) (hr : x.isRunning = true) : x.supply = true := by
  rw [h.1]
  unfold Bay.isRunning at hr
  unfold Bay.supplyExpected
  split at hr <;> simp_all

/-- A bay in a state outside OFF and FAULT follows the supply rule with its supply on. -/
theorem Bay.supplyOk_on {x : Bay} (hs : x.supply = true) (ho : x.state ≠ .off) (hf : x.state ≠ .fault) : x.supplyOk := by
  refine ⟨?_, fun _ => hs⟩
  unfold Bay.supplyExpected
  split <;> simp_all

/-- A bay whose batch ends with its supply on, in READY or as it stands until its fault is entered (R25, R26). -/
theorem endBatch_kept {s : State} {x y : Bay} (hrun : x.isRunning = true) (hst : y.state = .ready)
    (hs : y.supply = x.supply) (hctx : y.contexts = []) (hroll : y.roll = .none) : BayKept s x y :=
  .of_empty (fun h => Bay.supplyOk_on (hs.trans (h.running hrun)) (by simp [hst]) (by simp [hst])) hctx (by simp [hroll, RollNext.offers])

theorem normalEnd_path {b : BayId} {s : State} (hrun : (s.bay b).isRunning = true) : BayPath b s (s.normalEnd b) := by
  have hclose : BayMove b s ((s.appendRecord (.batchEnd (batchEndRecord b (s.bay b).batch .complete []))).updBay b (fun x =>
      { x.endBatch .ready with batch := { x.batch with hand := none, stopCause := some .complete } })) :=
    .close s _ _ hrun rfl (endBatch_kept hrun rfl rfl rfl rfl)
  exact .cipher (.single hclose) (.emptyHolders _ b)

theorem rateDecision_path (b : BayId) (s : State) : BayPath b s (s.rateDecision b) := by
  unfold State.rateDecision
  dsimp only
  split
  · exact .refl b s
  next hst =>
  have hst : (s.bay b).state = .rolling := not_not.1 hst
  have hrun : (s.bay b).isRunning = true := by simp [Bay.isRunning, hst]
  split
  · exact normalEnd_path hrun
  · refine .single (.bay s _ (fun _ => hrun) (.of_contexts (fun h => ?_) rfl (.inl rfl)))
    exact Bay.supplyOk_on (h.running hrun) (by simp) (by simp)

theorem endRoll_path (b : BayId) (s : State) : BayPath b s (s.endRoll b) := by
  unfold State.endRoll
  split
  · exact .upd_of_eq rfl rfl rfl id rfl (.inr rfl)
  · exact rateDecision_path b s

/-! ### Internal work -/

theorem workHand_path (b : BayId) (s : State) : BayPath b s (s.workHand b) :=
  (takeInHand_path b s).trans <| (workTransport_path b _).trans <| (workLoading_path b _).trans <|
    (aheadOnce_path b _).trans (aheadOnce_path b _)

theorem advance_path (b : BayId) (s : State) : BayPath b s (s.advance b) := by
  unfold State.advance
  split
  · exact sendNext_path b s
  · next hst =>
    split
    · exact normalEnd_path (by simp [Bay.isRunning, hst])
    · exact (workHand_path b s).trans (sendNext_path b _)
  · exact .refl b s

/-! ### Early stops -/

theorem beginStop_state (b : BayId) (cause : StopCause) (reason : Option FaultReason) (s : State) :
    ((s.beginStop b cause reason).bay b).state = .stopping := by
  simp [State.beginStop, State.withdrawAppends, State.bay, State.updBay, State.setBay]

theorem beginStop_path {b : BayId} {s : State} (cause : StopCause) (reason : Option FaultReason)
    (hrun : (s.bay b).isRunning = true) : BayPath b s (s.beginStop b cause reason) := by
  refine .cipher (.trans (.upd (fun _ => hrun) (.of_contexts (fun h => ?_) rfl (.inr rfl))) (withdrawAppends_path b _))
    (.withdraw _ _)
  exact Bay.supplyOk_on (h.running hrun) (by simp) (by simp)

theorem unpowered_not_reset {l : LineEnd} : l.unpowered.tx.isReset = false := by
  unfold LineEnd.unpowered
  split
  · next h => simp [h, Tx.isReset]
  · rfl

theorem toOff_kept (s : State) (x : Bay) : BayKept s x x.toOff := by
  unfold Bay.toOff
  refine .of_contexts (fun h => ?_) ?_ (.inr ?_)
  · split
    · exact ⟨rfl, fun h' => by simp [Bay.unpower, unpowered_not_reset] at h'⟩
    · next hs => exact ⟨by simpa [Bay.supplyExpected] using hs, fun h' => absurd (h.2 h') hs⟩
  · split <;> rfl
  · split <;> rfl

theorem toOff_path (b : BayId) (s : State) : BayPath b s (s.updBay b Bay.toOff) :=
  .upd (fun h => by simp [Bay.toOff, Bay.isRunning] at h) (toOff_kept s _)

/-- A bay with its supply on enters FAULT (R72). -/
theorem toFault_kept {s : State} {x : Bay} (reason : FaultReason) (hon : x.supplyOk → x.supply = true) :
    BayKept s x (x.toFault reason) := by
  have hsup : x.supplyOk → (x.toFault reason).supplyOk := fun h => by
    have := hon h
    cases reason
    case overCurrent => exact ⟨rfl, fun h' => by simp [Bay.toFault, Bay.unpower, unpowered_not_reset] at h'⟩
    case powerTimeout => exact ⟨rfl, fun h' => by simp [Bay.toFault, Bay.unpower, unpowered_not_reset] at h'⟩
    all_goals exact ⟨this, fun _ => this⟩
  refine .of_contexts hsup ?_ (.inr ?_) <;> cases reason <;> rfl

theorem toFault_not_running (reason : FaultReason) (x : Bay) : (x.toFault reason).isRunning = false := by
  cases reason <;> rfl

theorem enterFault_path {b : BayId} {s : State} (reason : FaultReason) (hon : (s.bay b).supplyOk → (s.bay b).supply = true) :
    BayPath b s (s.enterFault b reason) :=
  .raise (.upd (fun h => by simp [toFault_not_running] at h) (toFault_kept reason hon)) _

theorem replyReset_path (b : BayId) (s : State) : BayPath b s (s.replyReset b) := by
  unfold State.replyReset
  split
  · exact .answer (.upd_of_eq rfl rfl rfl id rfl (.inr rfl)) _ _
  · exact .refl b s

/-- A bay in READY has its supply on (R72). -/
theorem Bay.supplyOk.ready {x : Bay} (h : x.supplyOk) (hr : x.state = .ready) : x.supply = true := by
  rw [h.1]; simp [Bay.supplyExpected, hr]

theorem afterStop_path {b : BayId} {s : State} (cause : StopCause) (hst : (s.bay b).state = .ready) :
    BayPath b s (s.afterStop b cause) := by
  unfold State.afterStop
  split
  · exact toOff_path b s
  · exact toOff_path b s
  · exact enterFault_path _ fun h => h.ready hst
  all_goals
    split
    · exact enterFault_path _ fun h => h.ready hst
    · exact .refl b s

theorem finishStop_path {b : BayId} {s : State} (hrun : (s.bay b).isRunning = true) : BayPath b s (s.finishStop b) := by
  unfold State.finishStop
  dsimp only
  have hclose : ∀ body, BayMove b s ((s.appendRecord body).updBay b (Bay.endBatch .ready)) := fun body =>
    .close s body _ hrun rfl (endBatch_kept hrun rfl rfl rfl rfl)
  refine (BayPath.cipher (.single (hclose _)) (.emptyHolders _ b)).trans <| (afterStop_path _ ?_).trans (replyReset_path b _)
  simp [State.bay, State.updBay, State.setBay, Bay.endBatch]

theorem startReset_path {b : BayId} {s : State} (hon : (s.bay b).supplyOk → (s.bay b).supply = true) :
    BayPath b s (s.updBay b (fun x => { x with line := x.line.startReset s.time })) :=
  .upd id (.of_contexts (fun h => ⟨h.1, fun _ => hon h⟩) rfl (.inr rfl))

theorem isRunning_of_stopping {x : Bay} (h : x.state = .stopping) : x.isRunning = true := by simp [Bay.isRunning, h]

theorem proceedStop_path {b : BayId} {s : State} (hst : (s.bay b).state = .stopping) : BayPath b s (s.proceedStop b) := by
  have hrun := isRunning_of_stopping hst
  unfold State.proceedStop
  split
  · exact startReset_path fun h => h.running hrun
  · exact finishStop_path hrun

theorem continueStop_path (b : BayId) (s : State) : BayPath b s (s.continueStop b) := by
  unfold State.continueStop
  split
  · next h => exact proceedStop_path h
  · exact .refl b s

theorem cut_path (b : BayId) (s : State) : BayPath b s (s.updBay b (fun x => { x with line := x.line.cut s.time })) :=
  .upd_of_eq rfl rfl rfl (by simp [Tx.isReset]) rfl (.inr rfl)

theorem cutAndStop_path {b : BayId} {s : State} (hst : (s.bay b).state = .stopping) : BayPath b s (s.cutAndStop b) := by
  unfold State.cutAndStop
  split
  · exact .refl b s
  · exact (cut_path b s).trans (proceedStop_path (by simpa using hst))

end Sys2Proof.Machine

/-! SUPPORT. What a bay controller does with the reports of its line end and its requests (Dialogue.lean, Power.lean), as paths of
small changes. -/

namespace Sys2Proof.Machine

/-! ### Frame bookkeeping -/

theorem passDataEnd_state (x : Bay) : x.passDataEnd.state = x.state := by
  unfold Bay.passDataEnd; repeat' split
  all_goals rfl

theorem passDataEnd_kept (s : State) (x : Bay) : BayKept s x x.passDataEnd := by
  unfold Bay.passDataEnd
  split
  · next f rate sentAt _ _ =>
    have hline : BayKept s x { x with line := { x.line with tx := .frame f rate sentAt true } } :=
      .of_eq rfl rfl rfl (by simp [Tx.isReset]) rfl (.inr rfl)
    dsimp only
    split
    · exact hline.trans (.updCtx_all fun _ => .of_eq rfl rfl rfl rfl rfl rfl)
    · exact hline
  · exact .refl s x

theorem passDataEnd_path (b : BayId) (s : State) : BayPath b s (s.updBay b Bay.passDataEnd) :=
  .upd (fun h => isRunning_of_state (passDataEnd_state _) ▸ h) (passDataEnd_kept s _)

theorem frameOver_path (b : BayId) (s : State) : BayPath b s (s.frameOver b) :=
  .upd_of_eq rfl rfl rfl (by simp [Tx.isReset]) rfl (.inr rfl)

theorem noteAnswer_path (b : BayId) (a : Addr) (ans : Answer) (s : State) : BayPath b s (s.noteAnswer b a ans) := by
  unfold State.noteAnswer
  split
  · exact .updCtx_all fun _ => .of_eq rfl rfl rfl rfl rfl rfl
  · exact .refl b s

/-! ### The roll-call phase -/

theorem setRollCounts_path (b : BayId) (empty garbles : Nat) (s : State) :
    BayPath b s (s.updBay b (Bay.setRollCounts empty garbles)) := .upd_of_eq rfl rfl rfl id rfl (.inr rfl)

/-- An ENROL is offered at an address that fits the table (R5, R10). -/
def Bay.fits (x : Bay) (r : RollNext) : Prop := { x with roll := r }.offerFits

theorem Bay.fits_of_no_offer (x : Bay) {r : RollNext} (h : r.offers = none) : x.fits r := by
  unfold Bay.fits; rw [offerFits_iff]; simp [h]

theorem Bay.fits_of_offers {x : Bay} {r : RollNext} (hx : x.offerFits) (h : r.offers = x.roll.offers) : x.fits r := by
  unfold Bay.fits; rw [offerFits_iff] at hx ⊢; simpa [h] using hx

/-- The ENROL after a clean roll-call answer fits the table (R5, R9, R10). -/
theorem Bay.fits_enrolFor (x : Bay) (serial : Serial) (fast : Bool) : x.fits (x.enrolFor serial fast) := by
  unfold Bay.enrolFor
  split
  · next c hc =>
    exact .inl ⟨c, List.mem_of_find?_eq_some hc, by simpa using List.find?_some hc, rfl⟩
  · next hnone =>
    unfold Bay.offer
    split
    · next a ha =>
      split at ha
      · obtain rfl := Option.some.inj ha
        exact .inr ⟨fun c hc => by simpa using List.find?_eq_none.1 hnone c hc, rfl⟩
      · simp at ha
    · exact trivial

theorem setRoll_path {b : BayId} {s : State} {r : RollNext} (h : (s.bay b).tableOk → (s.bay b).fits r) :
    BayPath b s (s.updBay b (Bay.setRoll r)) :=
  .upd id ⟨fun hs => hs.of_eq rfl rfl rfl id, fun ht => ⟨ht.1, ht.2.1, ht.2.2.1, h ht⟩, fun _ hp => hp⟩

theorem afterRoll_path {b : BayId} {s : State} {r : RollNext} (h : (s.bay b).tableOk → (s.bay b).fits r) :
    BayPath b s (s.afterRoll b r) := by
  unfold State.afterRoll
  split
  · exact rateDecision_path b s
  · exact setRoll_path h

theorem recordFault_path {b : BayId} {s : State} (reason : FaultReason) (hst : (s.bay b).state = .stopping) :
    BayPath b s (s.updBay b (fun x => { x with faultReason := x.faultReason.or (some reason) })) := by
  refine .upd id (.of_contexts (fun h => ?_) rfl (.inr rfl))
  exact Bay.supplyOk_on (h.running (isRunning_of_stopping hst)) (by simp [hst]) (by simp [hst])

/-- An early stop that goes on at once (R26). -/
theorem stop_path {b : BayId} {s : State} (cause : StopCause) (reason : Option FaultReason) (hrun : (s.bay b).isRunning = true) :
    BayPath b s ((s.beginStop b cause reason).proceedStop b) :=
  (beginStop_path cause reason hrun).trans (proceedStop_path (beginStop_state b cause reason s))

theorem garbleLimit_path (b : BayId) (s : State) : BayPath b s (s.garbleLimit b) := by
  unfold State.garbleLimit
  split
  · next hst =>
    exact stop_path _ _ (by simp [Bay.isRunning, hst])
  · next hst => exact recordFault_path _ hst
  · exact .refl b s

theorem rollGarbled_path (b : BayId) (s : State) : BayPath b s (s.rollGarbled b) := by
  unfold State.rollGarbled
  dsimp only
  split
  · exact (setRollCounts_path b _ _ s).trans (garbleLimit_path b _)
  split
  · exact setRollCounts_path b _ _ s
  · exact (setRollCounts_path b _ _ s).trans (afterRoll_path fun _ => Bay.fits_of_no_offer _ rfl)

theorem rollAnswer_path (b : BayId) (ans : Answer) (s : State) : BayPath b s (s.rollAnswer b ans) := by
  unfold State.rollAnswer
  dsimp only
  split
  · split
    · exact rollGarbled_path b s
    · split
      · exact setRollCounts_path b _ _ s
      · exact (setRollCounts_path b _ _ s).trans (afterRoll_path fun _ => Bay.fits_enrolFor _ _ _)
  · exact rollGarbled_path b s
  · split
    · exact setRollCounts_path b _ _ s
    · exact (setRollCounts_path b _ _ s).trans (afterRoll_path fun _ => Bay.fits_of_no_offer _ rfl)
  · split
    · exact setRollCounts_path b _ _ s
    split
    · exact (setRollCounts_path b _ _ s).trans (rateDecision_path b _)
    · exact (setRollCounts_path b _ _ s).trans (afterRoll_path fun _ => Bay.fits_of_no_offer _ rfl)
  · exact .refl b s

/-- A new context, which has nothing in order yet, joins a table that has room for its address and not its serial (R5, R9). -/
theorem addContext_kept {s : State} {x y : Bay} {c : Context} (hst : y.state = x.state) (hf : y.faultReason = x.faultReason)
    (hs : y.supply = x.supply) (hl : y.line = x.line) (hroll : y.roll = x.roll) (hctx : y.contexts = x.contexts ++ [c])
    (hp : c.phase = .enrolled) (hfit : x.tableOk → (∀ d ∈ x.contexts, d.serial ≠ c.serial) ∧ c.addr.val = x.contexts.length)
    (hoff : x.tableOk → x.roll.offers = none ∨ x.roll.offers = some (c.serial, c.addr)) : BayKept s x y := by
  refine ⟨fun h => h.of_eq hst hf hs (by simp [hl]), fun ht => ?_, fun _ hpos => ?_⟩
  · obtain ⟨hnew, haddr⟩ := hfit ht
    refine ⟨?_, ?_, ?_, ?_⟩
    · have := c.addr.isLt
      simp [hctx]; omega
    · rw [hctx, List.map_append, ht.2.1, List.length_append, List.length_singleton, List.range_succ]
      simp [haddr]
    · rw [hctx, List.map_append, List.nodup_append]
      refine ⟨ht.2.2.1, by simp, fun v hv w hw => ?_⟩
      obtain ⟨d, hd, rfl⟩ := List.mem_map.1 hv
      obtain rfl : w = c.serial := by simpa using hw
      exact hnew d hd
    · rw [offerFits_iff, hroll]
      intro serial a ho
      rcases hoff ht with hn | hs
      · simp [hn] at ho
      · obtain ⟨rfl, rfl⟩ : c.serial = serial ∧ c.addr = a := by simpa [hs] using ho
        exact .inl ⟨c, by simp [hctx], rfl, rfl⟩
  · intro d hd p hprof
    rw [hctx] at hd
    rcases List.mem_append.1 hd with hd | hd
    · exact hpos d hd p hprof
    · obtain rfl := List.mem_singleton.1 hd
      exact d.inOrder_of_phase p (by simp [hp]) (by simp [hp])

theorem createContext_path {b : BayId} {s : State} {a : Addr} {serial : Serial} {fast : Bool} (sentAt : Nat)
    (hoff : (s.bay b).roll.offers = some (serial, a)) (hnew : ∀ c ∈ (s.bay b).contexts, c.serial ≠ serial) :
    BayPath b s (s.createContext b a serial fast sentAt) := by
  have hadd : ∀ entry positions, BayPath b s (s.updBay b (fun x =>
      { x with
        contexts := x.contexts ++ [newContext a serial fast entry positions sentAt]
        batch := { x.batch with enrolled := x.batch.enrolled + 1 } })) := fun entry positions => by
    refine .upd id (addContext_kept (c := newContext a serial fast entry positions sentAt) rfl rfl rfl rfl rfl rfl rfl
      (fun ht => ⟨hnew, ?_⟩) fun _ => .inr hoff)
    rcases (offerFits_iff _).1 ht.2.2.2 serial a hoff with ⟨c, hc, h1, _⟩ | ⟨_, h2⟩
    · exact absurd h1 (hnew c hc)
    · exact h2
  unfold State.createContext
  dsimp only
  generalize (if (s.bay b).state == .stopping then none else s.lookup serial) = entry
  split
  · exact (hadd _ _).trans (decideOutcome_path b a _ _)
  · exact hadd _ _

theorem enrolAccepted_path {b : BayId} {s : State} {a : Addr} {serial : Serial} {fast : Bool} (sentAt : Nat)
    (hoff : (s.bay b).roll.offers = some (serial, a)) : BayPath b s (s.enrolAccepted b a serial fast sentAt) := by
  unfold State.enrolAccepted
  split
  · exact .updCtx_all fun _ => .of_eq rfl rfl rfl rfl rfl rfl
  · next h => exact createContext_path sentAt hoff (by simpa using h)

theorem enrolAnswer_path (b : BayId) (sentAt : Nat) (ans : Answer) (s : State) : BayPath b s (s.enrolAnswer b sentAt ans) := by
  unfold State.enrolAnswer
  split
  · next serial fast a failures wait hroll =>
    have hoff : (s.bay b).roll.offers = some (serial, a) := by rw [hroll]; rfl
    have hacc : BayPath b s (s.enrolAccepted b a serial fast sentAt) := enrolAccepted_path sentAt hoff
    dsimp only
    split
    · split
      · exact hacc
      split
      · exact hacc.trans (rateDecision_path b _)
      · exact hacc.trans (afterRoll_path fun _ => Bay.fits_of_no_offer _ rfl)
    split
    · exact .refl b s
    split
    · exact afterRoll_path fun ht => Bay.fits_of_offers ht.2.2.2 (by rw [hoff]; rfl)
    · exact afterRoll_path fun _ => Bay.fits_of_no_offer _ rfl
  · exact .refl b s

/-! ### KEY, COMMIT and POLL -/

theorem attemptFailed_path (b : BayId) (c : Context) (reason : FailReason) (s : State) :
    BayPath b s (s.attemptFailed b c reason) := by
  have hcount : BayPath b s (s.updBay b (fun x => x.updCtx c.addr (fun c => { c with attempts := c.attempts + 1 }))) :=
    .updCtx_all fun _ => .of_eq rfl rfl rfl rfl rfl rfl
  unfold State.attemptFailed
  dsimp only
  split
  · exact hcount.trans (decideOutcome_path b _ _ _)
  · exact hcount

theorem deferred_path (b : BayId) (c : Context) (s : State) : BayPath b s (s.deferred b c) := by
  have hcount : BayPath b s (s.updBay b (fun x => x.updCtx c.addr (fun c => { c with deferrals := c.deferrals + 1 }))) :=
    .updCtx_all fun _ => .of_eq rfl rfl rfl rfl rfl rfl
  unfold State.deferred
  dsimp only
  split
  · exact hcount.trans (decideOutcome_path b _ _ _)
  · exact hcount.trans (.upd_of_eq rfl rfl rfl id rfl (.inr rfl))

/-- Entering a position as confirmed takes none back. -/
theorem confirmed_set_isSome {l : List (Option Confirmed)} {i j : Nat} {v : Confirmed}
    (h : ((l[j]?).join).isSome = true) : (((l.set i (some v))[j]?).join).isSome = true := by
  rw [List.getElem?_set]
  split
  · next hij =>
    subst hij
    split
    · rfl
    · next hlt => simp [List.getElem?_eq_none (Nat.not_lt.1 hlt)] at h
  · exact h

theorem confirm_kept (s : State) (c : Context) (r : Prepared) (x : Bay) : BayKept s x (x.confirm c r) := by
  unfold Bay.confirm
  refine BayKept.trans (y := x.updCtx c.addr (fun c =>
    { c with
      confirmed := c.confirmed.set (c.posIndex - 1) (some { check := r.check, gen := r.gen })
      attempts := 0
      deferrals := 0 })) (.updCtx_all fun d => ⟨rfl, rfl, fun h p hp => ?_⟩) (.of_eq rfl rfl rfl id rfl (.inr rfl))
  have ho := h p hp
  exact ⟨fun hl x hx hd hlt => confirmed_set_isSome (ho.1 hl x hx hd hlt),
    fun hc x hx hd => confirmed_set_isSome (ho.2 hc x hx hd)⟩

theorem keyAnswer_path (b : BayId) (a : Addr) (ans : Answer) (s : State) : BayPath b s (s.keyAnswer b a ans) := by
  unfold State.keyAnswer
  dsimp only
  split
  · exact .refl b s
  split
  · exact .refl b s
  split
  · split
    · exact .upd id (confirm_kept s _ _ _)
    split
    · exact .refl b s
    split
    · exact deferred_path b _ s
    · exact attemptFailed_path b _ _ s
    · exact decideOutcome_path b a _ s
    · exact .refl b s
  · exact .refl b s

theorem commitAnswer_path (b : BayId) (a : Addr) (ans : Answer) (s : State) : BayPath b s (s.commitAnswer b a ans) := by
  unfold State.commitAnswer
  dsimp only
  split
  · exact .refl b s
  split
  · split
    · exact decideOutcome_path b a _ s
    · exact decideOutcome_path b a _ s
    · split
      · exact .refl b s
      · exact deferred_path b _ s
    · split
      · exact .refl b s
      · exact attemptFailed_path b _ _ s
  · exact .refl b s

theorem pollAnswer_path (b : BayId) (a : Addr) (ans : Answer) (s : State) : BayPath b s (s.pollAnswer b a ans) := by
  unfold State.pollAnswer
  split
  · exact .refl b s
  split
  · exact .refl b s
  · next c _ =>
    have hcount : BayPath b s (s.updBay b (fun x => x.updCtx a (fun c => { c with pollMisses := min 2 (c.pollMisses + 1) }))) :=
      .updCtx_all fun _ => .of_eq rfl rfl rfl rfl rfl rfl
    dsimp only
    split
    · exact hcount.trans (decideOutcome_path b a _ _)
    · exact hcount

theorem frameAnswer_path (b : BayId) (f : LineFrame) (sentAt : Nat) (ans : Answer) (s : State) :
    BayPath b s (s.frameAnswer b f sentAt ans) := by
  unfold State.frameAnswer
  split
  · exact rollAnswer_path b ans s
  · exact enrolAnswer_path b sentAt ans s
  · exact (noteAnswer_path b _ ans s).trans (keyAnswer_path b _ ans _)
  · exact (noteAnswer_path b _ ans s).trans (commitAnswer_path b _ ans _)
  · exact (noteAnswer_path b _ ans s).trans (pollAnswer_path b _ ans _)
  · exact .refl b s

theorem frameDone_path (b : BayId) (f : LineFrame) (s : State) : BayPath b s (s.frameDone b f) := by
  unfold State.frameDone
  split
  · exact .upd_of_eq rfl rfl rfl id rfl (.inr rfl)
  · refine .upd id (.updCtx (fun _ _ _ => ⟨rfl, rfl⟩) fun _ c _ _ => .of_phase rfl rfl (by simp) (by simp))
  · exact .refl b s

/-! ### Line faults -/

theorem faulted_path (b : BayId) (s : State) : BayPath b s (s.updBay b (fun x => { x with line := x.line.faulted s.time })) :=
  .upd_of_eq rfl rfl rfl (by simp [Tx.isReset]) rfl (.inr rfl)

@[simp] theorem setBay_setBay (s : State) (b : BayId) (x y : Bay) : (s.setBay b x).setBay b y = s.setBay b y := by
  simp [State.setBay]

/-- Two changes of a bay are one. -/
theorem updBay_updBay (s : State) (b : BayId) (f g : Bay → Bay) : (s.updBay b f).updBay b g = s.updBay b (fun x => g (f x)) := by
  simp [State.updBay]

/-- A bay that transmits a line reset has its supply on (R72). -/
theorem Bay.supplyOk.resetting {x : Bay} (h : x.supplyOk) {since : Nat} (hr : x.line.tx = .reset since) : x.supply = true :=
  h.2 (by simp [hr, Tx.isReset])

/-- The supply rule asks only for a supply that is on, of a bay in FAULT with a line fault. -/
theorem supplyOk_lineFault {x : Bay} (fault : LineFault) (hst : x.state = .fault) (hf : x.faultReason = some fault.reason)
    (hs : x.supply = true) : x.supplyOk := by
  refine ⟨?_, fun _ => hs⟩
  cases fault <;> simp [Bay.supplyExpected, hst, hf, hs, LineFault.reason]

theorem toFault_lineFault (fault : LineFault) (x : Bay) :
    x.toFault fault.reason = { x with state := .fault, faultReason := some fault.reason } := by cases fault <;> rfl

/-- A line fault on a line reset outside a batch: the bay enters FAULT (R28, R29). -/
theorem enterFault_after_reset {b : BayId} {s : State} {f : Bay → Bay} {since : Nat} (fault : LineFault)
    (hr : (s.bay b).line.tx = .reset since) (hs : (f (s.bay b)).supply = (s.bay b).supply)
    (hctx : (f (s.bay b)).contexts = (s.bay b).contexts) (hroll : (f (s.bay b)).roll = (s.bay b).roll) :
    BayPath b s ((s.updBay b f).enterFault b fault.reason) := by
  unfold State.enterFault
  rw [updBay_updBay]
  refine .raise (.upd (fun h => by simp [toFault_not_running] at h) ?_) _
  rw [toFault_lineFault]
  exact .of_contexts (fun h => supplyOk_lineFault fault rfl rfl (hs.trans (h.resetting hr))) hctx (.inr (by rw [hroll]))

theorem bayLineFault_path (b : BayId) (fault : LineFault) (s : State) : BayPath b s (s.bayLineFault b fault) := by
  unfold State.bayLineFault
  dsimp only
  split
  · exact .answer ((faulted_path b s).trans (.upd_of_eq rfl rfl rfl id rfl (.inr rfl))) _ _
  · next since hreset =>
    have hline : BayPath b s ((s.updBay b (fun x => { x with line := x.line.faulted s.time })).updBay b
        (fun x => { x with line := { x.line with rate := .standard, gapRate := .standard } })) :=
      (faulted_path b s).trans (.upd_of_eq rfl rfl rfl id rfl (.inr rfl))
    split
    · next hst =>
      refine hline.trans <| (recordFault_path _ ?_).trans (finishStop_path (isRunning_of_stopping ?_))
      · rw [bay_updBay_same, bay_updBay_same]; exact hst
      · rw [bay_updBay_same, bay_updBay_same, bay_updBay_same]; exact hst
    split
    · exact (hline.trans (toOff_path b _)).trans (replyReset_path b _)
    · rw [updBay_updBay]
      exact (enterFault_after_reset fault hreset rfl rfl rfl).trans (replyReset_path b _)
  · have hstate : ((s.updBay b (fun x => { x with line := x.line.faulted s.time })).bay b).state = (s.bay b).state := by
      rw [bay_updBay_same]
    have hrun := isRunning_of_state hstate
    split
    · next hst => exact (faulted_path b s).trans (stop_path _ _ (hrun.trans (by simp [Bay.isRunning, hst])))
    · next hst => exact (faulted_path b s).trans (stop_path _ _ (hrun.trans (by simp [Bay.isRunning, hst])))
    · next hst =>
      refine (faulted_path b s).trans <| (recordFault_path _ (hstate.trans hst)).trans (proceedStop_path ?_)
      rw [bay_updBay_same]
      exact hstate.trans hst
    · next hst => exact (faulted_path b s).trans (enterFault_path _ fun h => h.ready (hstate.trans hst))
    · exact .refl b s

/-! ### The end of a frame -/

theorem endAnswered_path (b : BayId) (f : LineFrame) (sentAt : Nat) (ans : Answer) (s : State) :
    BayPath b s (s.endAnswered b f sentAt ans) := by
  unfold State.endAnswered
  split
  · exact bayLineFault_path b _ s
  · exact (passDataEnd_path b s).trans (bayLineFault_path b _ _)
  · exact (passDataEnd_path b s).trans <| (frameOver_path b _).trans <| (frameAnswer_path b f sentAt ans _).trans
      (continueStop_path b _)

theorem frameRun_path (b : BayId) (f : LineFrame) (s : State) :
    BayPath b s (((s.frameOver b).frameDone b f).continueStop b) :=
  (frameOver_path b s).trans <| (frameDone_path b f _).trans (continueStop_path b _)

theorem bayDataEnd_path (b : BayId) (s : State) : BayPath b s (s.bayDataEnd b) := by
  unfold State.bayDataEnd
  split
  · split
    · exact passDataEnd_path b s
    · exact .refl b s
  · exact .refl b s

/-! ### Requests, resets and power -/

theorem awaitReset_path (b : BayId) (s : State) : BayPath b s (s.awaitReset b) := .upd_of_eq rfl rfl rfl id rfl (.inr rfl)

theorem resetLine_path {b : BayId} {s : State} (hon : (s.bay b).supplyOk → (s.bay b).supply = true) :
    BayPath b s (s.resetLine b) := by
  unfold State.resetLine
  split
  · exact .refl b s
  · exact startReset_path hon

theorem resetCause_path (b : BayId) (s : State) : BayPath b s (s.updBay b Bay.resetCause) :=
  .upd_of_eq rfl rfl rfl id rfl (.inr rfl)

/-- A change to READY of a bay with its supply on. -/
theorem ready_path {b : BayId} {s : State} {f : Bay → Bay} (hst : (f (s.bay b)).state = .ready)
    (hs : (f (s.bay b)).supply = (s.bay b).supply) (hctx : (f (s.bay b)).contexts = (s.bay b).contexts)
    (hroll : (f (s.bay b)).roll = (s.bay b).roll) (hon : (s.bay b).supplyOk → (s.bay b).supply = true) :
    BayPath b s (s.updBay b f) :=
  .upd (fun h => by simp [Bay.isRunning, hst] at h)
    (.of_contexts (fun h => Bay.supplyOk_on (hs.trans (hon h)) (by simp [hst]) (by simp [hst])) hctx (.inr (by rw [hroll])))

theorem lineTestOver_path (b : BayId) (delay : Nat) (echo : List Nat) (s : State) :
    BayPath b s (s.lineTestOver b delay echo) := by
  unfold State.lineTestOver
  split
  · exact .answer (.upd_of_eq rfl rfl rfl (by simp [LineEnd.endTest, Tx.isReset]) rfl (.inr rfl)) _ _
  · exact .refl b s

theorem takeLineTest_path (b : BayId) (s : State) :
    BayPath b s (s.updBay b (fun x => { x with line := { x.line with loopback := true, tx := .test s.time, free := false } })) :=
  .upd_of_eq rfl rfl rfl (by simp [Tx.isReset]) rfl (.inr rfl)

theorem bayPowerUp_path (b : BayId) (s : State) : BayPath b s (s.bayPowerUp b) := by
  unfold State.bayPowerUp
  split
  · exact .answer (.refl b s) _ _
  · dsimp only
    refine .answer ?_ _ _
    split
    · exact .upd (fun h => by simp [Bay.powerUp, Bay.isRunning] at h)
        (.of_contexts (fun _ => Bay.supplyOk_on rfl (by simp [Bay.powerUp]) (by simp [Bay.powerUp])) rfl (.inr rfl))
    · exact .refl b s

theorem bayPowerDown_path (b : BayId) (s : State) : BayPath b s (s.bayPowerDown b) := by
  unfold State.bayPowerDown
  split
  · exact .answer (.refl b s) _ _
  · dsimp only
    refine .answer ?_ _ _
    split
    · exact .refl b s
    · exact toOff_path b s

/-- A bay in POWERING has its supply on (R72). -/
theorem Bay.supplyOk.powering {x : Bay} (h : x.supplyOk) (hr : x.state = .powering) : x.supply = true := by
  rw [h.1]; simp [Bay.supplyExpected, hr]

theorem becomeReady_path {b : BayId} {s : State} (hst : (s.bay b).state = .powering) :
    BayPath b s (s.updBay b (Bay.becomeReady s.time)) := ready_path rfl rfl rfl rfl fun h => h.powering hst

theorem quietReached_path (b : BayId) (s : State) : BayPath b s (s.quietReached b) := by
  unfold State.quietReached
  split
  · next h =>
    refine becomeReady_path ?_
    unfold Bay.quietSince at h
    split at h
    · next h' => exact h'.1
    · simp at h
  · exact .refl b s

theorem powerTimeout_path (b : BayId) (s : State) : BayPath b s (s.powerTimeout b) := by
  unfold State.powerTimeout
  dsimp only
  split
  · next hst =>
    split
    · exact becomeReady_path hst
    · exact enterFault_path _ fun h => h.powering hst
  · exact .refl b s

theorem overCurrentStop_path {b : BayId} {s : State} (hrun : (s.bay b).isRunning = true) : BayPath b s (s.overCurrentStop b) := by
  have hrun' : ((s.updBay b (fun x => { x with line := x.line.cut s.time })).bay b).isRunning = true := by
    rw [bay_updBay_same]; exact hrun
  unfold State.overCurrentStop
  dsimp only
  split
  · exact (cut_path b s).trans (finishStop_path hrun')
  · refine (cut_path b s).trans <| (beginStop_path .powerFault none hrun').trans <| .trans (t := _) (.upd id ?_) (finishStop_path ?_)
    · have hst := beginStop_state b .powerFault none (s.updBay b (fun x => { x with line := x.line.cut s.time }))
      exact .of_contexts (fun h => Bay.supplyOk_on (h.running (isRunning_of_stopping hst)) (by simp [hst]) (by simp [hst])) rfl (.inr rfl)
    · rw [bay_updBay_same]
      exact isRunning_of_stopping (beginStop_state b _ _ _)

end Sys2Proof.Machine

/-! SUPPORT. The whole machine's changes: every command is a `Prelude` of moves and jumps, followed by `Turns`. -/

namespace Sys2Proof.Machine

/-! ### Moves, turns and jumps -/

/-- The request of an assembly or import in progress (R126, R130). -/
def Progress.request : Progress → KeyRequest
  | .assembly r _ _ _ => r
  | .importing r _ => r

/-- No match value of an entry has a bit set where its mask is clear (R83). -/
def Entry.masked (x : Entry) : Prop := ∀ p, x.profile = some p → p.value &&& p.mask = p.value

/-- The queue and the reject list of the station link within their bounds (R169, R170). -/
def Link.bounded (l : Link) : Prop := l.queue.length ≤ 4 ∧ l.rejects ≤ 4

/-- A small change of the state that starts and ends no cipher request, closes no window and sets no latch. -/
inductive Move : State → State → Prop
  | ofBay (b : BayId) {s t : State} (h : BayMove b s t) : Move s t
  | begin (s : State) (b : BayId) (y : Bay) (hroom : s.room = true) (h : BayKept s (s.bay b) y) : Move s (s.setBay b y)
  | port (s : State) (p : PortId) (q : Port) : Move s (s.setPort p q)
  | clock (s : State) (v : Word32) (n : Nat) : Move s { s with clock := v, lastAdvance := n }
  | entry (s : State) (e : EntryId) (x : Entry) (hm : x.masked ∨ x.profile = (s.entry e).profile)
      (hu : s.inUse e = false ∨ x.profile = (s.entry e).profile) : Move s (s.setEntry e x)
  | slot (s : State) (k : SlotId) (x : Slot) (hp : x.lastGen = (s.slot k).lastGen)
      (he : (s.slot k).content = .empty → x.content = .empty) : Move s (s.setSlot k x)
  | progress (s : State) (p : Option Progress)
      (h : ∀ x ∈ p, s.latched = false ∧ (s.slot x.request.slot).lastGen < x.request.gen) :
      Move s { s with keys := { s.keys with progress := p } }
  | store (s : State) (x : Progress) (hx : s.keys.progress = some x) (c : SlotContent) :
      Move s (({ s with keys := { s.keys with progress := none } } : State).setSlot x.request.slot
        { lastGen := x.request.gen, content := c })
  | window (s : State) (n : Nat) (hl : s.latched = false ∨ s.window.isSome = true)
      (hr : WindowInRange s → 1 ≤ n ∧ n ≤ 28800) : Move s { s with window := some n }
  | enclosure (s : State) (e : Enclosure) (h : e.latched = true → s.latched = true) : Move s { s with enclosure := e }
  | link (s : State) (l : Link) (hb : s.link.bounded → l.bounded) (hh : s.link.head ≠ .notGiven → l.head ≠ .notGiven) :
      Move s { s with link := l }
  | notice (s : State) (n : Notice) : Move s { s with notice := n }
  | records (s : State) (n : Nat) : Move s (s.setRecords (s.report.records.drop n))
  | batchNumber (s : State) (n : Word32) : Move s (s.setCounters { record := s.report.recordCounter, batch := n })

/-- A run of moves. -/
def Moves : State → State → Prop := Relation.ReflTransGen Move

/-- A move, or what the cipher engine does: it starts a request, ends one that its start checks refuse, or frees its place. -/
inductive Turn : State → State → Prop
  | move {s t : State} (h : Move s t) : Turn s t
  | started {s t : State} (h : s.engineTake = .started t) : Turn s t
  | ended {s u v : State} {r : Running} {reason : FailReason} (h : s.engineTake = .ended r reason u) (m : Moves u v) :
      Turn s v.freeEngine
  | freed (s : State) : Turn s s.freeEngine

/-- A run of turns. -/
def Turns : State → State → Prop := Relation.ReflTransGen Turn

/-- The tamper response before the ports and the bays have their part: the latch set, the keys emptied, the cipher unit flushed and
the window CLOSED (R179). -/
def State.tamperCore (s : State) : State :=
  { (State.raise .tamper { s with enclosure := s.enclosure.setLatch true }).emptyKeys with
    cipher := Cipher.flush s.cipher, window := none }

/-- The large changes: the closing of the window, the end of a reply, the tamper response, RESTART, and the end of the start-up. -/
inductive Jump (c : Instr) : State → State → Prop
  | close (s : State) : Jump c s { s with window := none, cipher := s.cipher.closeDerivations }
  | link (s : State) (l : Link) (hb : s.link.bounded → l.bounded) (h : c = .outgoingFrameSent) : Jump c s { s with link := l }
  | tamper (s : State) : Jump c s s.tamperCore
  | restart (s : State) (now : Nat) :
      Jump c s { s with
        cipher := s.cipher.flush, portA := s.portA.fresh now, portB := s.portB.fresh now, window := none }
  | started (s : State) : Jump c s { s with started := true }

/-- A run of moves and jumps. -/
def Prelude (c : Instr) : State → State → Prop := Relation.ReflTransGen (fun s t => Move s t ∨ Jump c s t)

/-- A command's run: moves and jumps, and then turns. -/
def Runs (c : Instr) (s t : State) : Prop := ∃ u, Prelude c s u ∧ Turns u t

theorem Moves.refl (s : State) : Moves s s := Relation.ReflTransGen.refl
theorem Moves.trans {s t u : State} (h : Moves s t) (k : Moves t u) : Moves s u := Relation.ReflTransGen.trans h k
theorem Moves.single {s t : State} (h : Move s t) : Moves s t := Relation.ReflTransGen.single h
theorem Turns.refl (s : State) : Turns s s := Relation.ReflTransGen.refl
theorem Turns.trans {s t u : State} (h : Turns s t) (k : Turns t u) : Turns s u := Relation.ReflTransGen.trans h k
theorem Turns.single {s t : State} (h : Turn s t) : Turns s t := Relation.ReflTransGen.single h
theorem Prelude.refl (c : Instr) (s : State) : Prelude c s s := Relation.ReflTransGen.refl
theorem Prelude.trans {c : Instr} {s t u : State} (h : Prelude c s t) (k : Prelude c t u) : Prelude c s u :=
  Relation.ReflTransGen.trans h k
theorem Prelude.jump {c : Instr} {s t : State} (h : Jump c s t) : Prelude c s t := Relation.ReflTransGen.single (.inr h)

theorem BayPath.moves {b : BayId} {s t : State} (h : BayPath b s t) : Moves s t :=
  Relation.ReflTransGen.mono (fun _ _ h => Move.ofBay b h) _ _ h
theorem Moves.turns {s t : State} (h : Moves s t) : Turns s t :=
  Relation.ReflTransGen.mono (fun _ _ h => Turn.move h) _ _ h
theorem Moves.prelude {s t : State} (c : Instr) (h : Moves s t) : Prelude c s t :=
  Relation.ReflTransGen.mono (fun _ _ h => Or.inl h) _ _ h
theorem BayPath.turns {b : BayId} {s t : State} (h : BayPath b s t) : Turns s t := h.moves.turns

theorem Turns.runs {s t : State} (c : Instr) (h : Turns s t) : Runs c s t := ⟨s, .refl c s, h⟩
theorem Moves.runs {s t : State} (c : Instr) (h : Moves s t) : Runs c s t := h.turns.runs c
theorem Runs.refl (c : Instr) (s : State) : Runs c s s := (Turns.refl s).runs c
theorem Runs.turns {c : Instr} {s t u : State} (h : Runs c s t) (k : Turns t u) : Runs c s u := by
  obtain ⟨v, hp, ht⟩ := h
  exact ⟨v, hp, ht.trans k⟩
theorem Prelude.runs {c : Instr} {s t u : State} (h : Prelude c s t) (k : Runs c t u) : Runs c s u := by
  obtain ⟨v, hp, ht⟩ := k
  exact ⟨v, h.trans hp, ht⟩

/-! ### Moves that end with a change of the cipher unit, a flag or an answer -/

theorem Moves.cipher {s t : State} {c : Cipher} (h : Moves s t) (hc : CipherKept t.cipher c) : Moves s { t with cipher := c } :=
  h.trans (.single (.ofBay 0 (.cipher t c hc)))

theorem Moves.raise {s t : State} (h : Moves s t) (f : Flag) : Moves s (t.raise f) := h.trans (.single (.ofBay 0 (.raise t f)))

theorem Moves.answer {s t : State} (h : Moves s t) (code : ResultCode) (contents : List Byte) : Moves s (t.answer code contents) :=
  h.trans (.single (.ofBay 0 (.answer t code contents)))

theorem Moves.append {s t : State} (h : Moves s t) (body : RecordBody) (hroom : t.room = true) : Moves s (t.appendRecord body) :=
  h.trans (.single (.ofBay 0 (.append t body hroom)))

theorem Moves.updPort {s t : State} (h : Moves s t) (p : PortId) (f : Port → Port) : Moves s (t.updPort p f) :=
  h.trans (.single (.port t p _))

/-- A property that every move keeps, a run of moves keeps. -/
theorem Moves.keeps {P : State → Prop} (hP : ∀ s t, Move s t → P s → P t) {s t : State} (h : Moves s t) (hs : P s) : P t := by
  induction h with
  | refl => exact hs
  | tail _ hm ih => exact hP _ _ hm ih

theorem BayPath.keeps {b : BayId} {P : State → Prop} (hP : ∀ s t, BayMove b s t → P s → P t) {s t : State} (h : BayPath b s t)
    (hs : P s) : P t := by
  induction h with
  | refl => exact hs
  | tail _ hm ih => exact hP _ _ hm ih

/-- A property that every move, and what the engine does, keeps. -/
structure Kept (P : State → Prop) : Prop where
  move : ∀ s t, Move s t → P s → P t
  started : ∀ s t, s.engineTake = .started t → P s → P t
  ended : ∀ s t r reason, s.engineTake = .ended r reason t → P s → P t
  freed : ∀ s : State, P s → P s.freeEngine

/-- A property that every move and jump and what the engine does keep, a command's run keeps. -/
theorem Runs.keeps {c : Instr} {P : State → Prop} (hP : Kept P) (hjump : ∀ s t, Jump c s t → P s → P t) {s t : State}
    (h : Runs c s t) (hs : P s) : P t := by
  have hturn : ∀ s t, Turn s t → P s → P t := fun s t ht hs => by
    cases ht with
    | move h => exact hP.move s t h hs
    | started h => exact hP.started s t h hs
    | ended h m => exact hP.freed _ (m.keeps hP.move (hP.ended s _ _ _ h hs))
    | freed => exact hP.freed s hs
  obtain ⟨u, hp, ht⟩ := h
  have hu : P u := by
    clear ht
    induction hp with
    | refl => exact hs
    | tail _ hm ih => exact hm.elim (fun h => hP.move _ _ h ih) fun h => hjump _ _ h ih
  clear hp
  induction ht with
  | refl => exact hu
  | tail _ hm ih => exact hturn _ _ hm ih

/-! ### The outgoing direction -/

theorem beginFrame_moves (s : State) : Moves s s.beginFrame := by
  rcases beginFrame_cases s with h | ⟨hs, _, h⟩ | ⟨hs, _, ⟨tag, code, rest, hw, h⟩ | ⟨tag, body, rest, hw, h⟩⟩
  · rw [h]; exact .refl s
  all_goals
    rw [h]
    refine .single (.link s _ (fun hb => ⟨hb.1, ?_⟩) id)
    have := hb.2
    simp_all [Link.rejects]

theorem placeReject_moves (tag : Byte) (code : ResultCode) (s : State) : Moves s (s.placeReject tag code) := by
  rcases placeReject_cases tag code s with ⟨hlt, h⟩ | ⟨_, h⟩
  · rw [h]
    refine .single (.link s _ (fun hb => ⟨hb.1, ?_⟩) id)
    simp only [Link.rejects, List.countP_append, List.countP_singleton] at hlt ⊢
    simp only [if_true]
    omega
  · rw [h]; exact .refl s

/-! ### Internal work -/

theorem failRequest_moves (job : CipherJob) (reason : FailReason) (s : State) : Moves s (s.failRequest job reason) := by
  cases job with
  | transport b a => exact (decideOutcome_path b a _ s).moves
  | prepare b a => exact (decideOutcome_path b a _ s).moves
  | portCheck => exact .refl s
  | storeCheck => exact .refl s
  | importKey =>
    exact .answer (.single (.progress s none (by simp))) _ _

theorem settle_turns (n : Nat) (l : List BayId) (s : State) : Turns s (s.settle n l) := by
  induction n generalizing l s with
  | zero => exact .refl s
  | succ n ih =>
    cases l with
    | cons b rest => exact (advance_path b s).turns.trans (ih _ _)
    | nil =>
      simp only [State.settle]
      split
      · exact .refl s
      · next t h => exact .single (.started h)
      · next r reason t h => exact (Turns.single (.ended h (failRequest_moves r.job reason t))).trans (ih _ _)

/-- Internal work after moves. -/
theorem Moves.work {s t : State} (h : Moves s t) (l : List BayId) : Turns s (t.work l) := h.turns.trans (settle_turns _ l t)

theorem BayPath.work {b : BayId} {s t : State} (h : BayPath b s t) (l : List BayId) : Turns s (t.work l) := h.moves.work l

/-! ### The profile table -/

theorem stored_masked (on : Bool) (p : Profile) : (Entry.stored on p.stored).masked := by
  intro q hq
  obtain rfl : p.stored = q := by simpa [Entry.profile] using hq
  simp only [Profile.stored, BitVec.and_assoc, BitVec.and_self]

theorem setEnabled_profile (on : Bool) (x : Entry) : (x.setEnabled on).profile = x.profile := by cases x <;> rfl

theorem takeProfileWrite_moves (args : List Byte) (s : State) : Moves s (s.takeProfileWrite args) := by
  unfold State.takeProfileWrite
  split
  · exact .answer (.refl s) _ _
  split
  · exact .answer (.refl s) _ _
  · next h =>
    exact .answer (.single (.entry s _ _ (.inl (stored_masked _ _)) (.inl (by simpa using h)))) _ _

theorem takeProfileClear_moves (args : List Byte) (s : State) : Moves s (s.takeProfileClear args) := by
  unfold State.takeProfileClear
  split
  · exact .answer (.refl s) _ _
  split
  · exact .answer (.refl s) _ _
  · next h =>
    exact .answer (.single (.entry s _ _ (.inl (fun p hp => by simp [Entry.profile] at hp)) (.inl (by simpa using h)))) _ _

theorem setEnabled_moves (on : Bool) (e : EntryId) (s : State) : Moves s (s.setEntry e ((s.entry e).setEnabled on)) :=
  .single (.entry s e _ (.inr (setEnabled_profile on _)) (.inr (setEnabled_profile on _)))

theorem takeProfileEnable_moves (args : List Byte) (s : State) : Moves s (s.takeProfileEnable args) := by
  unfold State.takeProfileEnable
  split
  · exact .answer (.refl s) _ _
  · exact .answer (setEnabled_moves true _ s) _ _

theorem takeProfileDisable_moves (args : List Byte) (s : State) : Moves s (s.takeProfileDisable args) := by
  unfold State.takeProfileDisable
  split
  · exact .answer (.refl s) _ _
  · exact .answer (setEnabled_moves false _ s) _ _

/-! ### The report queue, the clock and STATUS -/

theorem admitWaiting_moves (l : List WaitingAppend) (s : State) : Moves s (s.admitWaiting l) := by
  induction l generalizing s with
  | nil => exact .refl s
  | cons w rest ih =>
    unfold State.admitWaiting
    split
    · next hroom =>
      refine Moves.trans ?_ (ih _)
      refine .trans (.append (.single (.ofBay w.bay (.waits s rest))) _ hroom) (markAppended_path w.bay w.addr _).moves
    · exact .refl s

theorem takeRecordsFetch_moves (args : List Byte) (s : State) : Moves s (s.takeRecordsFetch args) := by
  unfold State.takeRecordsFetch
  split
  · exact .answer (.refl s) _ _
  · exact .answer (.trans (.single (.records s _)) (admitWaiting_moves _ _)) _ _

theorem takeTimeSet_moves (args : List Byte) (s : State) : Moves s (s.takeTimeSet args) := by
  unfold State.takeTimeSet
  split
  · exact .answer (.refl s) _ _
  · next v _ => exact .answer (.single (.clock s v s.lastAdvance)) _ _

theorem takeStatus_moves (args : List Byte) (s : State) : Moves s (s.takeStatus args) := by
  unfold State.takeStatus
  split
  · refine .answer (.trans (.single (.notice s { flags := noFlags, armed := true })) (.single (.link _ _ ?_ ?_))) _ _
    · exact id
    · exact id
  · exact .answer (.refl s) _ _

/-! ### The bays' requests -/

theorem takeBatchStart_turns (args : List Byte) (s : State) : Turns s (s.takeBatchStart args) := by
  unfold State.takeBatchStart
  split
  · exact (Moves.answer (.refl s) _ _).turns
  split
  · exact (Moves.answer (.refl s) _ _).turns
  split
  · exact (Moves.answer (.refl s) _ _).turns
  next hst =>
  have hst : (s.bay _).state = .ready := not_not.1 hst
  split
  · exact (Moves.answer (.refl s) _ _).turns
  split
  · next hroom =>
    dsimp only
    refine Moves.work (.answer (.trans (.single (.batchNumber s (nextNumber s.report.batchCounter)))
      (.single (.begin _ _ _ hroom ?_))) _ _) _
    exact .of_contexts (fun h => Bay.supplyOk_on (h.ready hst) (by simp [Bay.startBatch]) (by simp [Bay.startBatch])) rfl
      (.inl rfl)
  · exact (Moves.answer (.refl s) _ _).turns

theorem answer_bay (s : State) (code : ResultCode) (contents : List Byte) (b : BayId) : (s.answer code contents).bay b = s.bay b := by
  simp [State.bay]

theorem takeBatchAbort_turns (args : List Byte) (s : State) : Turns s (s.takeBatchAbort args) := by
  have hstop : ∀ b, (s.bay b).isRunning = true → Turns s (State.work [b]
      (if (s.bay b).line.tx.inFlight then (s.answer .ok []).beginStop b .aborted none
        else ((s.answer .ok []).beginStop b .aborted none).proceedStop b)) := fun b hrun => by
    have hbegin : BayPath b s ((s.answer .ok []).beginStop b .aborted none) :=
      (BayPath.answer (.refl b s) .ok []).trans (beginStop_path _ _ (by rwa [answer_bay]))
    split
    · exact hbegin.work _
    · exact (hbegin.trans (proceedStop_path (beginStop_state b _ _ _))).work _
  unfold State.takeBatchAbort
  split
  · exact (Moves.answer (.refl s) _ _).turns
  split
  · exact (Moves.answer (.refl s) _ _).turns
  · next h => exact hstop _ (by simp [Bay.isRunning, h])
  · next h => exact hstop _ (by simp [Bay.isRunning, h])
  · exact (Moves.answer (.refl s) _ _).turns

theorem awaitReset_bay (s : State) (b : BayId) : (s.awaitReset b).bay b = { s.bay b with resetReply := some .ok } :=
  bay_updBay_same s b _

theorem awaitReset_isRunning (s : State) (b : BayId) : ((s.awaitReset b).bay b).isRunning = (s.bay b).isRunning := by
  rw [awaitReset_bay]; rfl

/-- A bay in FAULT with a line fault has its supply on (R72). -/
theorem Bay.supplyOk.lineFault {x : Bay} (h : x.supplyOk) (hst : x.state = .fault) (ho : x.faultReason ≠ some .overCurrent)
    (hp : x.faultReason ≠ some .powerTimeout) : x.supply = true := by
  rw [h.1]
  unfold Bay.supplyExpected
  split <;> simp_all

theorem takeBayReset_turns (args : List Byte) (s : State) : Turns s (s.takeBayReset args) := by
  have hstop : ∀ b, (s.bay b).isRunning = true →
      Turns s (State.work [b] (((s.awaitReset b).beginStop b .reset none).cutAndStop b)) := fun b hrun =>
    ((awaitReset_path b s).trans <| (beginStop_path _ _ ((awaitReset_isRunning s b).trans hrun)).trans
      (cutAndStop_path (beginStop_state b _ _ _))).work _
  have hline : ∀ b, ((s.bay b).supplyOk → (s.bay b).supply = true) → Turns s ((s.awaitReset b).resetLine b) := fun b hon =>
    ((awaitReset_path b s).trans (resetLine_path (by rw [awaitReset_bay]; exact hon))).turns
  unfold State.takeBayReset
  split
  · exact (Moves.answer (.refl s) _ _).turns
  next b _ =>
  split
  · exact (Moves.answer (.refl s) _ _).turns
  · exact (Moves.answer (.refl s) _ _).turns
  · next h => exact hstop _ (by simp [Bay.isRunning, h])
  · next h => exact hstop _ (by simp [Bay.isRunning, h])
  · next h =>
    refine ((awaitReset_path b s).trans <| (resetCause_path b _).trans (cutAndStop_path ?_)).work _
    rw [bay_updBay_same, awaitReset_bay]
    exact h
  · next h => exact hline b fun hs => hs.ready h
  · next h =>
    split
    · next hf => exact hline b fun hs => hs.lineFault h (by simp [hf]) (by simp [hf])
    · next hf => exact hline b fun hs => hs.lineFault h (by simp [hf]) (by simp [hf])
    · next hf =>
      exact (BayPath.answer (ready_path rfl rfl rfl rfl fun hs => hs.lineFault h (by simp [hf]) (by simp [hf])) _ _).turns
    · next hf =>
      exact (BayPath.answer (ready_path rfl rfl rfl rfl fun hs => hs.lineFault h (by simp [hf]) (by simp [hf])) _ _).turns
    · exact (BayPath.answer (toOff_path b s) _ _).turns
    · exact (BayPath.answer (toOff_path b s) _ _).turns

theorem takeLineTest_moves (args : List Byte) (s : State) : Moves s (s.takeLineTest args) := by
  unfold State.takeLineTest
  split
  · exact .answer (.refl s) _ _
  dsimp only
  split
  · exact .answer (.refl s) _ _
  split
  · exact .answer (.refl s) _ _
  · exact (takeLineTest_path _ s).moves

theorem takeBayPower_moves (args : List Byte) (s : State) : Moves s (s.takeBayPower args) := by
  unfold State.takeBayPower
  split
  · exact .answer (.refl s) _ _
  · exact (bayPowerUp_path _ s).moves
  · exact (bayPowerDown_path _ s).moves

/-! ### The key store -/

theorem takeKeyAssemble_turns (args : List Byte) (s : State) : Turns s (s.takeKeyAssemble args) := by
  unfold State.takeKeyAssemble
  split
  · exact (Moves.answer (.refl s) _ _).turns
  split
  · exact (Moves.answer (.refl s) _ _).turns
  next hl =>
  split
  · exact (Moves.answer (.refl s) _ _).turns
  split
  · exact (Moves.answer (.refl s) _ _).turns
  next hg =>
  split
  · next a b idA idB _ _ =>
    split
    · refine Moves.work (.cipher (.single (.progress s (some (.assembly _ (a ^^^ b) idA idB)) ?_)) (.place _ _ s.cipher)) _
      intro x hx
      obtain rfl := Option.mem_some_iff.1 hx
      exact ⟨by simpa using hl, by simpa [Progress.request] using hg⟩
    · exact (Moves.answer (.refl s) _ _).turns
  · exact (Moves.answer (.refl s) _ _).turns
  · exact (Moves.answer (.refl s) _ _).turns

theorem takeKeyImport_turns (args : List Byte) (s : State) : Turns s (s.takeKeyImport args) := by
  unfold State.takeKeyImport
  split
  · exact (Moves.answer (.refl s) _ _).turns
  next r transfer wrapped _ =>
  split
  · exact (Moves.answer (.refl s) _ _).turns
  next hl =>
  split
  · exact (Moves.answer (.refl s) _ _).turns
  split
  · exact (Moves.answer (.refl s) _ _).turns
  split
  · exact (Moves.answer (.refl s) _ _).turns
  next hg =>
  split
  · exact (Moves.answer (.refl s) _ _).turns
  split
  · refine Moves.work (.cipher (.single (.progress s (some (.importing r transfer)) ?_)) (.place _ _ s.cipher)) _
    intro x hx
    obtain rfl := Option.mem_some_iff.1 hx
    exact ⟨by simpa using hl, by simpa [Progress.request] using hg⟩
  · exact (Moves.answer (.refl s) _ _).turns

/-- The assembly holder emptied (R126). -/
def State.clearProgress (s : State) : State := { s with keys := { s.keys with progress := none } }

theorem endProgress_eq (code : ResultCode) (contents : List Byte) (s : State) :
    s.endProgress code contents = s.clearProgress.answer code contents := rfl
theorem clearProgress_appendRecord (body : RecordBody) (s : State) :
    (s.appendRecord body).clearProgress = s.clearProgress.appendRecord body := rfl
theorem clearProgress_setSlot (k : SlotId) (x : Slot) (s : State) :
    (s.setSlot k x).clearProgress = s.clearProgress.setSlot k x := rfl
theorem clearProgress_room (s : State) : s.clearProgress.room = s.room := rfl
theorem setSlot_room (k : SlotId) (x : Slot) (s : State) : (s.setSlot k x).room = s.room := rfl

theorem endProgress_moves (code : ResultCode) (contents : List Byte) (s : State) : Moves s (s.endProgress code contents) :=
  .answer (.single (.progress s none (by simp))) _ _

theorem countUse_lastGen (x : Slot) : x.countUse.lastGen = x.lastGen := by unfold Slot.countUse; split <;> rfl

theorem countUse_empty {x : Slot} (h : x.content = .empty) : x.countUse.content = .empty := by
  unfold Slot.countUse; split <;> simp_all

theorem countUse_moves (s : State) (k : SlotId) : Moves s (s.setSlot k (s.slot k).countUse) :=
  .single (.slot s k _ (countUse_lastGen _) countUse_empty)

theorem assemblyChecked_moves (check : CheckValue) (s : State) : Moves s (s.assemblyChecked check) := by
  unfold State.assemblyChecked
  split
  · next r key idA idB hp =>
    split
    · exact endProgress_moves _ _ s
    split
    · next hroom =>
      rw [endProgress_eq, clearProgress_appendRecord, clearProgress_setSlot]
      exact .answer (.append (.single (.store s _ hp _)) _ ((clearProgress_room s).trans hroom)) _ _
    · exact endProgress_moves _ _ s
  · exact .refl s

theorem importDeciphered_moves (key : Key) (check : CheckValue) (s : State) : Moves s (s.importDeciphered key check) := by
  unfold State.importDeciphered
  split
  · next r transfer hp =>
    split
    · exact endProgress_moves _ _ s
    split
    · next hroom =>
      dsimp only
      rw [endProgress_eq, clearProgress_appendRecord, clearProgress_setSlot, clearProgress_setSlot]
      exact .answer (.append (.trans (.single (.store s _ hp _)) (countUse_moves _ transfer)) _
        ((clearProgress_room s).trans hroom)) _ _
    · exact endProgress_moves _ _ s
  · exact .refl s

theorem takeKeyRetire_moves (args : List Byte) (s : State) : Moves s (s.takeKeyRetire args) := by
  unfold State.takeKeyRetire
  split
  · exact .answer (.refl s) _ _
  next k _ =>
  split
  · next i _ hc =>
    split
    · exact .answer (.refl s) _ _
    split
    · next hroom =>
      have hslot : Moves s (s.setSlot k { s.slot k with content := .retired i }) :=
        .single (.slot s k _ rfl fun h => by simp [hc] at h)
      exact .answer (hslot.append _ ((setSlot_room _ _ s).trans hroom)) _ _
    · exact .answer (.refl s) _ _
  · exact .answer (.refl s) _ _

theorem takeKeyErase_moves (args : List Byte) (s : State) : Moves s (s.takeKeyErase args) := by
  unfold State.takeKeyErase
  split
  · exact .answer (.refl s) _ _
  next k _ =>
  split
  · split
    · next hroom =>
      have hslot : Moves s (s.setSlot k (s.slot k).emptied) := .single (.slot s k _ rfl fun _ => rfl)
      exact .answer (hslot.append _ ((setSlot_room _ _ s).trans hroom)) _ _
    · exact .answer (.refl s) _ _
  · exact .answer (.refl s) _ _

/-! ### The token ports -/

theorem Moves.portTo {s t : State} (h : Moves s t) (p : PortId) (x : PortState) : Moves s (t.portTo p x) := .raise (.updPort h p _) _

theorem Moves.portSend {s t : State} (h : Moves s t) (p : PortId) : Moves s (t.portSend p) := by
  unfold State.portSend
  dsimp only
  split
  · split
    · exact .updPort h p _
    · exact h
  · exact h

theorem readFailed_moves (p : PortId) (ans : Answer) (s : State) : Moves s (s.readFailed p ans) := by
  unfold State.readFailed
  split
  · split
    · split
      · exact .portTo (.refl s) p _
      · exact .updPort (.refl s) p _
    · split
      · exact .portTo (.refl s) p _
      · exact .portSend (.updPort (.refl s) p _) p
    · split
      · exact .portTo (.refl s) p _
      · exact .portSend (.updPort (.refl s) p _) p
  · exact .refl s

theorem tokenRead_turns (p : PortId) (bytes : List Byte) (s : State) : Turns s (s.tokenRead p bytes) := by
  unfold State.tokenRead
  split
  · split
    · exact (Moves.portTo (.refl s) p _).turns
    · exact (Moves.portTo (.refl s) p _).turns
    · exact Moves.work (.cipher (.updPort (.refl s) p _) (.place _ _ _)) _
  · exact .refl s

theorem portLineFault_turns (p : PortId) (s : State) : Turns s (s.portLineFault p) := by
  unfold State.portLineFault
  dsimp only
  split
  · exact Moves.work (.portTo (.cipher (.updPort (.refl s) p _) (.withdraw _ _)) p _) _
  · exact (Moves.updPort (.refl s) p _).turns

theorem portAnswer_turns (p : PortId) (ans : Answer) (s : State) : Turns s (s.portAnswer p ans) := by
  unfold State.portAnswer
  split
  · exact portLineFault_turns p s
  · dsimp only
    split
    · exact (Moves.updPort (.refl s) p _).turns.trans (tokenRead_turns p _ _)
    · exact (Moves.updPort (.refl s) p _).turns.trans (readFailed_moves p _ _).turns

theorem assemblyLosesToken_moves (s : State) : Moves s s.assemblyLosesToken := by
  unfold State.assemblyLosesToken
  split
  · exact (Moves.cipher (.refl s) (.withdraw _ _)).trans (endProgress_moves _ _ _)
  · exact .refl s

theorem contactOpens_turns (p : PortId) (s : State) : Turns s (s.contactOpens p) := by
  unfold State.contactOpens
  dsimp only
  split
  · exact (Moves.updPort (.refl s) p _).turns
  · have h := Moves.portTo (.cipher (.updPort (.updPort (.refl s) p (fun q => { q with contact := false })) p
      (fun q => { q with line := q.line.cutFrame s.time })) (.withdraw (CipherJob.isPortCheck p) _)) p .empty
    refine Moves.work ?_ _
    split
    · exact h.trans (assemblyLosesToken_moves _)
    · exact h

theorem contactCloses_moves (p : PortId) (s : State) : Moves s (s.contactCloses p) := by
  unfold State.contactCloses
  dsimp only
  split
  · exact .portTo (.updPort (.refl s) p _) p _
  · exact .updPort (.refl s) p _

theorem componentChecked_moves (p : PortId) (check : CheckValue) (s : State) : Moves s (s.componentChecked p check) := by
  unfold State.componentChecked
  split
  · split
    · exact .portTo (.refl s) p _
    · exact .portTo (.refl s) p _
  · exact .refl s

theorem Moves.setPorts {s t : State} (h : Moves s t) (qa qb : Port) : Moves s { t with portA := qa, portB := qb } :=
  h.trans <| (Moves.single (.port t .a qa)).trans (.single (.port _ .b qb))

theorem tamperPorts_moves (s : State) : Moves s s.tamperPorts := by
  unfold State.tamperPorts
  dsimp only
  split
  · exact .raise (.setPorts (.refl s) _ _) _
  · exact .setPorts (.refl s) _ _

/-! ### Completions and the window -/

theorem deliver_moves (r : Running) (s : State) : Moves s (s.deliver r) := by
  unfold State.deliver
  split
  · exact .refl s
  split
  · exact .cipher (.refl s) (.setHolder _ _ _ _)
  · exact (BayPath.upd_of_eq rfl rfl rfl id rfl (.inr rfl)).moves
  · exact componentChecked_moves _ _ s
  · exact assemblyChecked_moves _ s
  · exact importDeciphered_moves _ _ s
  · exact failRequest_moves _ _ s
  · exact .refl s

theorem complete_turns (kind : CipherJob → Bool) (s : State) : Turns s (s.complete kind) := by
  unfold State.complete
  split
  · split
    · exact ((deliver_moves _ s).turns.trans (.single (.freed _))).trans (settle_turns _ _ _)
    · exact .refl s
  · exact .refl s

theorem failAll_moves (l : List (BayId × Addr)) (s : State) : Moves s (s.failAll l) := by
  induction l generalizing s with
  | nil => exact .refl s
  | cons x rest ih => exact (decideOutcome_path x.1 x.2 _ s).moves.trans (ih _)

theorem endRollIfRolling_moves (s : State) (b : BayId) : Moves s (s.endRollIfRolling b) := by
  unfold State.endRollIfRolling
  split
  · exact (endRoll_path b s).moves
  · exact .refl s

/-- A step for every bay of a list. -/
theorem foldl_moves {f : State → BayId → State} (hf : ∀ s b, Moves s (f s b)) (l : List BayId) (s : State) :
    Moves s (l.foldl f s) := by
  induction l generalizing s with
  | nil => exact .refl s
  | cons b rest ih => exact (hf s b).trans (ih _)

theorem closeWindow_runs (c : Instr) (s : State) : Runs c s s.closeWindow :=
  (Prelude.jump (.close s)).runs <|
    (Moves.work ((failAll_moves s.cipher.derivations _).trans (foldl_moves endRollIfRolling_moves allBays _)) allBays).runs c

theorem Runs.answer {c : Instr} {s t : State} (h : Runs c s t) (code : ResultCode) (contents : List Byte) :
    Runs c s (t.answer code contents) := h.turns (Moves.answer (.refl t) _ _).turns

theorem grantMinutes_range (m : Nat) : 15 ≤ grantMinutes m ∧ grantMinutes m ≤ 480 := by
  unfold grantMinutes; split_ifs <;> omega

theorem takeWindowOpen_moves (args : List Byte) (s : State) : Moves s (s.takeWindowOpen args) := by
  unfold State.takeWindowOpen
  split
  · exact .answer (.refl s) _ _
  split
  · exact .answer (.refl s) _ _
  next asked _ hl =>
  split
  · exact .answer (.refl s) _ _
  · exact .answer (.refl s) _ _
  split
  · next hroom =>
    refine .answer (.append (.single (.window s _ (.inl (by simpa using hl)) fun _ => ?_)) _ hroom) _ _
    have := grantMinutes_range asked
    omega
  · exact .answer (.refl s) _ _

theorem takeWindowClose_runs (c : Instr) (args : List Byte) (s : State) : Runs c s (s.takeWindowClose args) := by
  unfold State.takeWindowClose
  split
  · refine .answer ?_ _ _
    split
    · exact closeWindow_runs c s
    · exact .refl c s
  · exact .answer (.refl c s) _ _

theorem expireWindow_runs (c : Instr) (s : State) : Runs c s s.expireWindow :=
  (closeWindow_runs c s).turns (Moves.raise (.refl _) _).turns

theorem expireIfOver_runs (c : Instr) (s : State) : Runs c s s.expireIfOver := by
  unfold State.expireIfOver
  split
  · exact .refl c s
  split
  · exact expireWindow_runs c s
  · exact .refl c s

theorem advanceClock_runs (c : Instr) (s : State) : Runs c s s.advanceClock := by
  have hclock : Moves s { s with clock := s.clock + 1, lastAdvance := s.time } := .single (.clock s _ _)
  unfold State.advanceClock
  dsimp only
  split
  · exact hclock.runs c
  next n hw =>
  split
  · exact (hclock.prelude c).runs (expireWindow_runs c _)
  · refine (hclock.trans (.single (.window _ _ (.inr (by simp [hw])) fun hr => ?_))).runs c
    have := hr n hw
    omega

/-! ### The enclosure -/

theorem tamperTest_path (b : BayId) (s : State) : BayPath b s (s.tamperTest b) := by
  unfold State.tamperTest
  split
  · exact .answer (.upd_of_eq rfl rfl rfl (by simp [Tx.isReset]) rfl (.inr rfl)) _ _
  · exact .refl b s

theorem tamperTest_state (b : BayId) (s : State) : ((s.tamperTest b).bay b).state = (s.bay b).state := by
  unfold State.tamperTest
  split
  · rw [answer_bay, bay_updBay_same]
  · rfl

theorem tamperReset_path {b : BayId} {s : State} (hon : (s.bay b).supplyOk → (s.bay b).supply = true) (now : Nat) :
    BayPath b s (s.updBay b (Bay.tamperReset now)) := by
  have hst : ((s.bay b).tamperReset now).state = (s.bay b).state := by unfold Bay.tamperReset; split <;> rfl
  refine .upd (fun h => by rw [isRunning_of_state hst] at h; exact h) ?_
  unfold Bay.tamperReset
  split
  · exact .of_eq rfl rfl rfl id rfl (.inr rfl)
  · exact .of_contexts (fun h => ⟨h.1, fun _ => hon h⟩) rfl (.inr rfl)

theorem tamperIdleBay_path (b : BayId) (s : State) : BayPath b s (s.tamperIdleBay b) := by
  unfold State.tamperIdleBay
  split
  · exact .refl b s
  · next h => exact tamperReset_path (fun hs => hs.ready h) _
  · next h hf => exact tamperReset_path (fun hs => hs.lineFault h (by simp [hf]) (by simp [hf])) _
  · next h hf => exact tamperReset_path (fun hs => hs.lineFault h (by simp [hf]) (by simp [hf])) _
  · exact (toOff_path b s).trans (replyReset_path b _)

theorem tamperBay_path (b : BayId) (s : State) : BayPath b s (s.tamperBay b) := by
  have hclear : BayPath b s ((s.tamperTest b).updBay b (fun x =>
      { x.tamperReply with buffers := [.free, .free], line := { x.line with rate := .standard } })) :=
    (tamperTest_path b s).trans (.upd_of_eq rfl rfl rfl id rfl (.inr rfl))
  unfold State.tamperBay
  dsimp only
  split
  · next hrun =>
    refine hclear.trans <| (beginStop_path _ _ ?_).trans (cutAndStop_path (beginStop_state b _ _ _))
    rw [bay_updBay_same]
    exact (isRunning_of_state (tamperTest_state b s)).trans hrun
  · exact hclear.trans (tamperIdleBay_path b _)

theorem inputActive_runs (c : Instr) (i : EnclosureInput) (s : State) : Runs c s (s.inputActive i) := by
  have hset : Moves s { s with enclosure := s.enclosure.setInput i true } := .single (.enclosure s _ (by cases i <;> exact id))
  unfold State.inputActive
  dsimp only
  split
  · exact hset.runs c
  · refine (hset.prelude c).runs ((Prelude.jump (.tamper _)).runs ?_)
    exact ((tamperPorts_moves _).trans (foldl_moves (fun s b => (tamperBay_path b s).moves) allBays _)).runs c

theorem takeTamperClear_moves (args : List Byte) (s : State) : Moves s (s.takeTamperClear args) := by
  unfold State.takeTamperClear
  split
  · split
    · exact .answer (.refl s) _ _
    split
    · exact .answer (.refl s) _ _
    split
    · exact .answer (.refl s) _ _
    · exact .answer (.refl s) _ _
    · exact .answer (.single (.enclosure s _ fun h => by simp at h)) _ _
  · exact .answer (.refl s) _ _

/-! ### The station link -/

theorem takeRequest_runs (i : Instr) (c : RequestCode) (args : List Byte) (s : State) : Runs i s (s.takeRequest c args) := by
  have hread : ∀ code contents, Runs i s (s.answer code contents) := fun code contents => .answer (.refl i s) _ _
  cases c with
  | batchStart => exact (takeBatchStart_turns args s).runs i
  | batchAbort => exact (takeBatchAbort_turns args s).runs i
  | bayStatus => show Runs i s (s.takeBayStatus args); unfold State.takeBayStatus; split <;> exact hread _ _
  | bayReset => exact (takeBayReset_turns args s).runs i
  | bayPower => exact (takeBayPower_moves args s).runs i
  | lineTest => exact (takeLineTest_moves args s).runs i
  | profileWrite => exact (takeProfileWrite_moves args s).runs i
  | profileRead => show Runs i s (s.takeProfileRead args); unfold State.takeProfileRead; split <;> exact hread _ _
  | profileEnable => exact (takeProfileEnable_moves args s).runs i
  | profileDisable => exact (takeProfileDisable_moves args s).runs i
  | profileClear => exact (takeProfileClear_moves args s).runs i
  | keyInfo => show Runs i s (s.takeKeyInfo args); unfold State.takeKeyInfo; split <;> exact hread _ _
  | keyAssemble => exact (takeKeyAssemble_turns args s).runs i
  | keyImport => exact (takeKeyImport_turns args s).runs i
  | keyRetire => exact (takeKeyRetire_moves args s).runs i
  | keyErase => exact (takeKeyErase_moves args s).runs i
  | tokenStatus => show Runs i s (s.takeTokenStatus args); unfold State.takeTokenStatus; split <;> exact hread _ _
  | windowOpen => exact (takeWindowOpen_moves args s).runs i
  | windowClose => exact takeWindowClose_runs i args s
  | recordsFetch => exact ((takeRecordsFetch_moves args s).work _).runs i
  | timeSet => exact (takeTimeSet_moves args s).runs i
  | status => exact (takeStatus_moves args s).runs i
  | tamperClear => exact (takeTamperClear_moves args s).runs i
  | restart => show Runs i s (s.takeRestart args); unfold State.takeRestart; split <;> exact hread _ _


end Sys2Proof.Machine

/-! SUPPORT. The station link, RESTART and the start-up as runs, and every command of the machine as one. -/

namespace Sys2Proof.Machine

/-! ### The head of the request queue -/

/-- A head that has been given to its owner stays given, and a unit not started is not started (R170, R176). -/
structure HeadKept (s t : State) : Prop where
  started : t.started = s.started
  head : s.link.head ≠ .notGiven → t.link.head ≠ .notGiven

theorem HeadKept.of_eq {s t : State} (hs : t.started = s.started) (hl : t.link.head = s.link.head) : HeadKept s t := ⟨hs, by simp [hl]⟩

theorem HeadKept.trans {s t u : State} (h : HeadKept s t) (k : HeadKept t u) : HeadKept s u :=
  ⟨k.started.trans h.started, k.head ∘ h.head⟩

theorem raise_head (f : Flag) (s : State) : (s.raise f).link.head = s.link.head := by
  unfold State.raise; dsimp only; split <;> rfl

theorem appendRecord_head (body : RecordBody) (s : State) : (s.appendRecord body).link.head = s.link.head := by
  unfold State.appendRecord; dsimp only; rw [raise_head]; rfl

theorem answer_headKept (s : State) (code : ResultCode) (contents : List Byte) : HeadKept s (s.answer code contents) := by
  refine ⟨by simp, fun h => ?_⟩
  unfold State.answer; split
  · simp
  · exact h

theorem BayMove.headKept {b : BayId} {s t : State} (h : BayMove b s t) : HeadKept s t := by
  cases h with
  | bay | cipher | waits => exact .of_eq rfl rfl
  | close | append => exact .of_eq (by simp) (by simp [appendRecord_head])
  | raise => exact .of_eq (by simp) (by simp [raise_head])
  | answer => exact answer_headKept s _ _

theorem Move.headKept {s t : State} (h : Move s t) : HeadKept s t := by
  cases h with
  | ofBay b h => exact h.headKept
  | port _ p _ => cases p <;> exact .of_eq rfl rfl
  | link _ l _ hh => exact ⟨rfl, hh⟩
  | begin | clock | entry | slot | progress | store | window | enclosure | notice | records | batchNumber => exact .of_eq rfl rfl

theorem emptyKeys_headKept (s : State) : HeadKept s s.emptyKeys := by
  have hans : HeadKept s (if s.keys.progress.isSome then s.answer .tampered [] else s) := by
    split
    · exact answer_headKept s _ _
    · exact .of_eq rfl rfl
  exact hans.trans (.of_eq rfl rfl)

theorem tamperCore_headKept (s : State) : HeadKept s s.tamperCore := by
  have hraise : HeadKept s (State.raise .tamper { s with enclosure := s.enclosure.setLatch true }) :=
    .of_eq (by simp) (raise_head _ _)
  exact hraise.trans ((emptyKeys_headKept _).trans (.of_eq rfl rfl))

/-- A head given to its owner stays given, but for the end of a reply and the supply. -/
theorem Runs.headGiven {s t : State} (h : Runs .receiveGapTimeout s t) (hs : s.link.head ≠ .notGiven) :
    t.link.head ≠ .notGiven := by
  refine h.keeps (P := fun s => s.link.head ≠ .notGiven)
    ⟨fun _ _ h => h.headKept.head, fun s t hst hs => ?_, fun s t r reason hen hs => ?_, fun _ hs => hs⟩ (fun s t hj => ?_) hs
  · obtain ⟨_, q, m, used, _, _, rfl⟩ := engineTake_started hst
    simpa using hs
  · obtain ⟨_, q, _, _, _, rfl⟩ := engineTake_ended hen
    exact hs
  · cases hj with
    | close | restart | started => exact id
    | tamper => exact (tamperCore_headKept s).head
    | link _ _ h => exact absurd h nofun

/-- No request would be given to its owner now: the unit has not started, or no head waits to be given (R170, R176). -/
def State.givesNone (s : State) : Prop := s.started = false ∨ s.link.head ≠ .notGiven

theorem Moves.givesNone {s t : State} (h : Moves s t) (hs : s.givesNone) : t.givesNone :=
  h.keeps (fun _ _ hm hs => hs.imp (hm.headKept.started.trans ·) hm.headKept.head) hs

theorem giveHead_of_givesNone {s : State} (h : s.givesNone) : s.giveHead = s := by
  unfold State.giveHead
  split
  · next hs hh _ => exact absurd hh (h.resolve_left (by simp [hs]))
  · rfl

/-- Giving the head does nothing, or gives it. -/
theorem giveHead_cases (c : Instr) (s : State) :
    s.giveHead = s ∨ (Runs c s s.giveHead ∧ s.giveHead.link.head ≠ .notGiven) := by
  unfold State.giveHead
  split
  · next r _ _ _ _ =>
    right
    have hgive : Moves s { s with link := { s.link with head := .withOwner } } := .single (.link s _ id fun _ => nofun)
    dsimp only
    split
    · next k _ => exact ⟨(hgive.prelude c).runs (takeRequest_runs c k _ _), (takeRequest_runs .receiveGapTimeout k _ _).headGiven nofun⟩
    · exact ⟨hgive.runs c, nofun⟩
  · exact .inl rfl

theorem giveHead_runs (c : Instr) (s : State) : Runs c s s.giveHead := by
  rcases giveHead_cases c s with h | ⟨h, _⟩
  · rw [h]; exact .refl c s
  · exact h

/-! ### Arrivals -/

/-- A state reached by moves, after which the head of the queue may be given. -/
def Arrives (s t : State) : Prop := ∃ u, Moves s u ∧ (t = u ∨ t = u.giveHead)

theorem Moves.arrives {s t : State} (h : Moves s t) : Arrives s t := ⟨t, h, .inl rfl⟩

theorem Moves.then_arrives {s t u : State} (h : Moves s t) (k : Arrives t u) : Arrives s u := by
  obtain ⟨v, hv, hu⟩ := k
  exact ⟨v, h.trans hv, hu⟩

theorem Arrives.runs {s t : State} (h : Arrives s t) (c : Instr) : Runs c s t := by
  obtain ⟨u, hu, rfl | rfl⟩ := h
  · exact hu.runs c
  · exact (hu.prelude c).runs (giveHead_runs c u)

theorem requestArrives_arrives (tag code : Byte) (args : List Byte) (s : State) : Arrives s (s.requestArrives tag code args) := by
  unfold State.requestArrives
  split
  · exact (placeReject_moves _ _ s).arrives
  · next h =>
    refine ⟨{ s with link := { s.link with queue := s.link.queue ++ [{ tag := tag, code := code, args := args }] } },
      .single (.link s _ (fun hb => ⟨?_, hb.2⟩) id), .inr rfl⟩
    simp only [List.length_append, List.length_singleton, Config.requestPlaces] at h ⊢
    omega

theorem judgeFrame_arrives (bytes : List Byte) (s : State) : Arrives s (s.judgeFrame bytes) := by
  have hreject : ∀ tag code, Arrives s (s.placeReject tag code) := fun tag code => (placeReject_moves tag code s).arrives
  unfold State.judgeFrame
  dsimp only
  split
  · exact hreject _ _
  split
  · exact hreject _ _
  split
  · exact hreject _ _
  split
  · exact hreject _ _
  · exact requestArrives_arrives _ _ _ s

theorem setAssembler_moves (a : Assembler) (s : State) : Moves s (s.setAssembler a) := .single (.link s _ id id)

theorem receiveByte_arrives (byte : Byte) (s : State) : Arrives s (s.receiveByte byte) := by
  have hset : ∀ a, Arrives s (s.setAssembler a) := fun a => (setAssembler_moves a s).arrives
  unfold State.receiveByte
  split
  · split
    · exact hset _
    · exact hset _
  · dsimp only
    split
    · exact hset _
    split
    · split
      · exact ((setAssembler_moves _ s).trans (placeReject_moves _ _ _)).arrives
      · exact hset _
    split
    · exact (setAssembler_moves _ s).then_arrives (judgeFrame_arrives _ _)
    · exact hset _

theorem receiveBytes_cons (byte : Byte) (bytes : List Byte) (s : State) :
    s.receiveBytes (byte :: bytes) = (s.receiveByte byte).beginFrame.receiveBytes bytes := rfl

/-- While no request can be given, received bytes only move the state. -/
theorem receiveBytes_moves (bytes : List Byte) {s : State} (h : s.givesNone) : Moves s (s.receiveBytes bytes) := by
  induction bytes generalizing s with
  | nil => exact .refl s
  | cons byte bytes ih =>
    obtain ⟨u, hu, hbyte⟩ := receiveByte_arrives byte s
    have hbyte : s.receiveByte byte = u := hbyte.elim id fun h' => h'.trans (giveHead_of_givesNone (hu.givesNone h))
    have hframe : Moves s u.beginFrame := hu.trans (beginFrame_moves u)
    rw [receiveBytes_cons, hbyte]
    exact hframe.trans (ih (hframe.givesNone h))

/-- Of the requests that received bytes bring, at most one is given to its owner. -/
theorem receiveBytes_runs (c : Instr) (bytes : List Byte) (s : State) : Runs c s (s.receiveBytes bytes) := by
  induction bytes generalizing s with
  | nil => exact .refl c s
  | cons byte bytes ih =>
    obtain ⟨u, hu, hbyte⟩ := receiveByte_arrives byte s
    have hgiven : s.receiveByte byte = u ∨ (Runs c u (s.receiveByte byte) ∧ (s.receiveByte byte).link.head ≠ .notGiven) := by
      rcases hbyte with h | h
      · exact .inl h
      · rw [h]; exact giveHead_cases c u
    rw [receiveBytes_cons]
    rcases hgiven with h | ⟨hrun, hhead⟩
    · rw [h]
      exact ((hu.trans (beginFrame_moves u)).prelude c).runs (ih _)
    · have hframe := beginFrame_moves (s.receiveByte byte)
      exact ((hu.prelude c).runs hrun).turns
        (hframe.trans (receiveBytes_moves bytes (hframe.givesNone (.inr hhead)))).turns

/-! ### RESTART -/

theorem restartBay_path (b : BayId) (s : State) : BayPath b s (s.restartBay b) := by
  have hcut : BayPath b s (s.updBay b (fun x =>
      { x with line := { x.line.cut s.time with loopback := false, rate := .standard }, resetReply := none })) :=
    .upd_of_eq rfl rfl rfl (by simp [Tx.isReset]) rfl (.inr rfl)
  have hclear : ∀ t : State, BayPath b t (t.updBay b (fun x =>
      { x with
        contexts := [], buffers := [.free, .free], roll := .none, rollOver := false, rateOwed := false, resendAt := none })) :=
    fun t => .upd id (.of_empty (fun h => h.of_eq rfl rfl rfl id) rfl rfl)
  unfold State.restartBay
  dsimp only
  refine .trans ?_ (hclear _)
  split
  · next hrun =>
    refine hcut.trans <| (beginStop_path .restart none ?_).trans (finishStop_path (isRunning_of_stopping (beginStop_state b _ _ _)))
    rw [bay_updBay_same]
    exact hrun
  split
  · exact hcut
  · exact hcut.trans (toOff_path b _)

theorem startNotice_moves (tamper : Bool) (s : State) : Moves s (s.startNotice tamper) :=
  .trans (.single (.notice s { flags := startFlags tamper s, armed := false })) (.single (.link _ _ id id))

theorem coldLink_bounded : coldLink.bounded := ⟨by decide, by decide⟩

theorem restart_runs (s : State) : Runs .outgoingFrameSent s s.restart := by
  have hlink : Prelude .outgoingFrameSent s { s with link := coldLink } :=
    .jump (.link s coldLink (fun _ => coldLink_bounded) rfl)
  have hbays : Moves { s with link := coldLink } (allBays.foldl State.restartBay { s with link := coldLink }) :=
    foldl_moves (fun s b => (restartBay_path b s).moves) allBays _
  unfold State.restart
  dsimp only
  exact hlink.runs <| (hbays.prelude _).runs <| (Prelude.jump (.restart _ s.time)).runs <| (startNotice_moves false _).runs _

/-! ### The outgoing direction and the start-up -/

theorem frameSent_runs (s : State) : Runs .outgoingFrameSent s s.frameSent := by
  unfold State.frameSent
  split
  · exact .refl _ s
  · split
    · exact restart_runs s
    · next hs _ =>
      refine (Prelude.jump (.link s _ (fun hb => ⟨?_, ?_⟩) rfl)).runs (giveHead_runs _ _)
      · have := hb.1
        simp only [List.length_tail]
        omega
      · have := hb.2
        simpa [Link.rejects, hs] using this
  · refine (Moves.single (.link s { s.link with sending := none } (fun hb => ⟨hb.1, ?_⟩) id)).runs _
    have := hb.2
    simp only [Link.rejects] at this ⊢
    omega

/-- The unit just after its start-up checks, every block in its power-on state (R182). -/
def State.poweredUp (f : PowerOnFinds) (s : State) : State :=
  { s.losePower.startChecks f with
    powered := true, portA := startPort s.time f.contactA, portB := startPort s.time f.contactB }

theorem startUp_runs (c : Instr) (f : PowerOnFinds) (s : State) : Runs c (s.poweredUp f) (s.startUp f) := by
  unfold State.startUp
  dsimp only
  refine ((receiveBytes_moves f.early (.inl ?_)).prelude _).runs <| ((startNotice_moves _ _).prelude _).runs <|
    (Prelude.jump (.started _)).runs <| ((beginFrame_moves _).prelude _).runs (giveHead_runs _ _)
  rfl

/-! ### Every command -/

theorem event_runs {c : Instr} {f : State → State} {s t : State} (h : Runs c s (f s)) (ht : event f s = .next t) : Runs c s t := by
  unfold event at ht
  simp only [Host.Outcome.next.injEq] at ht
  rw [← ht]
  split
  · exact h.turns (beginFrame_moves _).turns
  · exact .refl c s

theorem request_runs {i : Instr} {c : RequestCode} {tag : Byte} {args : List Byte} {s t : State}
    (ht : request c tag args s = .next t) : Runs i s t :=
  event_runs ((requestArrives_arrives tag c.code args s).runs i) ht

theorem frameEnded_turns (kind : FrameKind) (b : BayId) (shown : List Nat) (s : State) : Turns s (s.frameEnded kind b shown) := by
  unfold State.frameEnded
  split
  · split
    · exact (endAnswered_path b _ _ _ s).work _
    · exact .refl s
  · exact .refl s

theorem frameRanOut_turns (kind : FrameKind) (b : BayId) (s : State) : Turns s (s.frameRanOut kind b) := by
  unfold State.frameRanOut
  split
  · split
    · exact (frameRun_path b _ s).work _
    · exact .refl s
  · exact .refl s

theorem bayAnswerLimit_turns (b : BayId) (s : State) : Turns s (s.bayAnswerLimit b) := by
  unfold State.bayAnswerLimit
  split
  · split
    · exact (endAnswered_path b _ _ _ s).work _
    · exact .refl s
  · exact .refl s

theorem bayLineFree_turns (b : BayId) (s : State) : Turns s (s.bayLineFree b) := by
  unfold State.bayLineFree
  dsimp only
  split
  · exact BayPath.work (.upd_of_eq rfl rfl rfl id rfl (.inr rfl)) _
  · exact .refl s

theorem bayEchoFault_turns (b : BayId) (fault : LineFault) (s : State) : Turns s (s.bayEchoFault b fault) := by
  unfold State.bayEchoFault
  split
  · exact (bayLineFault_path b fault s).work _
  · exact .refl s

theorem bayHeldActive_turns (b : BayId) (s : State) : Turns s (s.bayHeldActive b) := by
  unfold State.bayHeldActive
  split
  · exact (bayLineFault_path b _ s).work _
  · exact .refl s

theorem resetOver_path (b : BayId) (s : State) : BayPath b s (s.updBay b (fun x => { x with line := x.line.resetOver s.time })) :=
  .upd_of_eq rfl rfl rfl (by simp [LineEnd.resetOver, Tx.isReset]) rfl (.inr rfl)

theorem lineResetOver_turns (b : BayId) (s : State) : Turns s (s.lineResetOver b) := by
  unfold State.lineResetOver
  split
  · next hr =>
    dsimp only
    split
    · next hst =>
      refine ((resetOver_path b s).trans (finishStop_path (isRunning_of_stopping ?_))).work _
      rw [bay_updBay_same]
      exact hst
    split
    · exact ((resetOver_path b s).trans <| (toOff_path b _).trans (replyReset_path b _)).turns
    · rw [updBay_updBay]
      exact ((ready_path rfl rfl rfl rfl fun h => h.resetting hr).trans (replyReset_path b _)).turns
  · exact .refl s

theorem senseOverCurrent_turns (b : BayId) (s : State) : Turns s (s.senseOverCurrent b) := by
  unfold State.senseOverCurrent
  dsimp only
  split
  · exact .refl s
  next hs =>
  split
  · next hrun => exact (overCurrentStop_path hrun).work _
  split
  · exact ((toOff_path b s).trans (replyReset_path b _)).turns
  · exact ((enterFault_path _ fun _ => by simpa using hs).trans (replyReset_path b _)).turns

theorem pollFallsDue_turns (b : BayId) (a : Addr) (s : State) : Turns s (s.pollFallsDue b a) := by
  unfold State.pollFallsDue
  split
  · refine BayPath.work (.updCtx_all fun c => ?_) _
    split
    · exact .refl s c
    · exact .of_eq rfl rfl rfl rfl rfl rfl
  · exact .refl s

theorem due_offers (r : RollNext) : r.due.offers = none ∨ r.due.offers = r.offers := by
  cases r
  · exact .inl rfl
  · exact .inl rfl
  · exact .inr rfl

theorem rollDue_work (b : BayId) (s : State) : Turns s ((s.updBay b (fun x => { x with roll := x.roll.due })).work [b]) :=
  BayPath.work (.upd_of_eq rfl rfl rfl id rfl (due_offers _)) _

theorem rollFallsDue_turns (b : BayId) (s : State) : Turns s (s.rollFallsDue b) := by
  unfold State.rollFallsDue
  split
  · exact rollDue_work b s
  · exact .refl s

theorem resendFallsDue_turns (b : BayId) (s : State) : Turns s (s.resendFallsDue b) := by
  unfold State.resendFallsDue
  split
  · exact BayPath.work (.upd_of_eq rfl rfl rfl id rfl (.inr rfl)) _
  · split
    · exact .refl s
    · exact rollDue_work b s
  · exact .refl s

theorem updLine_moves (l : LineId) (now : Nat) (active : Bool) (s : State) : Moves s (s.updLine l (LineEnd.shows now active)) := by
  cases l with
  | bay b =>
    have h : BayPath b s (s.updBay b (fun x => { x with line := x.line.shows now active })) :=
      .upd_of_eq rfl rfl rfl (by rw [shows_tx]; exact id) rfl (.inr rfl)
    exact h.moves
  | port p => exact .updPort (.refl s) p (fun q => { q with line := q.line.shows now active })

theorem portFrameEnded_turns (p : PortId) (shown : List Nat) (s : State) : Turns s (s.portFrameEnded p shown) := by
  unfold State.portFrameEnded
  split
  · exact portAnswer_turns p _ s
  · exact .refl s

theorem portAnswerLimit_turns (p : PortId) (s : State) : Turns s (s.portAnswerLimit p) := by
  unfold State.portAnswerLimit
  split
  · exact portAnswer_turns p _ s
  · exact .refl s

theorem portDataEnd_moves (p : PortId) (s : State) : Moves s (s.portDataEnd p) := by
  unfold State.portDataEnd
  split
  · exact .updPort (.refl s) p _
  · exact .refl s

theorem portEchoFault_turns (p : PortId) (s : State) : Turns s (s.portEchoFault p) := by
  unfold State.portEchoFault
  split
  · exact portLineFault_turns p s
  · exact .refl s

theorem portHeldActive_turns (p : PortId) (s : State) : Turns s (s.portHeldActive p) := by
  unfold State.portHeldActive
  split
  · exact portLineFault_turns p s
  · exact .refl s

theorem portLineFree_moves (p : PortId) (s : State) : Moves s (s.portLineFree p) := by
  unfold State.portLineFree
  dsimp only
  split
  · exact .portSend (.updPort (.refl s) p _) p
  · exact .refl s

theorem settled_moves (p : PortId) (s : State) : Moves s (State.settled p s) := by
  unfold State.settled
  split
  · exact .portSend (.portTo (.refl s) p _) p
  · exact .refl s

theorem readResend_moves (p : PortId) (s : State) : Moves s (s.readResend p) := by
  unfold State.readResend
  split
  · exact .portSend (.updPort (.refl s) p _) p
  · exact .refl s

theorem inputInactive_moves (i : EnclosureInput) (s : State) : Moves s (s.inputInactive i) :=
  .single (.enclosure s _ (by cases i <;> exact id))

/-- Every command is a run of small changes; the supply's are one from the unit without power, or just powered up. -/
theorem exec_runs {c : Instr} {s t : State} (h : exec c s = .next t) :
    Runs c s t ∨ (c = .powerLoss ∧ t = s.losePower) ∨ ∃ f, c = .powerOn f ∧ s.powered = false ∧ Runs c (s.poweredUp f) t := by
  by_cases hsupply : c = .powerLoss ∨ ∃ f, c = .powerOn f
  · rcases hsupply with rfl | ⟨f, rfl⟩
    · simp only [exec, execPowerLoss, Host.Outcome.next.injEq] at h
      split at h
      · exact .inr (.inl ⟨rfl, h.symm⟩)
      · exact .inl (h ▸ .refl _ s)
    · simp only [exec, execPowerOn, Host.Outcome.next.injEq] at h
      split at h
      · exact .inl (h ▸ .refl _ s)
      · next hp =>
        exact .inr (.inr ⟨f, rfl, by simpa using hp, h ▸ (startUp_runs _ f s).turns (beginFrame_moves _).turns⟩)
  left
  cases c with
  | powerLoss => exact absurd (.inl rfl) hsupply
  | powerOn f => exact absurd (.inr ⟨f, rfl⟩) hsupply
  | bayPowerOn | bayPowerOff => exact request_runs h
  | batchStart | batchAbort | bayStatus | bayReset | lineTest => exact request_runs h
  | profileWrite | profileRead | profileEnable | profileDisable | profileClear => exact request_runs h
  | keyInfo | keyAssemble | keyImport | keyRetire | keyErase => exact request_runs h
  | tokenStatus | windowOpen | windowClose | recordsFetch | timeSet | status | tamperClear | restart => exact request_runs h
  | frameLengthFault | frameReceived | stationByteReceived => exact event_runs (receiveBytes_runs _ _ s) h
  | receiveGapTimeout => exact event_runs ((Moves.single (.link s { s.link with assembler := .hunting } id id)).runs _) h
  | outgoingFrameSent => exact event_runs (frameSent_runs s) h
  | lineFree line =>
    cases line with
    | bay b => exact event_runs ((bayLineFree_turns b s).runs _) h
    | port p => exact event_runs ((portLineFree_moves p s).runs _) h
  | dataEndPassed line =>
    cases line with
    | bay b => exact event_runs ((bayDataEnd_path b s).turns.runs _) h
    | port p => exact event_runs ((portDataEnd_moves p s).runs _) h
  | answerLimit line =>
    cases line with
    | bay b => exact event_runs ((bayAnswerLimit_turns b s).runs _) h
    | port p => exact event_runs ((portAnswerLimit_turns p s).runs _) h
  | rollCallEnded | enrolEnded | keyEnded | commitEnded | pollEnded => exact event_runs ((frameEnded_turns _ _ _ s).runs _) h
  | rateEnded | dismissEnded => exact event_runs ((frameRanOut_turns _ _ s).runs _) h
  | pollDue b a => exact event_runs ((pollFallsDue_turns b a s).runs _) h
  | rollCallDue b => exact event_runs ((rollFallsDue_turns b s).runs _) h
  | resendDelayExpired b => exact event_runs ((resendFallsDue_turns b s).runs _) h
  | lineStuckPassive line =>
    cases line with
    | bay b => exact event_runs ((bayEchoFault_turns b _ s).runs _) h
    | port p => exact event_runs ((portEchoFault_turns p s).runs _) h
  | echoMismatch line =>
    cases line with
    | bay b => exact event_runs ((bayEchoFault_turns b _ s).runs _) h
    | port p => exact event_runs ((portEchoFault_turns p s).runs _) h
  | lineHeldActive line =>
    cases line with
    | bay b => exact event_runs ((bayHeldActive_turns b s).runs _) h
    | port p => exact event_runs ((portHeldActive_turns p s).runs _) h
  | lineResetEnded b => exact event_runs ((lineResetOver_turns b s).runs _) h
  | lineTestFrameEnded b delay echo => exact event_runs ((lineTestOver_path b delay echo s).turns.runs _) h
  | lineLevelChange l active =>
    exact event_runs (f := fun s => s.updLine l (LineEnd.shows s.time active)) ((updLine_moves l s.time active s).runs _) h
  | quietCountReached b => exact event_runs ((quietReached_path b s).turns.runs _) h
  | powerTimeout b => exact event_runs ((powerTimeout_path b s).turns.runs _) h
  | overCurrent b => exact event_runs ((senseOverCurrent_turns b s).runs _) h
  | transportComplete | prepareComplete | checkComplete | importComplete => exact event_runs ((complete_turns _ s).runs _) h
  | presenceContactCloses p => exact event_runs ((contactCloses_moves p s).runs _) h
  | presenceContactOpens p => exact event_runs ((contactOpens_turns p s).runs _) h
  | settlingTimeExpires p => exact event_runs ((settled_moves p s).runs _) h
  | readTokenEnded p shown => exact event_runs ((portFrameEnded_turns p shown s).runs _) h
  | readTokenResendDue p => exact event_runs ((readResend_moves p s).runs _) h
  | clockAdvance =>
    simp only [exec, execClockAdvance] at h
    split at h
    · exact event_runs (advanceClock_runs _ s) h
    · obtain rfl := Host.Outcome.next.inj h
      exact advanceClock_runs _ s
  | windowExpiry => exact event_runs (expireIfOver_runs _ s) h
  | enclosureInputActive i => exact event_runs (inputActive_runs _ i s) h
  | enclosureInputInactive i => exact event_runs ((inputInactive_moves i s).runs _) h

/-- A property that the small changes and the supply keep, a command keeps. -/
theorem Kept.exec {P : State → Prop} (hP : Kept P) {c : Instr} (hjump : ∀ s t, Jump c s t → P s → P t) {s t : State}
    (hloss : P s → P s.losePower) (hup : ∀ f, c = .powerOn f → s.powered = false → P s → P (s.poweredUp f))
    (h : exec c s = .next t) (hs : P s) : P t := by
  rcases exec_runs h with h | ⟨_, rfl⟩ | ⟨f, hc, hp, h⟩
  · exact h.keeps hP hjump hs
  · exact hloss hs
  · exact h.keeps hP hjump (hup f hc hp hs)

/-- A property that the small changes and the supply keep, and that asks nothing of the commands that wait or of the timebase, a step
keeps. -/
theorem Kept.step {P : State → Prop} (hP : Kept P) (hjump : ∀ c s t, Jump c s t → P s → P t) {s t : State}
    (htime : ∀ pending time, P { s with pending := pending, time := time } ↔ P s) (hloss : ∀ s, P s → P s.losePower)
    (hup : ∀ f rest, s.pending = .powerOn f :: rest → P s → P (State.poweredUp f { s with pending := rest }))
    (h : step s = .next t) (hs : P s) : P t := by
  unfold Machine.step at h
  split at h
  · obtain rfl := Host.Outcome.next.inj h
    exact (htime _ _).2 hs
  · next c rest hq =>
    refine hP.exec (hjump c) (hloss _) (fun f hc _ _ => ?_) h ((htime rest s.time).2 hs)
    subst hc
    exact hup f rest hq hs

end Sys2Proof.Machine

/-! The invariants that every step keeps. -/

namespace Sys2Proof.Machine

/-! ### What the small changes leave -/

/-- What a bay controller's small change leaves as it was: every other bay, the stores but the report queue, the ports, the window, the
enclosure and the clock. -/
structure BayFrame (b : BayId) (s t : State) : Prop where
  bays : ∀ b', b' ≠ b → t.bay b' = s.bay b'
  pending : t.pending = s.pending
  powered : t.powered = s.powered
  started : t.started = s.started
  time : t.time = s.time
  clock : t.clock = s.clock
  lastAdvance : t.lastAdvance = s.lastAdvance
  enclosure : t.enclosure = s.enclosure
  window : t.window = s.window
  profiles : t.profiles = s.profiles
  profileCheck : t.checks.profiles = s.checks.profiles
  keys : t.keys = s.keys
  keyCheck : t.checks.keyStore = s.checks.keyStore
  portA : t.portA = s.portA
  portB : t.portB = s.portB
  batchCounter : t.report.batchCounter = s.report.batchCounter
  requests : t.link.queue = s.link.queue
  assembler : t.link.assembler = s.link.assembler

theorem BayFrame.refl (b : BayId) (s : State) : BayFrame b s s := by constructor <;> intros <;> rfl

theorem BayFrame.trans {b : BayId} {s t u : State} (h : BayFrame b s t) (k : BayFrame b t u) : BayFrame b s u where
  bays b' hb := (k.bays b' hb).trans (h.bays b' hb)
  pending := k.pending.trans h.pending
  powered := k.powered.trans h.powered
  started := k.started.trans h.started
  time := k.time.trans h.time
  clock := k.clock.trans h.clock
  lastAdvance := k.lastAdvance.trans h.lastAdvance
  enclosure := k.enclosure.trans h.enclosure
  window := k.window.trans h.window
  profiles := k.profiles.trans h.profiles
  profileCheck := k.profileCheck.trans h.profileCheck
  keys := k.keys.trans h.keys
  keyCheck := k.keyCheck.trans h.keyCheck
  portA := k.portA.trans h.portA
  portB := k.portB.trans h.portB
  batchCounter := k.batchCounter.trans h.batchCounter
  requests := k.requests.trans h.requests
  assembler := k.assembler.trans h.assembler

theorem raise_queue (f : Flag) (s : State) : (s.raise f).link.queue = s.link.queue := by
  unfold State.raise; dsimp only; split <;> rfl

theorem raise_assembler (f : Flag) (s : State) : (s.raise f).link.assembler = s.link.assembler := by
  unfold State.raise; dsimp only; split <;> rfl

theorem answer_queue (s : State) (code : ResultCode) (contents : List Byte) :
    (s.answer code contents).link.queue = s.link.queue := by
  unfold State.answer; split <;> rfl

theorem answer_assembler (s : State) (code : ResultCode) (contents : List Byte) :
    (s.answer code contents).link.assembler = s.link.assembler := by
  unfold State.answer; split <;> rfl

theorem raise_frame (b : BayId) (f : Flag) (s : State) : BayFrame b s (s.raise f) := by
  constructor <;> intros <;> simp [State.bay, raise_queue, raise_assembler]

theorem appendRecord_frame (b : BayId) (body : RecordBody) (s : State) : BayFrame b s (s.appendRecord body) :=
  BayFrame.trans (by constructor <;> intros <;> rfl) (raise_frame b .records _)

theorem setBay_frame (b : BayId) (x : Bay) (s : State) : BayFrame b s (s.setBay b x) := by
  constructor
  case bays => exact fun b' hb => bay_setBay_ne s x hb.symm
  all_goals rfl

theorem BayMove.frame {b : BayId} {s t : State} (h : BayMove b s t) : BayFrame b s t := by
  cases h with
  | bay y => exact setBay_frame b y s
  | close body y => exact (appendRecord_frame b body s).trans (setBay_frame b y _)
  | cipher | waits => constructor <;> intros <;> rfl
  | append body => exact appendRecord_frame b body s
  | raise f => exact raise_frame b f s
  | answer code contents => constructor <;> intros <;> simp [State.bay, answer_queue, answer_assembler]

/-- What a bay controller does to its own bay. -/
theorem BayMove.bayKept {b : BayId} {s t : State} (h : BayMove b s t) : BayKept s (s.bay b) (t.bay b) := by
  cases h with
  | bay y _ h => rw [bay_setBay_same]; exact h
  | close body y _ _ h => rw [bay_setBay_same]; exact h
  | cipher | waits => exact .refl s _
  | append body => simp only [State.bay, appendRecord_bays]; exact .refl s _
  | raise f => simp only [State.bay, raise_bays]; exact .refl s _
  | answer code contents => simp only [State.bay, answer_bays]; exact .refl s _

theorem BayMove.cipherKept {b : BayId} {s t : State} (h : BayMove b s t) : CipherKept s.cipher t.cipher := by
  cases h with
  | bay | waits => exact .refl _
  | close body y => simp only [setBay_cipher, appendRecord_cipher]; exact .refl _
  | cipher c h => exact h
  | append body => simp only [appendRecord_cipher]; exact .refl _
  | raise f => simp only [raise_cipher]; exact .refl _
  | answer code contents => simp only [answer_cipher]; exact .refl _

theorem BayPath.frame {b : BayId} {s t : State} (h : BayPath b s t) : BayFrame b s t :=
  h.keeps (P := BayFrame b s) (fun _ _ hm hs => hs.trans hm.frame) (.refl b s)

/-- What a move does to each bay. -/
theorem Move.bayKept {s t : State} (h : Move s t) (b : BayId) : BayKept s (s.bay b) (t.bay b) := by
  have hset : ∀ b' y, BayKept s (s.bay b') y → BayKept s (s.bay b) ((s.setBay b' y).bay b) := fun b' y h => by
    rw [bay_setBay]; split
    · next hb => exact hb ▸ h
    · exact .refl s _
  cases h with
  | ofBay b' h =>
    by_cases hb : b = b'
    · exact hb ▸ h.bayKept
    · rw [h.frame.bays b hb]; exact .refl s _
  | begin _ b' y _ h => exact hset b' y h
  | port _ p q => cases p <;> exact .refl s _
  | clock | entry | slot | progress | store | window | enclosure | link | notice | records | batchNumber => exact .refl s _

/-- What a move does to the cipher unit. -/
theorem Move.cipherKept {s t : State} (h : Move s t) : CipherKept s.cipher t.cipher := by
  cases h with
  | ofBay b h => exact h.cipherKept
  | port _ p q => cases p <;> exact .refl _
  | begin | clock | entry | slot | progress | store | window | enclosure | link | notice | records | batchNumber => exact .refl _

/-! ### What the engine and the jumps leave -/

theorem choice_mem {c : Cipher} {r : CipherRequest} (h : c.choice = some r) : r ∈ c.queue := by
  unfold Cipher.choice at h
  split at h
  · next x hx =>
    obtain rfl := Option.some.inj h
    exact List.mem_of_find?_eq_some hx
  · exact List.mem_of_mem_head? h

/-- A property of the bays and the profiles is none of the engine's or of a jump's affair. -/
theorem started_bays {s t : State} (h : s.engineTake = .started t) : t.bays = s.bays ∧ t.profiles = s.profiles := by
  obtain ⟨_, q, m, used, _, _, rfl⟩ := engineTake_started h
  exact ⟨countUse_bays s used, countUse_profiles s used⟩

theorem ended_bays {s t : State} {r : Running} {reason : FailReason} (h : s.engineTake = .ended r reason t) :
    t.bays = s.bays ∧ t.profiles = s.profiles := by
  obtain ⟨_, q, _, _, _, rfl⟩ := engineTake_ended h
  exact ⟨rfl, rfl⟩

theorem emptyKeys_bays (s : State) : s.emptyKeys.bays = s.bays := by
  unfold State.emptyKeys; simp only [setSlots_bays]; split <;> simp

theorem emptyKeys_profiles (s : State) : s.emptyKeys.profiles = s.profiles := by
  unfold State.emptyKeys; simp only [setSlots_profiles]; split <;> simp

theorem emptyKeys_report (s : State) : s.emptyKeys.report = s.report := by
  unfold State.emptyKeys; simp only [setSlots_report]; split <;> simp

theorem emptyKeys_enclosure (s : State) : s.emptyKeys.enclosure = s.enclosure := by
  unfold State.emptyKeys; simp only [setSlots_enclosure]; split <;> simp

theorem tamperCore_bays (s : State) : s.tamperCore.bays = s.bays := by
  simp [State.tamperCore, emptyKeys_bays]

theorem tamperCore_profiles (s : State) : s.tamperCore.profiles = s.profiles := by
  simp [State.tamperCore, emptyKeys_profiles]

theorem tamperCore_report (s : State) : s.tamperCore.report = s.report := by
  simp [State.tamperCore, emptyKeys_report]

theorem jump_bays {c : Instr} {s t : State} (h : Jump c s t) : t.bays = s.bays ∧ t.profiles = s.profiles := by
  cases h with
  | tamper => exact ⟨tamperCore_bays s, tamperCore_profiles s⟩
  | close | link | restart | started => exact ⟨rfl, rfl⟩

theorem bay_of_bays {s t : State} (h : t.bays = s.bays) (b : BayId) : t.bay b = s.bay b := by simp [State.bay, h]

/-- A property of every bay that `BayKept` keeps, every small change keeps. -/
theorem kept_of_bayKept {p : Bay → Prop} (hp : ∀ s x y, BayKept s x y → p x → p y) : Kept (fun s => ∀ b, p (s.bay b)) where
  move s t h hs b := hp s _ _ (h.bayKept b) (hs b)
  started s t h hs b := by rw [bay_of_bays (started_bays h).1]; exact hs b
  ended s t r reason h hs b := by rw [bay_of_bays (ended_bays h).1]; exact hs b
  freed s hs := hs

theorem losePower_bay (s : State) (b : BayId) : s.losePower.bay b = coldBay := by simp [State.bay, State.losePower]

theorem poweredUp_bay (f : PowerOnFinds) (s : State) (b : BayId) : (s.poweredUp f).bay b = coldBay := losePower_bay s b

/-! ### The cipher queue (R100) -/

theorem coldCipher_sharesOk : coldCipher.sharesOk := ⟨by decide, by decide⟩

theorem sharesOk_kept : Kept (fun s => s.cipher.sharesOk) where
  move s t h hs := h.cipherKept.shares hs
  started s t h hs := by
    obtain ⟨_, q, m, used, hq, _, rfl⟩ := engineTake_started h
    exact sharesOk_run (choice_mem hq) rfl hs
  ended s t r reason h hs := by
    obtain ⟨_, q, hq, _, rfl, rfl⟩ := engineTake_ended h
    exact sharesOk_run (choice_mem hq) rfl hs
  freed s hs := sharesOk_free hs

/-- Settles O4: every place in the cipher queue is taken through the admission test. -/
theorem cipherSharesKept : Obligations.CipherSharesKept := by
  unfold Obligations.CipherSharesKept
  intro s t hs h
  refine sharesOk_kept.step (fun c s t hj hs => ?_) (fun _ _ => Iff.rfl) (fun _ _ => coldCipher_sharesOk)
    (fun _ _ _ _ => coldCipher_sharesOk) h hs
  cases hj with
  | close => exact (CipherKept.closeDerivations s.cipher).shares hs
  | tamper | restart => exact coldCipher_sharesOk
  | link | started => exact hs

/-! ### Supply, tables and positions (R5, R17, R19, R72) -/

theorem coldBay_supplyOk : coldBay.supplyOk := ⟨rfl, by decide⟩
theorem coldBay_tableOk : coldBay.tableOk := ⟨by decide, by decide, by decide, trivial⟩

/-- Settles O6: a bay's supply changes only with its state and fault reason. -/
theorem supplyKept : Obligations.SupplyKept := by
  unfold Obligations.SupplyKept
  intro s t hs h
  refine (kept_of_bayKept (p := Bay.supplyOk) fun _ _ _ h => h.supply).step (fun c s t hj hs b => ?_) (fun _ _ => Iff.rfl)
    (fun s _ b => ?_) (fun f rest _ _ b => ?_) h hs
  · rw [bay_of_bays (jump_bays hj).1]; exact hs b
  · rw [losePower_bay]; exact coldBay_supplyOk
  · rw [poweredUp_bay]; exact coldBay_supplyOk

/-- Settles O7: a context joins a table at the address its ENROL offered. -/
theorem contextTablesKept : Obligations.ContextTablesKept := by
  unfold Obligations.ContextTablesKept
  intro s t hs h
  refine (kept_of_bayKept (p := Bay.tableOk) fun _ _ _ h => h.table).step (fun c s t hj hs b => ?_) (fun _ _ => Iff.rfl)
    (fun s _ b => ?_) (fun f rest _ _ b => ?_) h hs
  · rw [bay_of_bays (jump_bays hj).1]; exact hs b
  · rw [losePower_bay]; exact coldBay_tableOk
  · rw [poweredUp_bay]; exact coldBay_tableOk

theorem profileOf_congr {s t : State} (h : t.profiles = s.profiles) (c : Context) : t.profileOf c = s.profileOf c := by
  simp [State.profileOf, State.entry, h]

theorem positionsOk_congr {s t : State} (h : t.profiles = s.profiles) {x : Bay} (hx : x.positionsOk s) : x.positionsOk t :=
  fun c hc p hp => hx c hc p (profileOf_congr h c ▸ hp)

/-- Only a change of an entry changes the profiles. -/
theorem Move.profiles {s t : State} (h : Move s t) : t.profiles = s.profiles ∨ ∃ e x, t = s.setEntry e x ∧
    (s.inUse e = false ∨ x.profile = (s.entry e).profile) := by
  cases h with
  | entry _ e x _ hu => exact .inr ⟨e, x, rfl, hu⟩
  | ofBay b h => exact .inl h.frame.profiles
  | port _ p q => cases p <;> exact .inl rfl
  | begin | clock | slot | progress | store | window | enclosure | link | notice | records | batchNumber => exact .inl rfl

/-- A context whose key set is being worked holds its entry in use (R88). -/
theorem not_inUse {s : State} {e : EntryId} (h : s.inUse e = false) {b : BayId} {c : Context} (hc : c ∈ (s.bay b).contexts)
    (he : c.entry = some e) : c.phase = .done := by
  by_contra hp
  have hheld : c.holdsEntry = true := by simp [Context.holdsEntry, hp]
  have : s.inUse e = true := by
    simp only [State.inUse, Vector.any_eq_true, List.any_eq_true]
    exact ⟨b.val, b.isLt, c, hc, by simp [he, hheld]⟩
  simp [h] at this

theorem setEntry_positionsOk {s : State} {e : EntryId} {x : Entry} (hu : s.inUse e = false ∨ x.profile = (s.entry e).profile)
    {b : BayId} (hs : (s.bay b).positionsOk s) : (s.bay b).positionsOk (s.setEntry e x) := by
  intro c hc p hp
  by_cases he : c.entry = some e
  · rcases hu with hu | hx
    · have := not_inUse hu hc he
      exact c.inOrder_of_phase p (by simp [this]) (by simp [this])
    · refine hs c hc p ?_
      simp only [State.profileOf, he, Option.bind_some, entry_setEntry_same] at hp ⊢
      rw [← hx, hp]
  · refine hs c hc p ?_
    simp only [State.profileOf, Option.bind_eq_some_iff] at hp ⊢
    obtain ⟨d, hd, hp⟩ := hp
    rw [entry_setEntry, if_neg fun h => he (by rw [hd, h])] at hp
    exact ⟨d, hd, hp⟩

/-- Every bay's table in order, and its key sets worked in order. -/
def OrderedWork (s : State) : Prop := ∀ b, (s.bay b).tableOk ∧ (s.bay b).positionsOk s

theorem OrderedWork.congr {s t : State} (hb : t.bays = s.bays) (hp : t.profiles = s.profiles) (hs : OrderedWork s) :
    OrderedWork t := fun b => by rw [bay_of_bays hb]; exact ⟨(hs b).1, positionsOk_congr hp (hs b).2⟩

theorem OrderedWork.of_cold {s : State} (h : ∀ b, s.bay b = coldBay) : OrderedWork s := fun b => by
  rw [h b]; exact ⟨coldBay_tableOk, fun c hc => by simp [coldBay] at hc⟩

theorem orderedWork_kept : Kept OrderedWork where
  move s t h hs b := by
    have hb := h.bayKept b
    refine ⟨hb.table (hs b).1, ?_⟩
    rcases h.profiles with hp | ⟨e, x, rfl, hu⟩
    · exact positionsOk_congr hp (hb.positions (hs b).1 (hs b).2)
    · exact setEntry_positionsOk hu (hs b).2
  started s t h hs := hs.congr (started_bays h).1 (started_bays h).2
  ended s t r reason h hs := hs.congr (ended_bays h).1 (ended_bays h).2
  freed s hs := hs

/-- Settles O10: a position is passed over only when it is confirmed, and an entry in use does not change. -/
theorem positionsKept : Obligations.PositionsKept := by
  unfold Obligations.PositionsKept
  intro s t htab hpos h
  have hwork := orderedWork_kept.step (fun c s t hj hs => hs.congr (jump_bays hj).1 (jump_bays hj).2) (fun _ _ => Iff.rfl)
    (fun s _ => .of_cold (losePower_bay s)) (fun f rest _ _ => .of_cold (poweredUp_bay f _)) h (fun b => ⟨htab b, hpos b⟩)
  exact fun b => (hwork b).2

end Sys2Proof.Machine

/-! The invariants of the stores, the queues and the engine that every step keeps. -/

namespace Sys2Proof.Machine

/-! ### The latch (R135, R150, R180) -/

theorem LatchedIsEmpty.congr {s t : State} (he : t.latched = true → s.latched = true) (hk : t.keys = s.keys)
    (hw : t.window = s.window) (hs : LatchedIsEmpty s) : LatchedIsEmpty t := fun hl => by
  obtain ⟨hslots, hprogress, hwindow⟩ := hs (he hl)
  exact ⟨fun k => by simpa [State.slot, hk] using hslots k, hk ▸ hprogress, hw ▸ hwindow⟩

/-- A change of a slot that leaves an EMPTY one EMPTY. -/
theorem LatchedIsEmpty.setSlot {s : State} {k : SlotId} {x : Slot} (he : (s.slot k).content = .empty → x.content = .empty)
    (hs : LatchedIsEmpty s) : LatchedIsEmpty (s.setSlot k x) := fun hl => by
  obtain ⟨hslots, hprogress, hwindow⟩ := hs hl
  refine ⟨fun j => ?_, hprogress, hwindow⟩
  rw [slot_setSlot]
  split
  · exact he (hslots k)
  · exact hslots j

theorem LatchedIsEmpty.countUse {s : State} (used : Option SlotId) (hs : LatchedIsEmpty s) : LatchedIsEmpty (s.countUse used) := by
  cases used with
  | none => exact hs
  | some k => exact hs.setSlot countUse_empty

theorem latchedIsEmpty_kept : Kept LatchedIsEmpty where
  move s t h hs := by
    cases h with
    | ofBay b h => exact hs.congr (by simp [State.latched, h.frame.enclosure]) h.frame.keys h.frame.window
    | port _ p q => cases p <;> exact hs
    | slot _ k x _ he => exact hs.setSlot he
    | progress _ p h =>
      intro hl
      obtain ⟨hslots, _, hwindow⟩ := hs hl
      refine ⟨hslots, Option.eq_none_iff_forall_not_mem.2 fun x hx => ?_, hwindow⟩
      exact absurd hl (by simpa [State.latched] using (h x hx).1)
    | store _ x hx =>
      intro hl
      have := (hs hl).2.1
      simp [hx] at this
    | window _ n hl =>
      intro hl'
      have hw := (hs hl').2.2
      rcases hl with hl | hl
      · exact absurd hl' (by simpa [State.latched] using hl)
      · simp [hw] at hl
    | enclosure _ e h => exact hs.congr h rfl rfl
    | begin | clock | entry | link | notice | records | batchNumber => exact hs
  started s t h hs := by
    obtain ⟨_, q, m, used, _, _, rfl⟩ := engineTake_started h
    exact hs.countUse used
  ended s t r reason h hs := by
    obtain ⟨_, q, _, _, _, rfl⟩ := engineTake_ended h
    exact hs
  freed s hs := hs

theorem emptyKeys_slot (s : State) (k : SlotId) : s.emptyKeys.slot k = (s.slot k).emptied := by
  unfold State.emptyKeys State.slot
  simp only [setSlots_slots, Vector.getElem_map]
  split <;> simp

theorem tamperCore_slot (s : State) (k : SlotId) : s.tamperCore.slot k = (s.slot k).emptied := by
  show (State.emptyKeys _).slot k = _
  rw [emptyKeys_slot]
  simp [State.slot]

theorem tamperCore_empty (s : State) : LatchedIsEmpty s.tamperCore :=
  fun _ => ⟨fun k => by rw [tamperCore_slot]; rfl, rfl, rfl⟩

/-- The slots that the start-up works on: those found, or with a failed check EMPTY ones (R183). -/
def State.startSlots (f : PowerOnFinds) (s : State) : Vector Slot 32 :=
  if (s.startResults f).keyStore then Vector.replicate 32 emptySlot else (s.foundKeys f).contents

theorem poweredUp_slots (f : PowerOnFinds) (s : State) :
    (s.poweredUp f).keys.slots =
      if (s.poweredUp f).latched then (s.startSlots f).map Slot.emptied else s.startSlots f := by
  have hl : (s.poweredUp f).latched = (f.lid || f.mesh ||
      ({ lid := f.lid, mesh := f.mesh, latchCopy := (f.latchFound.getD (s.enclosure.latchCopy, s.enclosure.latchComplement)).1,
         latchComplement := (f.latchFound.getD (s.enclosure.latchCopy, s.enclosure.latchComplement)).2,
         failed := s.startResults f } : Enclosure).latched) := latched_setLatch _ _
  rw [hl]
  rfl

theorem poweredUp_slot (f : PowerOnFinds) (s : State) (k : SlotId) :
    (s.poweredUp f).slot k =
      if (s.poweredUp f).latched then ((s.startSlots f)[k.val]).emptied else (s.startSlots f)[k.val] := by
  unfold State.slot
  simp only [poweredUp_slots]
  split <;> simp

/-- Settles O9: what sets the latch empties the slots and closes the window, and nothing fills or opens them under it. -/
theorem latchedStaysEmpty : Obligations.LatchedStaysEmpty := by
  unfold Obligations.LatchedStaysEmpty
  intro s t hs h
  refine latchedIsEmpty_kept.step (fun c s t hj hs => ?_) (fun _ _ => Iff.rfl) (fun s hs => ?_) (fun f rest _ _ => ?_) h hs
  · cases hj with
    | close | restart => exact fun hl => ⟨(hs hl).1, (hs hl).2.1, rfl⟩
    | tamper => exact tamperCore_empty s
    | link | started => exact hs
  · exact fun hl => ⟨(hs hl).1, rfl, rfl⟩
  · exact fun hl => ⟨fun k => by rw [poweredUp_slot, if_pos hl]; rfl, rfl, rfl⟩

/-! ### The generations (R121) -/

theorem progressFresh_iff (s : State) :
    ProgressFresh s ↔ ∀ x ∈ s.keys.progress, (s.slot x.request.slot).lastGen < x.request.gen := by
  unfold ProgressFresh
  cases s.keys.progress with
  | none => simp
  | some x => cases x <;> simp [Progress.request]

/-- Each slot's last generation is not below the one given, and that of an assembly or import in progress is above its slot's. -/
def GensKept (g : SlotId → Generation) (s : State) : Prop := ProgressFresh s ∧ ∀ k, g k ≤ (s.slot k).lastGen

theorem GensKept.congr {g : SlotId → Generation} {s t : State} (hs : GensKept g s)
    (hp : t.keys.progress = s.keys.progress ∨ t.keys.progress = none) (hk : ∀ k, (t.slot k).lastGen = (s.slot k).lastGen) :
    GensKept g t := by
  refine ⟨?_, fun k => hk k ▸ hs.2 k⟩
  have hf := (progressFresh_iff s).1 hs.1
  rw [progressFresh_iff]
  intro x hx
  rw [hk]
  rcases hp with hp | hp
  · exact hf x (hp ▸ hx)
  · simp [hp] at hx

theorem setSlot_lastGen {s : State} {k : SlotId} {x : Slot} (hx : x.lastGen = (s.slot k).lastGen) (j : SlotId) :
    ((s.setSlot k x).slot j).lastGen = (s.slot j).lastGen := by
  rw [slot_setSlot]
  split
  · next h => rw [hx, h]
  · rfl

theorem gensKept_kept (g : SlotId → Generation) : Kept (GensKept g) where
  move s t h hs := by
    cases h with
    | ofBay b h => exact hs.congr (.inl (by rw [h.frame.keys])) fun k => by simp [State.slot, h.frame.keys]
    | port _ p q => cases p <;> exact hs
    | slot _ k x hp => exact hs.congr (.inl rfl) (setSlot_lastGen hp)
    | progress _ p h =>
      refine ⟨(progressFresh_iff _).2 fun x hx => (h x hx).2, hs.2⟩
    | store _ x hx c =>
      refine ⟨trivial, fun k => ?_⟩
      have hfresh := (progressFresh_iff s).1 hs.1 x hx
      rw [slot_setSlot]
      split
      · next hk =>
        have hle := hs.2 k
        rw [← hk] at hle ⊢
        simp only [BitVec.le_def, BitVec.lt_def] at hle hfresh ⊢
        omega
      · exact hs.2 k
    | begin | clock | entry | window | enclosure | link | notice | records | batchNumber => exact hs
  started s t h hs := by
    obtain ⟨_, q, m, used, _, _, rfl⟩ := engineTake_started h
    cases used with
    | none => exact hs
    | some k => exact hs.congr (.inl rfl) (setSlot_lastGen (countUse_lastGen _))
  ended s t r reason h hs := by
    obtain ⟨_, q, _, _, _, rfl⟩ := engineTake_ended h
    exact hs
  freed s hs := hs

theorem GensKept.jump {g : SlotId → Generation} {c : Instr} {s t : State} (h : Jump c s t) (hs : GensKept g s) : GensKept g t := by
  cases h with
  | tamper => exact hs.congr (.inr rfl) fun k => by rw [tamperCore_slot]; rfl
  | close | link | restart | started => exact hs

/-- A slot at start-up, its check passed and no decay missed, keeps its last generation (R183). -/
theorem poweredUp_lastGen {f : PowerOnFinds} {s : State} (hseen : DecaySeen f s)
    (hcheck : keyStoreCheck (s.foundKeys f).contents = (s.foundKeys f).check) (k : SlotId) :
    ((s.poweredUp f).slot k).lastGen = (s.slot k).lastGen := by
  have hfound : (s.foundKeys f).contents = s.keys.slots := by
    unfold State.foundKeys foundOr at hcheck ⊢
    cases hf : f.keyStore with
    | none => rfl
    | some x => exact hseen.1 x hf (by simpa [hf] using hcheck)
  have hslots : s.startSlots f = s.keys.slots := by
    have hpass : (s.startResults f).keyStore = false := bne_eq_false_iff_eq.2 hcheck
    simp [State.startSlots, hpass, hfound]
  rw [poweredUp_slot, hslots]
  split <;> rfl

/-- Settles O8: a slot's last generation is written only with a generation above it. -/
theorem lastGenerationNeverFalls : Obligations.LastGenerationNeverFalls := by
  unfold Obligations.LastGenerationNeverFalls
  refine ⟨fun s t hs h => ?_, fun c s t hseen hs h => ?_⟩
  · have := (gensKept_kept fun _ => 0).step (fun c s t hj hs => hs.jump hj) (fun _ _ => Iff.rfl)
      (fun s hs => hs.congr (.inr rfl) fun _ => rfl) (fun f rest _ _ => ⟨trivial, fun k => Nat.zero_le _⟩) h
      ⟨hs, fun k => Nat.zero_le _⟩
    exact this.1
  · by_cases hfail : ∃ f, c = .powerOn f ∧ s.powered = false ∧ keyStoreCheck (s.foundKeys f).contents ≠ (s.foundKeys f).check
    · exact .inr hfail
    · left
      refine ((gensKept_kept fun k => (s.slot k).lastGen).exec (fun s t hj hs => hs.jump hj)
        (fun hs => hs.congr (.inr rfl) fun _ => rfl) (fun f hc hp hs => ?_) h ⟨hs, fun k => BitVec.le_refl _⟩).2
      have hcheck : keyStoreCheck (s.foundKeys f).contents = (s.foundKeys f).check := by
        by_contra hne
        exact hfail ⟨f, hc, hp, hne⟩
      exact hs.congr (.inr rfl) (poweredUp_lastGen (hseen f hc) hcheck)

/-! ### The start of a derivation (R104) -/

/-- The window is open and the latch is clear. -/
def State.derives (s : State) : Prop := s.window.isSome = true ∧ s.latched = false

/-- A derivation that passes its start checks starts under an open window. -/
theorem startCheck_derives {s : State} {job : CipherJob} {x : Material × Option SlotId} (h : s.startCheck job = .ok x)
    (hd : job.isDerivation = true) : s.derives := by
  cases job with
  | transport | prepare =>
    dsimp only [State.startCheck] at h
    split at h
    · next hopen => simpa [State.derives] using hopen
    · exact absurd h nofun
  | portCheck | storeCheck | importKey => exact absurd hd nofun

theorem Move.derives {s t : State} (h : Move s t) (hs : s.derives) : t.derives := by
  obtain ⟨hw, hl⟩ := hs
  cases h with
  | ofBay b h => exact ⟨by rw [h.frame.window]; exact hw, by simpa [State.latched, h.frame.enclosure] using hl⟩
  | port _ p q => cases p <;> exact ⟨hw, hl⟩
  | window => exact ⟨rfl, hl⟩
  | enclosure _ e h =>
    refine ⟨hw, ?_⟩
    by_contra hne
    simp [h (by simpa [State.latched] using hne)] at hl
  | begin | clock | entry | slot | progress | store | link | notice | records | batchNumber => exact ⟨hw, hl⟩

/-- A derivation that runs is the one given, or runs under an open window and a clear latch. -/
def StartsUnderWindow (job : Option CipherJob) (s : State) : Prop :=
  ∀ j, s.cipher.running.map (·.job) = some j → j.isDerivation = true → job = some j ∨ s.derives

theorem StartsUnderWindow.of_idle (job : Option CipherJob) {s : State} (h : s.cipher.running = none) : StartsUnderWindow job s :=
  fun j hj => by simp [h] at hj

theorem startsUnderWindow_turns {job : Option CipherJob} {s t : State} (h : Turns s t) (hs : StartsUnderWindow job s) :
    StartsUnderWindow job t := by
  have hfree : ∀ s : State, s.freeEngine.cipher.running = none := fun s =>
    Option.map_eq_none_iff.1 (CipherKept.examine { s.cipher with running := none }).job
  induction h with
  | refl => exact hs
  | tail _ h ih =>
    cases h with
    | move h => exact fun j hj hd => (ih j (h.cipherKept.job ▸ hj) hd).imp id h.derives
    | started h =>
      obtain ⟨_, q, m, used, _, hcheck, rfl⟩ := engineTake_started h
      intro j hj hd
      obtain rfl : q.job = j := by simpa [Cipher.run] using hj
      have := startCheck_derives hcheck hd
      exact .inr (by simpa [State.derives, State.latched] using this)
    | ended => exact .of_idle job (hfree _)
    | freed => exact .of_idle job (hfree _)

/-- Before the turns of a command the running request is the one of before, or none. -/
theorem prelude_job {c : Instr} {s t : State} (h : Prelude c s t) :
    t.cipher.running.map (·.job) = none ∨ t.cipher.running.map (·.job) = s.cipher.running.map (·.job) := by
  induction h with
  | refl => exact .inr rfl
  | tail _ h ih =>
    rcases h with h | h
    · rwa [h.cipherKept.job]
    · cases h with
      | close => rwa [(CipherKept.closeDerivations _).job]
      | tamper | restart => exact .inl rfl
      | link | started => exact ih

theorem runs_startsUnderWindow {c : Instr} {s t : State} (h : Runs c s t) :
    StartsUnderWindow (s.cipher.running.map (·.job)) t := by
  obtain ⟨u, hp, ht⟩ := h
  refine startsUnderWindow_turns ht fun j hj _ => ?_
  rcases prelude_job hp with h | h
  · simp [h] at hj
  · exact .inl (h ▸ hj)

/-- Settles O11: only the engine's choice makes a request run, and it checks the window and the latch. -/
theorem derivationsStartUnderWindow : Obligations.DerivationsStartUnderWindow := by
  unfold Obligations.DerivationsStartUnderWindow
  intro s t r h hr hd hnew
  have hrun : t.cipher.running.map (·.job) = some r.job := by simp [hr]
  unfold step at h
  split at h
  · obtain rfl := Host.Outcome.next.inj h
    exact absurd hrun hnew
  · rcases exec_runs h with h | ⟨_, rfl⟩ | ⟨f, _, _, h⟩
    · exact (runs_startsUnderWindow h r.job hrun hd).resolve_left hnew
    · simp [State.losePower, coldCipher] at hr
    · have hidle : ∀ s : State, (s.poweredUp f).cipher.running.map (·.job) = none := fun _ => rfl
      exact (runs_startsUnderWindow h r.job hrun hd).resolve_left (by simp [hidle])

end Sys2Proof.Machine

/-! The report queue and the ranges that every step keeps. -/

namespace Sys2Proof.Machine

/-! ### The report queue (R152, R153) -/

/-- The running batches after a change of one bay. -/
theorem running_setBay (s : State) (b : BayId) (x : Bay) :
    (s.setBay b x).running + (if (s.bay b).isRunning then 1 else 0) = s.running + (if x.isRunning then 1 else 0) := by
  have hpos : (s.bay b).isRunning = true → 0 < s.bays.countP Bay.isRunning := fun h =>
    Vector.countP_pos_iff.2 ⟨s.bay b, by simp [State.bay], h⟩
  have hle : (s.bay b).isRunning = true → 1 ≤ s.bays.countP Bay.isRunning := hpos
  unfold State.running State.setBay
  simp only [Vector.countP_set]
  change _ - (if (s.bay b).isRunning then 1 else 0) + _ + _ = _
  by_cases h : (s.bay b).isRunning = true
  · have := hle h
    simp only [h, if_true]; omega
  · simp only [h]; simp

theorem running_congr {s t : State} (h : t.bays = s.bays) : t.running = s.running := by simp [State.running, h]

theorem appendRecord_records (body : RecordBody) (s : State) :
    (s.appendRecord body).report.records =
      s.report.records ++ [{ number := nextNumber s.report.recordCounter, time := s.clock, body := body }] := by
  simp [State.appendRecord]

theorem appendRecord_counter (body : RecordBody) (s : State) :
    (s.appendRecord body).report.recordCounter = nextNumber s.report.recordCounter := by
  simp [State.appendRecord]

theorem room_iff (s : State) : s.room = true ↔ s.report.records.length + s.running < 64 := by
  unfold State.room Config.reportPlaces
  exact decide_eq_true_iff

theorem ReservationHolds.congr {s t : State} (hs : ReservationHolds s) (hr : t.report.records.length ≤ s.report.records.length)
    (hb : t.running ≤ s.running) : ReservationHolds t := by
  unfold ReservationHolds at hs ⊢; omega

theorem BayMove.reservation {b : BayId} {s t : State} (h : BayMove b s t) (hs : ReservationHolds s) : ReservationHolds t := by
  have happend : ∀ body, (s.appendRecord body).report.records.length = s.report.records.length + 1 := fun body => by
    simp [appendRecord_records]
  have hrunning : ∀ body, (s.appendRecord body).running = s.running := fun body => running_congr (by simp)
  have hbay : ∀ body, (s.appendRecord body).bay b = s.bay b := fun body => bay_of_bays (by simp) b
  unfold ReservationHolds at hs ⊢
  cases h with
  | bay y hr =>
    have h1 := running_setBay s b y
    change s.report.records.length + (s.setBay b y).running ≤ 64
    cases hy : y.isRunning with
    | false => simp only [hy, Bool.false_eq_true, if_false] at h1; omega
    | true => simp only [hy, hr hy, if_true] at h1; omega
  | close body y hr hn =>
    have h1 := running_setBay (s.appendRecord body) b y
    rw [hbay, hr, hn, hrunning] at h1
    simp only [if_true, Bool.false_eq_true, if_false] at h1
    change (s.appendRecord body).report.records.length + _ ≤ 64
    rw [happend]
    omega
  | append body hroom =>
    have := (room_iff s).1 hroom
    rw [happend, hrunning]
    omega
  | cipher | waits => exact hs
  | raise f => rw [running_congr (raise_bays s f)]; simpa using hs
  | answer code contents => rw [running_congr (answer_bays s code contents)]; simpa using hs

theorem reservationHolds_kept : Kept ReservationHolds where
  move s t h hs := by
    cases h with
    | ofBay b h => exact h.reservation hs
    | begin _ b y hroom =>
      have h1 := running_setBay s b y
      have h2 := (room_iff s).1 hroom
      change s.report.records.length + (s.setBay b y).running ≤ 64
      split at h1 <;> split at h1 <;> omega
    | port _ p q => cases p <;> exact hs
    | records => exact hs.congr (by simp) le_rfl
    | clock | entry | slot | progress | store | window | enclosure | link | notice | batchNumber => exact hs
  started s t h hs := by
    have hb := running_congr (started_bays h).1
    obtain ⟨_, q, m, used, _, _, rfl⟩ := engineTake_started h
    exact hs.congr (by simp) hb.le
  ended s t r reason h hs := by
    obtain ⟨_, q, _, _, _, rfl⟩ := engineTake_ended h
    exact hs
  freed s hs := hs

theorem cold_running {s : State} (h : s.bays = Vector.replicate 12 coldBay) : s.running = 0 := by
  rw [State.running, h]; decide

/-- A record appended keeps the numbers rising. -/
theorem NumbersRise.append {s : State} (body : RecordBody) (hs : NumbersRise s) : NumbersRise (s.appendRecord body) := by
  obtain ⟨hchain, hlast⟩ := hs
  refine ⟨?_, ?_⟩
  · rw [appendRecord_records, List.isChain_append]
    refine ⟨hchain, List.isChain_singleton _, fun x hx y hy => ?_⟩
    obtain rfl : _ = y := by simpa using hy
    rw [← hlast x hx]
  · rw [appendRecord_records, appendRecord_counter]
    simp

theorem NumbersRise.congr {s t : State} (hs : NumbersRise s) (hr : t.report.records = s.report.records)
    (hc : t.report.recordCounter = s.report.recordCounter) : NumbersRise t := by
  unfold NumbersRise; rwa [hr, hc]

theorem BayMove.numbers {b : BayId} {s t : State} (h : BayMove b s t) (hs : NumbersRise s) : NumbersRise t := by
  cases h with
  | bay | cipher | waits => exact hs
  | close body y => exact (hs.append body).congr rfl rfl
  | append body => exact hs.append body
  | raise f => exact hs.congr (by simp) (by simp)
  | answer code contents => exact hs.congr (by simp) (by simp)

theorem numbersRise_kept : Kept NumbersRise where
  move s t h hs := by
    cases h with
    | ofBay b h => exact h.numbers hs
    | port _ p q => cases p <;> exact hs
    | records _ n =>
      obtain ⟨hchain, hlast⟩ := hs
      refine ⟨hchain.drop n, fun x hx => hlast x ?_⟩
      have hx : x ∈ (s.report.records.drop n).getLast? := hx
      rw [List.getLast?_drop] at hx
      split at hx
      · simp at hx
      · exact hx
    | begin | clock | entry | slot | progress | store | window | enclosure | link | notice | batchNumber => exact hs
  started s t h hs := by
    obtain ⟨_, q, m, used, _, _, rfl⟩ := engineTake_started h
    exact hs.congr (by simp) (by simp)
  ended s t r reason h hs := by
    obtain ⟨_, q, _, _, _, rfl⟩ := engineTake_ended h
    exact hs
  freed s hs := hs

theorem jump_report {c : Instr} {s t : State} (h : Jump c s t) : t.report = s.report := by
  cases h with
  | tamper => exact tamperCore_report s
  | close | link | restart | started => rfl

/-- The records that a start-up goes on with: those found, or with a failed check none (R156, R183). -/
theorem poweredUp_records (f : PowerOnFinds) (s : State) :
    (s.poweredUp f).report.records = if (s.startResults f).queue then [] else (s.foundQueue f).contents := rfl

theorem poweredUp_counters (f : PowerOnFinds) (s : State) :
    (s.poweredUp f).report.counters =
      (s.foundCounters f).contents.checked (s.startResults f).counters (s.poweredUp f).report.records := rfl

/-- A start-up that misses no decay goes on with the records left, or with none (R183). -/
theorem poweredUp_records_cases {f : PowerOnFinds} {s : State} (hseen : DecaySeen f s) :
    (s.poweredUp f).report.records = [] ∨ (s.poweredUp f).report.records = s.report.records := by
  rw [poweredUp_records]
  split
  · exact .inl rfl
  · next hpass =>
    right
    have hpass : queueCheck (s.foundQueue f).contents = (s.foundQueue f).check := by
      simpa [State.startResults] using hpass
    unfold State.foundQueue foundOr at hpass ⊢
    cases hf : f.queue with
    | none => rfl
    | some x => exact hseen.2.2.1 x hf (by simpa [hf] using hpass)

/-- A start-up that misses no decay goes on with the counter left, or with that of the newest record (R156, R183). -/
theorem poweredUp_counter_cases {f : PowerOnFinds} {s : State} (hseen : DecaySeen f s) :
    (∀ x ∈ (s.poweredUp f).report.records.getLast?, x.number = (s.poweredUp f).report.recordCounter) ∨
      (s.poweredUp f).report.recordCounter = s.report.recordCounter := by
  have hc : (s.poweredUp f).report.recordCounter = (s.poweredUp f).report.counters.record := rfl
  rw [hc, poweredUp_counters]
  unfold Counters.checked
  split
  · left
    intro x hx
    rw [Option.mem_def] at hx
    simp [hx]
  · next hpass =>
    right
    have hpass : counterCheck (s.foundCounters f).contents = (s.foundCounters f).check := by
      simpa [State.startResults] using hpass
    unfold State.foundCounters foundOr at hpass ⊢
    cases hf : f.counters with
    | none => rfl
    | some x =>
      have := hseen.2.2.2 x hf (by simpa [hf] using hpass)
      simp [this, Report.counters]

theorem poweredUp_numbers {f : PowerOnFinds} {s : State} (hseen : DecaySeen f s) (hs : NumbersRise s) :
    NumbersRise (s.poweredUp f) := by
  rcases poweredUp_records_cases hseen with hr | hr
  · exact ⟨by simp [hr], by simp [hr]⟩
  · refine ⟨hr ▸ hs.1, ?_⟩
    rcases poweredUp_counter_cases hseen with hc | hc
    · exact hc
    · rw [hr, hc]; exact hs.2

/-- Settles O3: a record is appended where the room test passes, or in the place its batch reserved. -/
theorem reportQueueKept : Obligations.ReportQueueKept := by
  unfold Obligations.ReportQueueKept
  refine fun s t hseen h => ⟨fun hs => ?_, fun hs => ?_⟩
  · refine reservationHolds_kept.step (fun c s t hj hs => ?_) (fun _ _ => Iff.rfl) (fun s hs => ?_) (fun f rest hq hs => ?_) h hs
    · exact hs.congr (by rw [jump_report hj]) (running_congr (jump_bays hj).1).le
    · exact hs.congr le_rfl ((cold_running (s := s.losePower) rfl).trans_le (Nat.zero_le _))
    · have hrun : (State.poweredUp f { s with pending := rest }).running = 0 := cold_running rfl
      refine hs.congr ?_ (by rw [hrun]; exact Nat.zero_le _)
      rcases poweredUp_records_cases (s := { s with pending := rest }) (hseen f rest hq) with hr | hr
      · rw [hr]; exact Nat.zero_le _
      · rw [hr]
  · refine numbersRise_kept.step (fun c s t hj hs => ?_) (fun _ _ => Iff.rfl) (fun s hs => hs) (fun f rest hq hs => ?_) h hs
    · rw [NumbersRise, jump_report hj]; exact hs
    · exact poweredUp_numbers (s := { s with pending := rest }) (hseen f rest hq) hs

/-! ### Ranges (R83, R147, R169, R170) and checks (R98, R136, R156) -/

theorem windowInRange_kept : Kept WindowInRange where
  move s t h hs := by
    cases h with
    | ofBay b h => unfold WindowInRange; rw [h.frame.window]; exact hs
    | port _ p q => cases p <;> exact hs
    | window _ n _ hr =>
      intro m hm
      obtain rfl : n = m := by simpa using hm
      exact hr hs
    | begin | clock | entry | slot | progress | store | enclosure | link | notice | records | batchNumber => exact hs
  started s t h hs := by
    obtain ⟨_, q, m, used, _, _, rfl⟩ := engineTake_started h
    unfold WindowInRange at hs ⊢; simpa using hs
  ended s t r reason h hs := by
    obtain ⟨_, q, _, _, _, rfl⟩ := engineTake_ended h
    exact hs
  freed s hs := hs

theorem windowInRange_closed {s : State} (h : s.window = none) : WindowInRange s := fun n hn => by simp [h] at hn

theorem raise_bounded (f : Flag) {s : State} (h : s.link.bounded) : (s.raise f).link.bounded := by
  unfold State.raise; dsimp only; split <;> exact h

theorem answer_bounded (code : ResultCode) (contents : List Byte) {s : State} (h : s.link.bounded) :
    (s.answer code contents).link.bounded := by
  unfold State.answer
  split
  · exact ⟨h.1, by simpa [Link.rejects] using h.2⟩
  · exact h

theorem appendRecord_bounded (body : RecordBody) {s : State} (h : s.link.bounded) : (s.appendRecord body).link.bounded :=
  raise_bounded _ h

theorem linkBounded_kept : Kept (fun s => s.link.bounded) where
  move s t h hs := by
    cases h with
    | ofBay b h =>
      cases h with
      | bay | cipher | waits => exact hs
      | close body => exact appendRecord_bounded body hs
      | append body => exact appendRecord_bounded body hs
      | raise f => exact raise_bounded f hs
      | answer code contents => exact answer_bounded code contents hs
    | port _ p q => cases p <;> exact hs
    | link _ l hb => exact hb hs
    | begin | clock | entry | slot | progress | store | window | enclosure | notice | records | batchNumber => exact hs
  started s t h hs := by
    obtain ⟨_, q, m, used, _, _, rfl⟩ := engineTake_started h
    simpa using hs
  ended s t r reason h hs := by
    obtain ⟨_, q, _, _, _, rfl⟩ := engineTake_ended h
    exact hs
  freed s hs := hs

theorem tamperCore_bounded {s : State} (h : s.link.bounded) : s.tamperCore.link.bounded := by
  have hraise : (State.raise .tamper { s with enclosure := s.enclosure.setLatch true }).link.bounded := raise_bounded _ h
  unfold State.tamperCore State.emptyKeys
  simp only [setSlots_link]
  split
  · exact answer_bounded _ _ hraise
  · exact hraise

theorem ChecksAgree.congr {s t : State} (hs : ChecksAgree s) (hc : t.checks = s.checks) (hk : t.keys.slots = s.keys.slots)
    (hp : t.profiles = s.profiles) (hr : t.report.records = s.report.records) (hn : t.report.counters = s.report.counters) :
    ChecksAgree t := by
  unfold ChecksAgree; rwa [hc, hk, hp, hr, hn]

theorem ChecksAgree.setSlots {s : State} (hs : ChecksAgree s) (x : Vector Slot 32) : ChecksAgree (s.setSlots x) :=
  ⟨rfl, hs.2.1, hs.2.2.1, hs.2.2.2⟩

theorem ChecksAgree.append {s : State} (hs : ChecksAgree s) (body : RecordBody) : ChecksAgree (s.appendRecord body) := by
  refine ChecksAgree.congr (s := (s.setRecords _).setCounters _) ⟨hs.1, hs.2.1, rfl, rfl⟩ (raise_checks _ _) ?_ ?_ ?_ ?_ <;>
    simp [State.appendRecord, Report.counters]

theorem checksAgree_kept : Kept ChecksAgree where
  move s t h hs := by
    cases h with
    | ofBay b h =>
      cases h with
      | bay | cipher | waits => exact hs
      | close body => exact hs.append body
      | append body => exact hs.append body
      | raise f => exact hs.congr (by simp) (by simp) (by simp) (by simp) (by simp)
      | answer code contents => exact hs.congr (by simp) (by simp) (by simp) (by simp) (by simp)
    | port _ p q => cases p <;> exact hs
    | entry => exact ⟨hs.1, rfl, hs.2.2⟩
    | slot | store => exact ⟨rfl, hs.2⟩
    | records => exact ⟨hs.1, hs.2.1, rfl, hs.2.2.2⟩
    | batchNumber => exact ⟨hs.1, hs.2.1, hs.2.2.1, rfl⟩
    | begin | clock | progress | window | enclosure | link | notice => exact hs
  started s t h hs := by
    obtain ⟨_, q, m, used, _, _, rfl⟩ := engineTake_started h
    cases used with
    | none => exact hs
    | some k => exact hs.setSlots _
  ended s t r reason h hs := by
    obtain ⟨_, q, _, _, _, rfl⟩ := engineTake_ended h
    exact hs
  freed s hs := hs

theorem tamperCore_checks {s : State} (hs : ChecksAgree s) : ChecksAgree s.tamperCore := by
  have hraise : ChecksAgree (State.raise .tamper { s with enclosure := s.enclosure.setLatch true }) :=
    hs.congr (by simp) (by simp) (by simp) (by simp) (by simp)
  unfold State.tamperCore State.emptyKeys
  refine (ChecksAgree.setSlots ?_ _).congr rfl rfl rfl rfl rfl
  split
  · exact hraise.congr (by simp) (by simp) (by simp) (by simp) (by simp)
  · exact hraise

/-- Every store has its CRC-16 anew after the start-up checks (R98, R136, R156). -/
theorem poweredUp_checks (f : PowerOnFinds) (s : State) : ChecksAgree (s.poweredUp f) := ⟨rfl, rfl, rfl, rfl⟩

theorem valuesMasked_iff (s : State) : ValuesMasked s ↔ ∀ e, (s.entry e).masked := Iff.rfl

theorem ValuesMasked.congr {s t : State} (h : t.profiles = s.profiles) (hs : ValuesMasked s) : ValuesMasked t := by
  intro e p hp
  exact hs e p (by simpa [State.entry, h] using hp)

theorem valuesMasked_kept : Kept ValuesMasked where
  move s t h hs := by
    cases h with
    | entry _ e x hm =>
      intro d p hp
      rw [entry_setEntry] at hp
      split at hp
      · rcases hm with hm | hm
        · exact hm p hp
        · exact hs e p (hm ▸ hp)
      · exact hs d p hp
    | ofBay b h => exact hs.congr h.frame.profiles
    | port _ p q => cases p <;> exact hs
    | begin | clock | slot | progress | store | window | enclosure | link | notice | records | batchNumber => exact hs
  started s t h hs := hs.congr (started_bays h).2
  ended s t r reason h hs := hs.congr (ended_bays h).2
  freed s hs := hs

theorem poweredUp_masked {f : PowerOnFinds} {s : State} (hseen : DecaySeen f s) (hs : ValuesMasked s) :
    ValuesMasked (s.poweredUp f) := by
  have hp : (s.poweredUp f).profiles =
      if (s.startResults f).profiles then Vector.replicate 24 .empty else (s.foundProfiles f).contents := rfl
  by_cases hfail : (s.startResults f).profiles = true
  · intro e p h
    simp [State.entry, hp, hfail, Entry.profile] at h
  · have hpass : profileCheck (s.foundProfiles f).contents = (s.foundProfiles f).check := by
      simpa [State.startResults] using hfail
    have hfound : (s.foundProfiles f).contents = s.profiles := by
      unfold State.foundProfiles foundOr at hpass ⊢
      cases hf : f.profiles with
      | none => rfl
      | some x => exact hseen.2.1 x hf (by simpa [hf] using hpass)
    exact hs.congr (by rw [hp, if_neg hfail, hfound])

/-- Settles O5: each range is tested where its value is set, and each store is written with its CRC-16. -/
theorem rangesKept : Obligations.RangesKept := by
  unfold Obligations.RangesKept
  refine fun s t h => ⟨fun hseen hs => ?_, fun hs => ?_, fun hs => ?_, fun hs => ?_⟩
  · exact valuesMasked_kept.step (fun c s t hj hs => hs.congr (jump_bays hj).2) (fun _ _ => Iff.rfl) (fun s hs => hs)
      (fun f rest hq hs => poweredUp_masked (s := { s with pending := rest }) (hseen f rest hq) hs) h hs
  · refine windowInRange_kept.step (fun c s t hj hs => ?_) (fun _ _ => Iff.rfl) (fun s _ => windowInRange_closed rfl)
      (fun f rest _ _ => windowInRange_closed rfl) h hs
    cases hj with
    | close | tamper | restart => exact windowInRange_closed rfl
    | link | started => exact hs
  · refine linkBounded_kept.step (fun c s t hj hs => ?_) (fun _ _ => Iff.rfl) (fun s _ => coldLink_bounded)
      (fun f rest _ _ => coldLink_bounded) h hs
    cases hj with
    | link _ hb => exact hb hs
    | tamper => exact tamperCore_bounded hs
    | close | restart | started => exact hs
  · refine checksAgree_kept.step (fun c s t hj hs => ?_) (fun _ _ => Iff.rfl) (fun s hs => hs)
      (fun f rest _ _ => poweredUp_checks f _) h hs
    cases hj with
    | tamper => exact tamperCore_checks hs
    | close | link | restart | started => exact hs

end Sys2Proof.Machine

/-! The machine as a whole at reset and at a step, what a bay sends, and the rules of the lookup, the engine and the two waiting
lists. -/

namespace Sys2Proof.Machine

/-! ### Steps and the reset state -/

/-- Settles O1: a step is the meaning of the command in front. -/
theorem stepRunsFront : Obligations.StepRunsFront := by
  unfold Obligations.StepRunsFront
  refine ⟨fun _ _ _ => rfl, fun s h => ?_⟩
  unfold step
  rw [h]
  rfl

/-- The unit after a start-up with nothing arriving early: the notice with STARTED is its first frame (R163, R182). -/
def State.startedUp (f : PowerOnFinds) (s : State) : State :=
  let flags := startFlags (setAtStart f s) (s.poweredUp f)
  { s.poweredUp f with
    started := true
    notice := { flags := flags, armed := false }
    link := { coldLink with sending := some (.notice [flags.toByte, natByte (s.poweredUp f).report.records.length]) } }

theorem exec_powerOn {f : PowerOnFinds} {s : State} (hp : s.powered = false) (he : f.early = []) :
    exec (.powerOn f) s = .next (s.startedUp f) := by
  have hstart : s.startUp f = s.startedUp f := by
    unfold State.startUp
    rw [he]
    rfl
  show Host.Outcome.next (if s.powered then s else (s.startUp f).beginFrame) = _
  rw [if_neg (by simp [hp]), hstart]
  rfl

/-- What the start-up decides of the latch: set by an active input, by copies that disagree, or as it was found (R182). -/
theorem startedUp_enclosure (f : PowerOnFinds) (s : State) :
    (s.startedUp f).enclosure =
      ({ lid := f.lid, mesh := f.mesh, latchCopy := false, latchComplement := false, failed := s.startResults f } : Enclosure).setLatch
        (setAtStart f s || (f.latchFound.getD (s.enclosure.latchCopy, s.enclosure.latchComplement)).1) := by
  have hset : ∀ lid mesh a b : Bool, (lid || mesh || (a || a == b)) = (lid || mesh || a == b || a) := by decide
  unfold setAtStart
  dsimp only
  rw [← hset]
  rfl

/-- A store found good, or written afresh. -/
theorem startedUp_slot (f : PowerOnFinds) (s : State) (k : SlotId) :
    (s.startedUp f).slot k =
      if (s.startedUp f).latched then ((s.startSlots f)[k.val]).emptied else (s.startSlots f)[k.val] := poweredUp_slot f s k

theorem manufactured_results {f : PowerOnFinds} (hk : f.keyStore = none) (hp : f.profiles = none) (hq : f.queue = none)
    (hc : f.counters = none) : State.manufactured.startResults f = noneFailed := by
  simp [State.startResults, State.foundKeys, State.foundProfiles, State.foundQueue, State.foundCounters, foundOr, hk, hp, hq, hc,
    State.manufactured, noneFailed, Report.counters]

/-- Settles O2: the first power-on finds every store as manufactured. -/
theorem resetMeetsInvariants : Obligations.ResetMeetsInvariants := by
  have hbay : ∀ b, State.reset.bay b = coldBay := fun b => by simp [State.reset, State.manufactured, State.bay]
  have hentry : ∀ e, State.reset.entry e = .empty := fun e => by simp [State.reset, State.manufactured, State.entry]
  have hrunning : State.reset.running = 0 := cold_running rfl
  unfold Obligations.ResetMeetsInvariants
  refine ⟨?boot, ?reservation, ⟨List.isChain_nil, fun x hx => absurd hx nofun⟩, coldCipher_sharesOk, fun e p hp => ?masked,
    windowInRange_closed rfl, fun b => ?supply, ⟨by decide, by decide⟩, fun b => ?table, trivial, fun h => absurd h (by decide),
    fun b c hc => ?positions, ⟨rfl, rfl, rfl, rfl⟩⟩
  case boot =>
    rw [exec_powerOn rfl rfl]
    refine congrArg Host.Outcome.next ?_
    simp only [State.startedUp, State.poweredUp, State.startChecks]
    rw [show State.manufactured.losePower.startResults _ = noneFailed from manufactured_results rfl rfl rfl rfl]
    rfl
  case reservation => rw [ReservationHolds, hrunning]; decide
  case masked => simp [hentry, Entry.profile] at hp
  case supply => rw [hbay]; exact coldBay_supplyOk
  case table =>
    have := coldBay_tableOk
    rw [hbay]; exact this
  case positions => simp [hbay, coldBay] at hc

/-- Settles O42: the loss of power and the start-up write every field of the state. -/
theorem powerLossAndStartUp : Obligations.PowerLossAndStartUp := by
  unfold Obligations.PowerLossAndStartUp
  refine ⟨fun s hp => ?loss, fun s f hp he => ?_⟩
  case loss =>
    show Host.Outcome.next (if s.powered then s.losePower else s) = _
    rw [if_pos hp]
    rfl
  intro keys profiles queue counters keysFail profilesFail queueFail countersFail copies setNow latched
  have hresults : s.startResults f =
      { keyStore := keysFail, profiles := profilesFail, queue := queueFail, counters := countersFail } := by
    simp only [State.startResults, bne, keysFail, profilesFail, queueFail, countersFail, decide_not, beq_eq_decide]
    rfl
  have henclosure := startedUp_enclosure f s
  have hlatched : (s.startedUp f).latched = latched := by
    rw [State.latched, henclosure, latched_setLatch]; rfl
  rw [hresults] at henclosure
  refine ⟨s.startedUp f, exec_powerOn hp he, rfl, rfl, henclosure, poweredUp_checks f s, fun k => ?slots, rfl, ?profiles, ?records,
    ?recordCounter, ?batchCounter, rfl, rfl, rfl, rfl, rfl, rfl, rfl, rfl, rfl⟩
  case slots =>
    rw [startedUp_slot, hlatched]
    have hslots : s.startSlots f = if keysFail then Vector.replicate 32 emptySlot else keys.contents := by
      rw [State.startSlots, hresults]; rfl
    rw [hslots]
    cases keysFail <;> simp [Slot.emptied]
  case profiles =>
    show (if (s.startResults f).profiles then _ else _) = _
    rw [hresults]; rfl
  case records =>
    show (if (s.startResults f).queue then _ else _) = _
    rw [hresults]; rfl
  case recordCounter =>
    show ((s.poweredUp f).report.counters).record = _
    rw [poweredUp_counters, hresults]
    cases countersFail <;> rfl
  case batchCounter =>
    show ((s.poweredUp f).report.counters).batch = _
    rw [poweredUp_counters, hresults]
    cases countersFail <;> rfl

/-! ### Calibration (R62) -/

/-- Settles O16: below four units of the slowest responder no mark is a deferral. -/
theorem markCalibration : Obligations.MarkCalibration := by
  unfold Obligations.MarkCalibration
  intro rate m
  refine ⟨fun h4 => ⟨?_, ?_⟩, fun h4 h6 => ?_, fun h4 h6 => ?_⟩
  · rw [calibrate, if_pos (by simpa [inRange] using h4)]
  · cases rate <;> simp only [Rate.unit] at h4 ⊢ <;> omega
  · rw [calibrate, if_neg (by simpa [inRange] using h4), if_pos (by simpa [inRange] using h6)]
  · rw [calibrate, if_neg (by simpa [inRange] using h4), if_neg (by simpa [inRange] using h6)]

/-! ### The frame next sent (R7, R19, R20) -/

/-- The order of R7, in the states in which a bay sends. -/
theorem nextFrame_of_sends {s : State} {b : BayId} (h : (s.bay b).state = .rolling ∨ (s.bay b).state = .loading) :
    s.nextFrame b = (s.bay b).pollFrame.or ((s.bay b).dismissFrame.or (s.batchFrame b)) := by
  unfold State.nextFrame
  rcases h with h | h <;> rw [h] <;> cases (s.bay b).pollFrame <;> cases (s.bay b).dismissFrame <;> rfl

theorem nextFrame_of_not_sends {s : State} {b : BayId} (hr : (s.bay b).state ≠ .rolling) (hl : (s.bay b).state ≠ .loading) :
    s.nextFrame b = none := by
  unfold State.nextFrame
  split
  · exact absurd ‹_› hr
  · exact absurd ‹_› hl
  · rfl

/-- A COMMIT that a bay sends is the batch's own frame for the terminal in hand, in COMMITTING (R19). -/
theorem batchFrame_commit {s : State} {b : BayId} {f : LineFrame} (h : s.batchFrame b = some f) (hk : f.kind = .commit) :
    ∃ c ∈ (s.bay b).contexts, ∃ p, s.profileOf c = some p ∧ c.phase = .committing ∧ f = commitFrame c p := by
  unfold State.batchFrame at h
  dsimp only at h
  split at h
  · split at h
    · simp at h
    split at h
    · obtain rfl := Option.some.inj h; simp at hk
    · obtain rfl := Option.some.inj h; simp [enrolFrame] at hk
    · simp at h
  · split at h
    · obtain rfl := Option.some.inj h; simp at hk
    split at h
    · simp at h
    next c hc =>
    split at h
    · simp at h
    split at h
    · obtain ⟨r, _, rfl⟩ := Option.map_eq_some_iff.1 h; simp [keyFrame] at hk
    · next hphase =>
      obtain ⟨p, hp, rfl⟩ := Option.map_eq_some_iff.1 h
      exact ⟨c, Bay.handCtx_mem hc, p, hp, hphase, rfl⟩
    · simp at h
  · simp at h

theorem nextFrame_batch {s : State} {b : BayId} {f : LineFrame} (h : s.nextFrame b = some f) (hp : f.kind ≠ .poll)
    (hd : f.kind ≠ .dismiss) : s.batchFrame b = some f := by
  by_cases hs : (s.bay b).state = .rolling ∨ (s.bay b).state = .loading
  · rw [nextFrame_of_sends hs, Option.or_eq_some_iff, Option.or_eq_some_iff] at h
    rcases h with h | ⟨_, h | ⟨_, h⟩⟩
    · obtain ⟨c, _, rfl⟩ := Option.map_eq_some_iff.1 h; exact absurd rfl hp
    · obtain ⟨c, _, rfl⟩ := Option.map_eq_some_iff.1 h; exact absurd rfl hd
    · exact h
  · rw [not_or] at hs
    rw [nextFrame_of_not_sends hs.1 hs.2] at h
    simp at h

/-- Settles O12: only a context in COMMITTING has a COMMIT due. -/
theorem commitOnlyConfirmed : Obligations.CommitOnlyConfirmed := by
  unfold Obligations.CommitOnlyConfirmed
  intro s b f hpos hf hk
  have hbatch := nextFrame_batch hf (by simp [hk]) (by simp [hk])
  obtain ⟨c, hc, p, hp, hphase, rfl⟩ := batchFrame_commit hbatch hk
  exact ⟨c, hc, p, hp, hphase, rfl, (hpos b c hc p hp).2 hphase⟩

/-- In a table in address order the context of lowest address that satisfies a test is the first one found. -/
theorem find?_lowest {l : List Context} (h : l.Pairwise (fun c d => c.addr < d.addr)) {p : Context → Bool} {c : Context} (hc : c ∈ l)
    (hp : p c = true) (hmin : ∀ d ∈ l, p d = true → c.addr ≤ d.addr) : l.find? p = some c := by
  induction l with
  | nil => simp at hc
  | cons x l ih =>
    obtain ⟨hx, hl⟩ := List.pairwise_cons.1 h
    rw [List.find?_cons]
    rcases List.mem_cons.1 hc with rfl | hcl
    · simp [hp]
    · have hlt := hx c hcl
      have hpx : p x = false := by
        by_contra hpx
        exact absurd hlt (not_lt.2 (hmin x (by simp) (by simpa using hpx)))
      simp only [hpx]
      exact ih hl hcl fun d hd => hmin d (by simp [hd])

theorem Bay.tableOk.pairwise {x : Bay} (h : x.tableOk) : x.contexts.Pairwise (fun c d => c.addr < d.addr) := by
  have hlt : (x.contexts.map (fun c => c.addr.val)).Pairwise (· < ·) := by rw [h.2.1]; exact List.pairwise_lt_range
  exact (List.pairwise_map.1 hlt).imp id

/-- Settles O13: the first context found is the one of lowest address. -/
theorem framesInOrder : Obligations.FramesInOrder := by
  unfold Obligations.FramesInOrder
  intro s b htab x polled owed
  have hpw := Bay.tableOk.pairwise (htab b)
  have hpolled : ∀ c, polled c ↔ (c.pollDue && c.phase != .done) = true := fun c => by simp [polled]
  have howed : ∀ c, owed c ↔ (c.phase == .reportWait && c.recordAppended) = true := fun c => by simp [owed]
  have hnoPoll : (∀ d ∈ x.contexts, ¬ polled d) → x.pollFrame = none := fun h => by
    rw [Bay.pollFrame, Option.map_eq_none_iff, List.find?_eq_none]
    exact fun d hd => (not_congr (hpolled d)).1 (h d hd)
  refine ⟨nextFrame_of_not_sends, fun hs => ?_⟩
  rw [nextFrame_of_sends hs]
  refine ⟨fun c hc hp hmin => ?_, fun hno c hc ho hmin => ?_, fun hno => ?_⟩
  · have : x.pollFrame = some (bareFrame .poll c.addr) := by
      rw [Bay.pollFrame, find?_lowest hpw hc ((hpolled c).1 hp) fun d hd h => hmin d hd ((hpolled d).2 h)]; rfl
    simp only [x] at this
    rw [this]; rfl
  · have hdismiss : x.dismissFrame = some (bareFrame .dismiss c.addr) := by
      rw [Bay.dismissFrame, find?_lowest hpw hc ((howed c).1 ho) fun d hd h => hmin d hd ((howed d).2 h)]; rfl
    have hpoll := hnoPoll hno
    simp only [x] at hpoll hdismiss
    rw [hpoll, hdismiss]; rfl
  · have hpoll := hnoPoll fun d hd => (hno d hd).1
    have hdismiss : x.dismissFrame = none := by
      rw [Bay.dismissFrame, Option.map_eq_none_iff, List.find?_eq_none]
      exact fun d hd => (not_congr (howed d)).1 (hno d hd).2
    simp only [x] at hpoll hdismiss
    rw [hpoll, hdismiss]; rfl

/-! ### The lookup (R87) -/

/-- The best candidate of some entries: none of them, or the first of the greatest priority. -/
def IsBest (s : State) (serial : Serial) (l : List EntryId) : Option (EntryId × Nat) → Prop
  | none => ∀ e ∈ l, (s.entry e).candidate serial = none
  | some (e, n) => e ∈ l ∧ (s.entry e).candidate serial = some n ∧
      ∀ e' ∈ l, ∀ n', (s.entry e').candidate serial = some n' → n' < n ∨ (n' = n ∧ e ≤ e')

/-- One entry more, above the others, against the best of them (R87, step 3). -/
theorem isBest_betterCandidate {s : State} {serial : Serial} {l : List EntryId} {x : EntryId} {best : Option (EntryId × Nat)}
    (hlt : ∀ a ∈ l, a < x) (h : IsBest s serial l best) : IsBest s serial (l ++ [x]) (betterCandidate s serial best x) := by
  have hmem : ∀ e, e ∈ l ++ [x] ↔ e ∈ l ∨ e = x := fun e => by simp
  unfold betterCandidate
  cases hx : (s.entry x).candidate serial with
  | none =>
    cases best with
    | none => exact fun e he => ((hmem e).1 he).elim (h e) fun he => he ▸ hx
    | some y =>
      obtain ⟨he, hc, hmax⟩ := h
      refine ⟨(hmem _).2 (.inl he), hc, fun e' he' n' hn' => ((hmem e').1 he').elim (hmax e' · n' hn') ?_⟩
      rintro rfl
      simp [hx] at hn'
  | some n =>
    cases best with
    | none =>
      refine ⟨(hmem x).2 (.inr rfl), hx, fun e' he' n' hn' => ?_⟩
      rcases (hmem e').1 he' with he' | rfl
      · simp [h e' he'] at hn'
      · exact .inr ⟨Option.some.inj (hn'.symm.trans hx), le_rfl⟩
    | some y =>
      obtain ⟨he, hc, hmax⟩ := h
      dsimp only
      split
      · next hgreater =>
        refine ⟨(hmem x).2 (.inr rfl), hx, fun e' he' n' hn' => ?_⟩
        rcases (hmem e').1 he' with he' | rfl
        · rcases hmax e' he' n' hn' with h | ⟨h, _⟩ <;> exact .inl (by omega)
        · exact .inr ⟨Option.some.inj (hn'.symm.trans hx), le_rfl⟩
      · next hgreater =>
        refine ⟨(hmem _).2 (.inl he), hc, fun e' he' n' hn' => ?_⟩
        rcases (hmem e').1 he' with he' | rfl
        · exact hmax e' he' n' hn'
        · obtain rfl := Option.some.inj (hn'.symm.trans hx)
          rcases Nat.lt_or_ge n' y.2 with h | h
          · exact .inl h
          · exact .inr ⟨by omega, (hlt _ he).le⟩

theorem isBest_foldl (s : State) (serial : Serial) (l : List EntryId) (hl : l.Pairwise (· < ·)) :
    IsBest s serial l (l.foldl (betterCandidate s serial) none) := by
  induction l using List.reverseRecOn with
  | nil => exact fun e he => absurd he List.not_mem_nil
  | append_singleton l x ih =>
    obtain ⟨hl, _, hlt⟩ := List.pairwise_append.1 hl
    rw [List.foldl_append]
    exact isBest_betterCandidate (fun a ha => hlt a ha x (by simp)) (ih hl)

/-- Settles O20: the table is read in the order of its entry numbers. -/
theorem lookupIsBestCandidate : Obligations.LookupIsBestCandidate := by
  unfold Obligations.LookupIsBestCandidate
  intro s serial
  have hbest := isBest_foldl s serial (List.finRange 24) (List.pairwise_lt_finRange 24)
  have hlookup : s.lookup serial = ((List.finRange 24).foldl (betterCandidate s serial) none).map (·.1) := rfl
  generalize (List.finRange 24).foldl (betterCandidate s serial) none = best at hbest hlookup
  rw [hlookup]
  cases best with
  | none =>
    refine ⟨⟨fun _ e => hbest e (List.mem_finRange e), fun _ => rfl⟩, fun e => ⟨fun h => by simp at h, ?_⟩⟩
    rintro ⟨n, hn, _⟩
    simp [hbest e (List.mem_finRange e)] at hn
  | some y =>
    obtain ⟨_, hc, hmax⟩ := hbest
    refine ⟨⟨fun h => by simp at h, fun h => by simp [h y.1] at hc⟩, fun e => ⟨?_, ?_⟩⟩
    · rintro ⟨rfl⟩
      exact ⟨y.2, hc, fun e' n' => hmax e' (List.mem_finRange e') n'⟩
    · rintro ⟨n, hn, hmax'⟩
      have h1 := hmax e (List.mem_finRange e) n hn
      have h2 := hmax' y.1 y.2 hc
      have : y.1 = e := by
        rcases h1 with h1 | ⟨h1, hle⟩ <;> rcases h2 with h2 | ⟨h2, hle'⟩
        · omega
        · omega
        · omega
        · exact le_antisymm hle hle'
      simp [this]

/-! ### The terminal's side of a KEY (R48) -/

theorem beNat_beBytes (k n : Nat) : beNat (beBytes k n) = n % 256 ^ k := by
  induction k generalizing n with
  | zero => simp [beBytes, beNat, Nat.mod_one]
  | succ k ih =>
    rw [beBytes_succ_eq_append, beNat_append_singleton, ih, pow_succ', Nat.mod_mul, BitVec.toNat_ofNat]
    omega

/-- A word is read from its own bytes. -/
theorem beWord_wordBytes {w k : Nat} (hw : w ≤ 8 * k) (x : BitVec w) : beWord w (wordBytes k x) = x := by
  have hlt : x.toNat < 256 ^ k :=
    x.isLt.trans_le (by rw [show 256 = 2 ^ 8 from rfl, ← pow_mul]; exact Nat.pow_le_pow_right (by decide) hw)
  rw [beWord, wordBytes, beNat_beBytes, Nat.mod_eq_of_lt hlt, BitVec.ofNat_toNat, BitVec.setWidth_eq]

/-- The answer with the tag sent and the check value expected confirms the position (R18). -/
theorem judgeKey_confirmed (r : Prepared) : judgeKey r (.clean ([r.tag] ++ wordBytes 3 r.check ++ [0x02#8])) = .confirmed := by
  have hcheck : beWord 24 (wordBytes 3 r.check) = r.check := beWord_wordBytes (by decide) r.check
  obtain ⟨c2, c1, c0, hbytes⟩ : ∃ c2 c1 c0, wordBytes 3 r.check = [c2, c1, c0] := ⟨_, _, _, rfl⟩
  rw [hbytes] at hcheck ⊢
  simp [judgeKey, hcheck, show TermStatus.ofCode 0x02#8 = some .ok from rfl]

/-- Settles O22: the terminal deciphers what the cipher unit enciphered under the same working transport key. -/
theorem terminalConfirmsPreparedKey : Obligations.TerminalConfirmsPreparedKey := by
  unfold Obligations.TerminalConfirmsPreparedKey
  rintro base _ serial tag gen parity t rfl hkeeps hcurrent hparity r
  have hodd : t.demandsOdd = true →
      ∀ i < 16, oneBits ((wordBytes 16 (adjustParity parity (derivedKey base serial tag gen))).getD i 0) % 2 = 1 := fun hd i hi => by
    rw [hparity hd, getD_wordBytes_adjustParity_odd _ hi]
    exact oneBits_oddByte _
  have htake := Terminal.takeKey_of_accepted hkeeps hcurrent hodd
  rw [show r.wrapped = Config.encipher t.working (adjustParity parity (derivedKey base serial tag gen)) from rfl, htake]
  exact ⟨judgeKey_confirmed r, heldUnder_holdKey _ _⟩

/-! ### The engine (R103, R104) -/

/-- The engine's choice, as the queue stands (R103). -/
theorem choice_eq_some_iff (c : Cipher) (r : CipherRequest) :
    c.choice = some r ↔ ∃ before after, c.queue = before ++ r :: after ∧
      ((r.urgent = true ∧ ∀ x ∈ before, x.urgent = false) ∨ (before = [] ∧ ∀ x ∈ c.queue, x.urgent = false)) := by
  unfold Cipher.choice
  cases hfind : c.queue.find? (fun r => r.urgent) with
  | some q =>
    obtain ⟨hq, before, after, hlist, hbefore⟩ := List.find?_eq_some_iff_append.1 hfind
    constructor
    · rintro ⟨rfl⟩
      exact ⟨before, after, hlist, .inl ⟨hq, fun x hx => by simpa using hbefore x hx⟩⟩
    · rintro ⟨before', after', hlist', ⟨hr, hnone⟩ | ⟨_, hnone⟩⟩
      · have : c.queue.find? (fun r => r.urgent) = some r :=
          List.find?_eq_some_iff_append.2 ⟨hr, before', after', hlist', fun x hx => by simpa using hnone x hx⟩
        exact Option.some.inj (hfind.symm.trans this) ▸ rfl
      · have := hnone q (hlist ▸ by simp)
        simp [hq] at this
  | none =>
    have hnone : ∀ x ∈ c.queue, x.urgent = false := fun x hx => by simpa using List.find?_eq_none.1 hfind x hx
    dsimp only
    constructor
    · intro h
      obtain ⟨after, hlist⟩ := List.head?_eq_some_iff.1 h
      exact ⟨[], after, hlist, .inr ⟨rfl, hnone⟩⟩
    · rintro ⟨before, after, hlist, ⟨hr, _⟩ | ⟨rfl, _⟩⟩
      · simp [hnone r (hlist ▸ by simp)] at hr
      · simp [hlist]

theorem choice_eq_none_iff (c : Cipher) : c.choice = none ↔ c.queue = [] := by
  constructor
  · intro h
    unfold Cipher.choice at h
    split at h
    · simp at h
    · simpa using h
  · intro h
    simp [Cipher.choice, h]

/-- What an engine that is free does with its choice, once the start checks have spoken (R104). -/
theorem engineTake_of_ok {s : State} {r : CipherRequest} {m : Material} {used : Option SlotId} (hrun : s.cipher.running = none)
    (hchoice : s.cipher.choice = some r) (hcheck : s.startCheck r.job = .ok (m, used)) :
    s.engineTake = .started { s.countUse used with
      cipher := s.cipher.run r { job := r.job, urgent := r.urgent, withdrawn := false, material := m } } := by
  unfold State.engineTake
  rw [hrun, hchoice]
  dsimp only
  rw [hcheck]

theorem engineTake_of_error {s : State} {r : CipherRequest} {reason : FailReason} (hrun : s.cipher.running = none)
    (hchoice : s.cipher.choice = some r) (hcheck : s.startCheck r.job = .error reason) :
    s.engineTake = .ended { job := r.job, urgent := r.urgent, withdrawn := false, material := .none } reason
      { s with cipher := s.cipher.run r { job := r.job, urgent := r.urgent, withdrawn := false, material := .none } } := by
  unfold State.engineTake
  rw [hrun, hchoice]
  dsimp only
  rw [hcheck]

theorem engineTake_nothing_iff (s : State) : s.engineTake = .nothing ↔ s.cipher.running.isSome = true ∨ s.cipher.queue = [] := by
  cases hrun : s.cipher.running with
  | some x => simp [State.engineTake, hrun]
  | none =>
    rw [← choice_eq_none_iff]
    cases hchoice : s.cipher.choice with
    | none => simp [State.engineTake, hrun, hchoice]
    | some r =>
      cases hcheck : s.startCheck r.job with
      | ok x => simp [engineTake_of_ok hrun hchoice hcheck]
      | error reason => simp [engineTake_of_error hrun hchoice hcheck]

theorem available_of_active {x : Slot} {info : KeyInfo} {key : Key} (h : x.content = .active info key) (kind : KeyKind) :
    x.available kind = if info.kind = kind then some (key, info.gen) else none := by
  simp [Slot.available, h]

/-- A slot that is not ACTIVE of the kind required is not available (R104). -/
theorem available_none {x : Slot} {kind : KeyKind} (h : ∀ info key, x.content = .active info key → info.kind ≠ kind) :
    x.available kind = none := by
  unfold Slot.available
  split
  · next info key hc => exact if_neg (h info key hc)
  · rfl

/-- The window and the latch come first in the start checks of a TRANSPORT or PREPARE (R104). -/
theorem startCheck_closed {s : State} {job : CipherJob} (hd : job.isDerivation = true) (h : s.window = none ∨ s.latched = true) :
    s.startCheck job = .error .windowClosed := by
  have hshut : (s.window.isSome && !s.latched) = false := by rcases h with h | h <;> simp [h]
  cases job with
  | transport | prepare => simp only [State.startCheck, hshut, Bool.false_eq_true, if_false]
  | portCheck | storeCheck | importKey => exact absurd hd nofun

/-- Settles O23: the choice is the first URGENT request or the head, and the start checks are read in order. -/
theorem engineTakes : Obligations.EngineTakes := by
  unfold Obligations.EngineTakes
  refine ⟨fun s r => ⟨choice_eq_some_iff s.cipher r, engineTake_nothing_iff s⟩, fun s r hrun hchoice => ?_⟩
  intro begin stop
  have hok : ∀ m used, s.startCheck r.job = .ok (m, used) → s.engineTake = begin m (s.countUse used) := fun m used h => by
    rw [engineTake_of_ok hrun hchoice h]
    cases used <;> rfl
  have hstop : ∀ reason, s.startCheck r.job = .error reason → s.engineTake = stop reason := fun reason h =>
    engineTake_of_error hrun hchoice h
  have hclosed : r.job.isDerivation = true → s.window = none ∨ s.latched = true → s.engineTake = stop .windowClosed :=
    fun hd h => hstop _ (startCheck_closed hd h)
  have hopen : s.window ≠ none → s.latched = false → (s.window.isSome && !s.latched) = true := fun hw hl => by
    simp [hl, Option.isSome_iff_ne_none, hw]
  cases hjob : r.job with
  | transport b a serial k =>
    rw [hjob] at hok hstop hclosed
    refine ⟨hclosed rfl, fun hw hl => ⟨fun info key hc hk => hok (.slot key info.gen) (some k) ?_, fun hno => hstop _ ?_⟩⟩
    · simp only [State.startCheck, hopen hw hl, if_true, available_of_active hc, hk]
    · simp only [State.startCheck, hopen hw hl, if_true, available_none hno]
  | prepare b a pos serial tag k parity =>
    rw [hjob] at hok hstop hclosed
    refine ⟨hclosed rfl, fun hw hl => ⟨fun info key working hc hk hh => hok (.slotAndTransport key info.gen working) (some k) ?_,
      fun hno => hstop _ ?_⟩⟩
    · simp only [State.startCheck, hopen hw hl, if_true, available_of_active hc, hk, hh]
    · simp only [State.startCheck, hopen hw hl, if_true, available_none hno]
  | portCheck p key => exact hok .none none (by rw [hjob]; rfl)
  | storeCheck key => exact hok .none none (by rw [hjob]; rfl)
  | importKey k wrapped =>
    rw [hjob] at hok
    intro info key hc hk
    exact hok (.slot key info.gen) none (by simp only [State.startCheck, available_of_active hc, hk, if_true])

/-! ### The waiting list of the cipher unit (R101) -/

/-- A test that fails goes on failing while the queue grows and the engine is left alone. -/
theorem admits_false_of_grown {c d : Cipher} {j : CipherJob} (hrun : d.running = c.running) {more : List CipherRequest}
    (hq : d.queue = c.queue ++ more) (h : c.admits j = false) : d.admits j = false := by
  have hheld : c.held ≤ d.held := by simp [Cipher.held, hrun, hq]
  have hby : ∀ b, c.heldBy b ≤ d.heldBy b := fun b => by simp [Cipher.heldBy, hrun, hq]
  by_contra hadm
  have hadm : d.admits j = true := by simpa using hadm
  unfold Cipher.admits at h hadm
  cases hj : j.bay with
  | none =>
    simp only [hj, Bool.and_true, decide_eq_true_eq, decide_eq_false_iff_not] at h hadm
    omega
  | some b =>
    have := hby b
    simp only [hj, Bool.and_eq_true, decide_eq_true_eq, Bool.and_eq_false_iff, decide_eq_false_iff_not] at h hadm
    omega

/-- The waiting list examined from a request onward: those that join, those that stay, and why (R101). -/
theorem examineFrom_spec (l : List CipherRequest) (c : Cipher) :
    ∃ joined left, (Cipher.examineFrom l c).queue = c.queue ++ joined ∧ (Cipher.examineFrom l c).waiting = c.waiting ++ left ∧
      (Cipher.examineFrom l c).running = c.running ∧ joined.Sublist l ∧ left.Sublist l ∧ (joined ++ left).Perm l ∧
      ∀ r ∈ left, (Cipher.examineFrom l c).admits r.job = false := by
  induction l generalizing c with
  | nil => exact ⟨[], [], by simp [Cipher.examineFrom], by simp [Cipher.examineFrom], rfl, .refl _, .refl _, .refl _, by simp⟩
  | cons r l ih =>
    by_cases hadm : c.admits r.job = true
    · rw [show Cipher.examineFrom (r :: l) c = Cipher.examineFrom l { c with queue := c.queue ++ [r] } by
        simp [Cipher.examineFrom, hadm]]
      obtain ⟨joined, left, hq, hw, hrun, hj, hl, hperm, hfail⟩ := ih { c with queue := c.queue ++ [r] }
      exact ⟨r :: joined, left, by simp [hq], hw, hrun, hj.cons_cons r, hl.cons r, hperm.cons r, hfail⟩
    · rw [show Cipher.examineFrom (r :: l) c = Cipher.examineFrom l { c with waiting := c.waiting ++ [r] } by
        simp [Cipher.examineFrom, hadm]]
      obtain ⟨joined, left, hq, hw, hrun, hj, hl, hperm, hfail⟩ := ih { c with waiting := c.waiting ++ [r] }
      refine ⟨joined, r :: left, hq, by simp [hw], hrun, hj.cons r, hl.cons_cons r,
        List.perm_middle.trans (hperm.cons r), fun x hx => ?_⟩
      rcases List.mem_cons.1 hx with rfl | hx
      · exact admits_false_of_grown hrun hq (Bool.eq_false_iff.2 hadm)
      · exact hfail x hx

/-- Settles O24: the list is gone through once, oldest first. -/
theorem waitingListExamined : Obligations.WaitingListExamined := by
  unfold Obligations.WaitingListExamined
  intro c
  obtain ⟨joined, left, hq, hw, _, hj, hl, hperm, hfail⟩ := examineFrom_spec c.waiting { c with waiting := [] }
  have hwaiting : c.examine.waiting = left := hw.trans (List.nil_append left)
  rw [hwaiting]
  exact ⟨⟨joined, hq, hj, hperm⟩, hl, hfail⟩

/-! ### The waiting appends (R154) -/

theorem markAppended_running (b : BayId) (a : Addr) (s : State) : (s.markAppended b a).running = s.running := by
  have h := running_setBay s b ((s.bay b).updCtx a (fun c => { c with recordAppended := true }))
  rw [updCtx_isRunning] at h
  exact Nat.add_right_cancel h

/-- The waiting appends admitted: as many from the head as there is room for (R154). -/
theorem admitWaiting_spec (l : List WaitingAppend) (s : State) (h : s.report.waiting = l) :
    let n := min l.length (64 - (s.report.records.length + s.running))
    (s.admitWaiting l).report.records.map (·.body) =
        s.report.records.map (·.body) ++ (l.take n).map (fun w => RecordBody.terminal w.record) ∧
      (s.admitWaiting l).report.waiting = l.drop n := by
  induction l generalizing s with
  | nil => simp [State.admitWaiting, h]
  | cons w rest ih =>
    unfold State.admitWaiting
    split
    · next hroom =>
      have hroom := (room_iff s).1 hroom
      generalize hu : (State.appendRecord (.terminal w.record) { s with report := { s.report with waiting := rest } }).markAppended
        w.bay w.addr = u
      have hrecords : u.report.records = s.report.records ++
          [{ number := nextNumber s.report.recordCounter, time := s.clock, body := .terminal w.record }] := by
        rw [← hu]; simp [appendRecord_records]
      have hwaiting : u.report.waiting = rest := by rw [← hu]; simp [State.appendRecord]
      have hrunning : u.running = s.running := by
        rw [← hu, markAppended_running]; exact running_congr (by simp)
      have hn : min (w :: rest).length (64 - (s.report.records.length + s.running)) =
          min rest.length (64 - (u.report.records.length + u.running)) + 1 := by
        rw [hrecords, hrunning]; simp only [List.length_cons, List.length_append, List.length_nil]; omega
      obtain ⟨h1, h2⟩ := ih u hwaiting
      dsimp only
      rw [hn, h1, h2, hrecords]
      simp
    · next hroom =>
      have hfull : 64 - (s.report.records.length + s.running) = 0 := by
        have := mt (room_iff s).2 hroom; omega
      simp [hfull, h]

/-- Settles O25: each admission takes one place, and the first that finds none ends them. -/
theorem waitingAppendsAdmitted : Obligations.WaitingAppendsAdmitted := by
  unfold Obligations.WaitingAppendsAdmitted
  exact fun s => admitWaiting_spec s.report.waiting s rfl

end Sys2Proof.Machine

/-! What the receiver makes of an answer (R37, R60 to R63), and the contention of roll-call answers (R41). -/

namespace Sys2Proof.Machine

/-! ### Periods that no glitch breaks (R57) -/

/-- A passive period whose successor is no glitch ends with it. -/
theorem passiveRun_of_le {g a : Nat} (d : Nat) (rest : List Nat) (h : g ≤ a) : passiveRun g d (a :: rest) = (some d, a :: rest) := by
  have hnot : ¬ a < g := Nat.not_lt.2 h
  cases rest <;> simp [passiveRun, hnot]

/-- An active period whose successor is no glitch ends with it. -/
theorem activeRun_of_le {g : Nat} (d : Nat) {rest : List Nat} (h : ∀ p ∈ rest.head?, g ≤ p) : activeRun g d rest = (d, rest) := by
  match rest with
  | [] => rfl
  | [p] => rfl
  | p :: a :: rest =>
    have hnot : ¬ p < g := Nat.not_lt.2 (h p rfl)
    simp [activeRun, hnot]

theorem dataEndStart_of_le {g p : Nat} (rest : List Nat) (h : g ≤ p) : dataEndStart g (p :: rest) = p :: rest := by
  have hnot : ¬ p < g := Nat.not_lt.2 h
  cases rest <;> simp [dataEndStart, hnot]

/-! ### The bits of an answer (R54, R58) -/

theorem bitUnits_bounds (active b : Bool) (u : Nat) : 2 * u ≤ bitUnits active b * u ∧ bitUnits active b * u ≤ 4 * u := by
  unfold bitUnits; split <;> omega

theorem bitPeriods_head {u : Nat} (active : Bool) (bits : List Bool) : ∀ p ∈ (bitPeriods u active bits).head?, 2 * u ≤ p := by
  cases bits with
  | nil => simp [bitPeriods]
  | cons b bits =>
    intro p hp
    obtain rfl : bitUnits active b * u = p := by simpa [bitPeriods] using hp
    exact (bitUnits_bounds active b u).1

theorem bitPeriods_sum_le (u : Nat) (active : Bool) (bits : List Bool) : (bitPeriods u active bits).sum ≤ 4 * u * bits.length := by
  induction bits generalizing active with
  | nil => simp [bitPeriods]
  | cons b bits ih =>
    have h1 := (bitUnits_bounds active b u).2
    have h2 := ih (!active)
    simp only [bitPeriods, List.sum_cons, List.length_cons, Nat.mul_add]
    omega

theorem bitPeriods_length (u : Nat) (active : Bool) (bits : List Bool) : (bitPeriods u active bits).length = bits.length := by
  induction bits generalizing active with
  | nil => rfl
  | cons b bits ih => simp [bitPeriods, ih]

/-- The receiver gathers an even number of bits as they were sent (R60, R63). -/
theorem assembleAnswer_bitPeriods {u : Nat} (hu : 0 < u) (len : Nat) (pairs : Nat) (bits : List Bool) (hbits : bits.length = 2 * pairs)
    (fuel : Nat) (hfuel : pairs < fuel) (spent : Nat) (got : List Bool) :
    assembleAnswer u len fuel spent got (bitPeriods u false bits) =
      judgeBits len (spent + (bitPeriods u false bits).sum + 10 * u) (got ++ bits) := by
  induction pairs generalizing bits fuel spent got with
  | zero =>
    obtain rfl : bits = [] := List.length_eq_zero_iff.1 (by simpa using hbits)
    obtain ⟨n, rfl⟩ := Nat.exists_eq_succ_of_ne_zero (Nat.ne_of_gt hfuel)
    simp [bitPeriods, assembleAnswer]
  | succ pairs ih =>
    obtain ⟨b, b', rest, rfl⟩ : ∃ b b' rest, bits = b :: b' :: rest := by
      match bits, hbits with
      | b :: b' :: rest, _ => exact ⟨b, b', rest, rfl⟩
      | [_], h => simp at h; omega
    obtain ⟨n, rfl⟩ := Nat.exists_eq_succ_of_ne_zero (Nat.ne_of_gt (Nat.lt_of_le_of_lt (Nat.zero_le _) hfuel))
    have hp := bitUnits_bounds false b u
    have ha := bitUnits_bounds true b' u
    have hpassive := passiveRun_of_le (bitUnits false b * u) (bitPeriods u false rest)
      (show u / 2 ≤ bitUnits true b' * u by omega)
    have hactive := activeRun_of_le (g := u / 2) (bitUnits true b' * u) (rest := bitPeriods u false rest)
      fun p hp => by have := bitPeriods_head false rest p hp; omega
    have hshort : ¬ 10 * u ≤ bitUnits false b * u := by omega
    have hheld : ¬ 16 * u ≤ bitUnits true b' * u := by omega
    have hperiods : bitPeriods u false (b :: b' :: rest) =
        (bitUnits false b * u) :: (bitUnits true b' * u) :: bitPeriods u false rest := rfl
    have hstep : assembleAnswer u len (n + 1) spent got (bitPeriods u false (b :: b' :: rest)) =
        assembleAnswer u len n (spent + bitUnits false b * u + bitUnits true b' * u) (got ++ [b, b']) (bitPeriods u false rest) := by
      rw [hperiods, assembleAnswer, hpassive]
      simp only [hactive, if_neg hshort, classBit_bitUnits _ _ hu, if_neg hheld]
    rw [hstep, ih rest (by simp at hbits; omega) n (by omega), hperiods]
    simp only [List.sum_cons, List.append_assoc, List.cons_append, List.nil_append]
    congr 1
    omega

/-! ### The mark (R61, R62) -/

/-- The units in the calibration range of a rate, in numbers. -/
theorem inRange_bounds {rate : Rate} {u : Nat} (h : inRange rate u = true) :
    (rate.unit = 40 ∧ 35 ≤ u ∧ u ≤ 45) ∨ (rate.unit = 10 ∧ 9 ≤ u ∧ u ≤ 11) := by
  simp only [inRange, decide_eq_true_eq] at h
  cases rate with
  | standard => exact .inl ⟨rfl, by simp only [Rate.unit] at h; omega⟩
  | fast => exact .inr ⟨rfl, by simp only [Rate.unit] at h; omega⟩

theorem calibrate_answer {rate : Rate} {u : Nat} (h : inRange rate u = true) : calibrate rate (4 * u) = .answer u := by
  have : (4 * u + 2) / 4 = u := by omega
  simp [calibrate, this, h]

theorem calibrate_deferral {rate : Rate} {u : Nat} (h : inRange rate u = true) : calibrate rate (6 * u) = .deferral u := by
  have h6 : (6 * u + 3) / 6 = u := by omega
  have h4 : inRange rate ((6 * u + 2) / 4) = false := by
    have := inRange_bounds h
    simp only [inRange, decide_eq_false_iff_not]
    omega
  simp [calibrate, h4, h6, h]

/-- What follows a mark of a length that no glitch breaks, after a data end of 8U (R36, R61). -/
theorem judgeAnswer_mark {rate : Rate} {len m : Nat} {rest : List Nat} (hm : rate.unit / 2 ≤ m) (hheld : m < 16 * rate.unit)
    (hrest : ∀ p ∈ rest.head?, rate.unit / 2 ≤ p) :
    (∀ u, calibrate rate m = .answer u →
      judgeAnswer rate len (8 * rate.unit :: m :: rest) = assembleAnswer u len (rest.length + 1) m [] rest) ∧
    ∀ u, calibrate rate m = .deferral u → judgeAnswer rate len (8 * rate.unit :: m :: rest) = judgeDeferral u m rest := by
  have hunit : 0 < rate.unit := by cases rate <;> decide
  have h6 : ¬ 8 * rate.unit < 6 * rate.unit := by omega
  have h10 : ¬ 10 * rate.unit ≤ 8 * rate.unit := by omega
  unfold judgeAnswer
  rw [dataEndStart_of_le _ (by omega)]
  dsimp only
  rw [passiveRun_of_le _ _ hm]
  constructor <;>
  · intro u hcal
    simp only [if_neg h6, if_neg h10, activeRun_of_le m hrest, if_neg (Nat.not_le.2 hheld), hcal]

/-- An answer of whole bytes and the integrity byte, or another last byte, at a unit in the range, is judged by that byte. -/
theorem judgeAnswer_bytes {rate : Rate} {u : Nat} {bytes : List Byte} (last : Byte) (hu : inRange rate u = true)
    (hlen : bytes.length ≤ 25) :
    judgeAnswer rate bytes.length ([8 * rate.unit, 4 * u] ++ bitPeriods u false (bytesBits (bytes ++ [last]))) =
      if last = crc8 bytes then .clean bytes else .garbled := by
  have hb := inRange_bounds hu
  have hbits : (bytesBits (bytes ++ [last])).length = 2 * (4 * (bytes.length + 1)) := by simp; omega
  have hsum := bitPeriods_sum_le u false (bytesBits (bytes ++ [last]))
  have hend : 4 * u + (bitPeriods u false (bytesBits (bytes ++ [last]))).sum + 10 * u ≤ Config.answerLimit := by
    rw [hbits] at hsum
    have hsum' : 4 * u * (2 * (4 * (bytes.length + 1))) ≤ 4 * 45 * (2 * (4 * 26)) := Nat.mul_le_mul (by omega) (by omega)
    have hlimit : Config.answerLimit = 50000 := by decide
    omega
  rw [show [8 * rate.unit, 4 * u] ++ bitPeriods u false (bytesBits (bytes ++ [last])) =
    8 * rate.unit :: 4 * u :: bitPeriods u false (bytesBits (bytes ++ [last])) from rfl]
  rw [(judgeAnswer_mark (by omega) (by omega) fun p hp => by have := bitPeriods_head false _ p hp; omega).1 u (calibrate_answer hu),
    assembleAnswer_bitPeriods (by omega) _ _ _ hbits _ (by rw [bitPeriods_length, hbits]; omega), List.nil_append,
    judgeBits_bytesBits (by simp) hend]
  simp only [crc8_append_singleton_eq_zero_iff]
  simp

/-- Settles O17: no period of an answer in the calibration range is a glitch or of another class than its symbol's. -/
theorem answersJudged : Obligations.AnswersJudged := by
  unfold Obligations.AnswersJudged
  refine ⟨fun rate u bytes hu hlen => ?_, fun rate len => rfl, fun rate len u hu => ?_, fun rate u bytes last hu hlen hlast => ?_⟩
  · rw [answerPeriods, judgeAnswer_bytes _ hu hlen, if_pos rfl]
  · have := inRange_bounds hu
    exact (judgeAnswer_mark (by omega) (by omega) (by simp)).2 u (calibrate_deferral hu)
  · rw [judgeAnswer_bytes _ hu hlen, if_neg hlast]

/-! ### Contention (R41) -/

/-- The number that bits stand for, most significant first. -/
def bitsValue : List Bool → Nat
  | [] => 0
  | b :: rest => b.toNat * 2 ^ rest.length + bitsValue rest

theorem bitsValue_lt (bits : List Bool) : bitsValue bits < 2 ^ bits.length := by
  induction bits with
  | nil => decide
  | cons b bits ih =>
    simp only [bitsValue, List.length_cons, pow_succ]
    cases b <;> simp <;> omega

theorem bitsValue_append (a b : List Bool) : bitsValue (a ++ b) = bitsValue a * 2 ^ b.length + bitsValue b := by
  induction a with
  | nil => simp [bitsValue]
  | cons x a ih => simp only [List.cons_append, bitsValue, ih, List.length_append, pow_add]; ring

theorem bitsValue_byteBits (b : Byte) : bitsValue (byteBits b) = b.toNat := by
  revert b; decide +kernel

theorem bitsValue_bytesBits (bytes : List Byte) : bitsValue (bytesBits bytes) = beNat bytes := by
  induction bytes using List.reverseRecOn with
  | nil => rfl
  | append_singleton bytes b ih =>
    have hsplit : bytesBits (bytes ++ [b]) = bytesBits bytes ++ byteBits b := by simp [bytesBits]
    rw [hsplit, bitsValue_append, ih, bitsValue_byteBits, beNat_append_singleton, byteBits_length]
    rfl

theorem serialBits_length (x : Serial) : (serialBits x).length = 64 := by
  simp [serialBits, wordBytes, beBytes]

theorem bitsValue_serialBits (x : Serial) : bitsValue (serialBits x) = x.toNat := by
  rw [serialBits, bitsValue_bytesBits, wordBytes, beNat_beBytes, Nat.mod_eq_of_lt]
  exact x.isLt

/-- Of bit lists of one length the line shows the one of greatest value (R41). -/
theorem contend_greatest (n : Nat) (parties : List (List Bool)) (m : List Bool) (hm : m ∈ parties)
    (hlen : ∀ p ∈ parties, p.length = n) (hmax : ∀ p ∈ parties, bitsValue p ≤ bitsValue m) : contend n parties = m := by
  induction n generalizing parties m with
  | zero => exact (List.length_eq_zero_iff.1 (hlen m hm)).symm
  | succ n ih =>
    obtain ⟨b, bits, rfl⟩ := List.exists_cons_of_length_eq_add_one (hlen m hm)
    have hbits : bits.length = n := by simpa using hlen _ hm
    have hshown : parties.any (fun p => p.headD false) = b := by
      cases b with
      | true => exact List.any_eq_true.2 ⟨_, hm, rfl⟩
      | false =>
        rw [List.any_eq_false]
        intro p hp hhead
        obtain ⟨c, rest, rfl⟩ := List.exists_cons_of_length_eq_add_one (hlen p hp)
        obtain rfl : c = true := hhead
        have hrest : rest.length = n := by simpa using hlen _ hp
        have h1 := hmax _ hp
        have h2 := bitsValue_lt bits
        simp only [bitsValue, Bool.toNat_true, Bool.toNat_false, hrest, hbits] at h1 h2
        omega
    rw [contend, hshown]
    congr 1
    refine ih _ _ (List.mem_map.2 ⟨_, List.mem_filter.2 ⟨hm, by simp⟩, rfl⟩) ?_ ?_
    · intro q hq
      obtain ⟨p, hp, rfl⟩ := List.mem_map.1 hq
      simp [hlen p (List.mem_filter.1 hp).1]
    · intro q hq
      obtain ⟨p, hp, rfl⟩ := List.mem_map.1 hq
      obtain ⟨hin, hhead⟩ := List.mem_filter.1 hp
      obtain ⟨c, rest, rfl⟩ := List.exists_cons_of_length_eq_add_one (hlen p hin)
      have hc : c = b := by simpa using hhead
      subst hc
      have hrest : rest.length = n := by simpa using hlen _ hin
      have := hmax _ hin
      simp only [bitsValue, hrest, hbits] at this
      simpa using this

/-- Settles O18: the bits of a serial, most significant first, stand for the serial as a number. -/
theorem greatestSerialWins : Obligations.GreatestSerialWins := by
  unfold Obligations.GreatestSerialWins
  intro serials m hm hmax
  have hbits : contend 64 (serials.map serialBits) = serialBits m := by
    refine contend_greatest 64 _ _ (List.mem_map_of_mem hm) (fun p hp => ?_) fun p hp => ?_
    · obtain ⟨x, _, rfl⟩ := List.mem_map.1 hp
      exact serialBits_length x
    · obtain ⟨x, hx, rfl⟩ := List.mem_map.1 hp
      rw [bitsValue_serialBits, bitsValue_serialBits]
      exact hmax x hx
  refine ⟨hbits, fun u hu => ?_⟩
  have hne : serials.map serialBits ≠ [] := List.ne_nil_of_mem (List.mem_map_of_mem hm)
  rw [← hbits, ← contest_common hu 64 false _ hne, List.map_map]
  rfl

end Sys2Proof.Machine

/-! A request taken on an idle link and answered in the same event: the state its owner meets, and for each owner that answers
at once its table of conditions. -/

namespace Sys2Proof.Machine

section Holding
variable (s : State) (c : RequestCode) (tag : Byte) (args : List Byte)

/-! ### The state an owner meets

It differs from the state before the arrival in the station link alone. -/

@[simp] theorem holding_bay (b : BayId) : (s.holding c tag args).bay b = s.bay b := rfl
@[simp] theorem holding_slot (k : SlotId) : (s.holding c tag args).slot k = s.slot k := rfl
@[simp] theorem holding_entry (e : EntryId) : (s.holding c tag args).entry e = s.entry e := rfl
@[simp] theorem holding_inUse (e : EntryId) : (s.holding c tag args).inUse e = s.inUse e := rfl
@[simp] theorem holding_slotHeld (k : SlotId) : (s.holding c tag args).slotHeld k = s.slotHeld k := rfl
@[simp] theorem holding_entryReply (e : EntryId) : (s.holding c tag args).entryReply e = s.entryReply e := rfl
@[simp] theorem holding_slotReply (k : SlotId) : (s.holding c tag args).slotReply k = s.slotReply k := rfl
@[simp] theorem holding_statusReply : (s.holding c tag args).statusReply = s.statusReply := rfl
@[simp] theorem holding_enclosureReply : (s.holding c tag args).enclosureReply = s.enclosureReply := rfl
@[simp] theorem holding_latched : (s.holding c tag args).latched = s.latched := rfl
@[simp] theorem holding_enclosure : (s.holding c tag args).enclosure = s.enclosure := rfl
@[simp] theorem holding_room : (s.holding c tag args).room = s.room := rfl
@[simp] theorem holding_running : (s.holding c tag args).running = s.running := rfl
@[simp] theorem holding_twoTokens : (s.holding c tag args).twoTokens = s.twoTokens := rfl
@[simp] theorem holding_components : (s.holding c tag args).components = s.components := rfl
@[simp] theorem holding_portA : (s.holding c tag args).portA = s.portA := rfl
@[simp] theorem holding_portB : (s.holding c tag args).portB = s.portB := rfl
@[simp] theorem holding_cipher : (s.holding c tag args).cipher = s.cipher := rfl
@[simp] theorem holding_keys : (s.holding c tag args).keys = s.keys := rfl
@[simp] theorem holding_window : (s.holding c tag args).window = s.window := rfl
@[simp] theorem holding_clock : (s.holding c tag args).clock = s.clock := rfl
@[simp] theorem holding_time : (s.holding c tag args).time = s.time := rfl
@[simp] theorem holding_report : (s.holding c tag args).report = s.report := rfl

@[simp] theorem setBay_holding (b : BayId) (x : Bay) :
    (s.holding c tag args).setBay b x = (s.setBay b x).holding c tag args := rfl
@[simp] theorem updBay_holding (b : BayId) (f : Bay → Bay) :
    (s.holding c tag args).updBay b f = (s.updBay b f).holding c tag args := rfl
@[simp] theorem setEntry_holding (e : EntryId) (x : Entry) :
    (s.holding c tag args).setEntry e x = (s.setEntry e x).holding c tag args := rfl
@[simp] theorem setSlot_holding (k : SlotId) (x : Slot) :
    (s.holding c tag args).setSlot k x = (s.setSlot k x).holding c tag args := rfl
@[simp] theorem setCounters_holding (x : Counters) :
    (s.holding c tag args).setCounters x = (s.setCounters x).holding c tag args := rfl
@[simp] theorem setRecords_holding (x : List Record) :
    (s.holding c tag args).setRecords x = (s.setRecords x).holding c tag args := rfl

@[simp] theorem raise_holding (f : Flag) : (s.holding c tag args).raise f = (s.raise f).holding c tag args := by
  cases h : s.notice.armed <;> simp [State.raise, State.holding, h]

@[simp] theorem appendRecord_holding (r : RecordBody) :
    (s.holding c tag args).appendRecord r = (s.appendRecord r).holding c tag args := by
  simp [State.appendRecord]

variable {s c tag args}

/-- A request whose owner answers it in the same event. -/
theorem request_answers {t : State} {code : ResultCode} {contents : List Byte} (h : LinkIdle s)
    (ht : (s.holding c tag args).takeRequest c args = (t.holding c tag args).answer code contents) :
    request c tag args s = .next (t.answered c tag args code contents) := by
  rw [request_idle h, ht, answer_holding]

/-- A request whose owner leaves its reply for later. -/
theorem request_waits {t : State} (h : LinkIdle s) (ht : (s.holding c tag args).takeRequest c args = t.holding c tag args) :
    request c tag args s = .next (t.holding c tag args).beginFrame := by
  rw [request_idle h, ht]

end Holding

/-! ### Requests that only read -/

/-- Settles O26, owner by owner: each answers from the state it meets. -/
theorem readingRequestsAnswer : Obligations.ReadingRequestsAnswer := by
  intro s tag h
  refine ⟨fun b => ?bay, fun args ha => ?noBay, fun e => ?entry, fun args ha => ?noEntry, fun k => ?slot,
    fun args ha => ?noSlot, ?ports, fun args ha => ?noPorts, ?status, fun args ha => ?noStatus⟩
  case bay => exact request_answers h (by simp [State.takeRequest, State.takeBayStatus])
  case noBay => exact request_answers h (by simp [State.takeRequest, State.takeBayStatus, ha])
  case entry => exact request_answers h (by simp [State.takeRequest, State.takeProfileRead])
  case noEntry => exact request_answers h (by simp [State.takeRequest, State.takeProfileRead, ha])
  case slot => exact request_answers h (by simp [State.takeRequest, State.takeKeyInfo])
  case noSlot => exact request_answers h (by simp [State.takeRequest, State.takeKeyInfo, ha])
  case ports => exact request_answers h (by simp [State.takeRequest, State.takeTokenStatus])
  case noPorts =>
    obtain ⟨a, rest, rfl⟩ := List.exists_cons_of_ne_nil ha
    exact request_answers h (by simp [State.takeRequest, State.takeTokenStatus])
  case status => exact request_answers h rfl
  case noStatus =>
    obtain ⟨a, rest, rfl⟩ := List.exists_cons_of_ne_nil ha
    exact request_answers h (by simp [State.takeRequest, State.takeStatus])

/-! ### The profile table -/

theorem clampPriority_eq (p : Byte) :
    clampPriority p = if p.toNat < 1 then 1#8 else if 15 < p.toNat then 15#8 else p := by
  have hzero : p = 0#8 ↔ p.toNat < 1 := by rw [BitVec.toNat_eq]; simp
  simp [clampPriority, hzero]

/-- Storing an entry over itself changes nothing where its CRC-16 agrees. -/
theorem setEntry_self {s : State} (h : ChecksAgree s) (e : EntryId) : s.setEntry e (s.entry e) = s := by
  obtain ⟨-, hp, -, -⟩ := h
  simp [State.setEntry, State.setEntries, State.entry, ← hp]

/-- Settles O28: the table of each request on an entry. -/
theorem profilesChanged : Obligations.ProfilesChanged := by
  refine ⟨fun s tag args h => ⟨fun hr => ?_, fun e p hr => ⟨fun hu => ?_, fun hu => ?_⟩⟩, fun s tag e h =>
    ⟨fun on p he => ⟨?_, ?_⟩, fun he hc => ⟨?_, ?_⟩, fun hu => ?_, fun hu => ?_, fun args hr => ⟨?_, ?_, ?_⟩⟩⟩
  · exact request_answers h (by simp [State.takeRequest, State.takeProfileWrite, hr])
  · exact request_answers h (by simp [State.takeRequest, State.takeProfileWrite, hr, hu])
  · intro stored on t
    have hstored : p.stored = stored := by simp only [Profile.stored, clampPriority_eq, stored]
    have hon : (s.entry e).enabled = on := by simp only [on]; rcases s.entry e with _ | ⟨_ | _, _⟩ <;> rfl
    exact request_answers h (by simp [State.takeRequest, State.takeProfileWrite, hr, hu, hstored, hon, t])
  · exact request_answers h (by simp [State.takeRequest, State.takeProfileEnable, he, Entry.setEnabled, Entry.code])
  · exact request_answers h (by simp [State.takeRequest, State.takeProfileDisable, he, Entry.setEnabled, Entry.code])
  · have hself := he ▸ setEntry_self hc e
    exact request_answers h (by simp [State.takeRequest, State.takeProfileEnable, he, Entry.setEnabled, Entry.code, hself])
  · have hself := he ▸ setEntry_self hc e
    exact request_answers h (by simp [State.takeRequest, State.takeProfileDisable, he, Entry.setEnabled, Entry.code, hself])
  · exact request_answers h (by simp [State.takeRequest, State.takeProfileClear, hu])
  · exact request_answers h (by simp [State.takeRequest, State.takeProfileClear, hu])
  · exact request_answers h (by simp [State.takeRequest, State.takeProfileEnable, hr])
  · exact request_answers h (by simp [State.takeRequest, State.takeProfileDisable, hr])
  · exact request_answers h (by simp [State.takeRequest, State.takeProfileClear, hr])

/-! ### The key store -/

/-- Settles O29: the conditions of each request in their order, by the content of the slot. -/
theorem keysRetiredAndErased : Obligations.KeysRetiredAndErased := by
  intro s tag k h
  refine ⟨fun i key hk => ⟨fun hu => ?_, fun hn hh hr => ?_, fun hn hh hr => ?_, ?_⟩, fun i hk => ⟨?_, fun hr => ?_, fun hr => ?_⟩,
    fun hk => ⟨?_, ?_⟩, fun args ha => ⟨?_, ?_⟩⟩
  · exact request_answers h (by simp_all [State.takeRequest, State.takeKeyRetire])
  · exact request_answers h (by simp [State.takeRequest, State.takeKeyRetire, hk, hn, hh, hr])
  · exact request_answers h (by simp [State.takeRequest, State.takeKeyRetire, hk, hn, hh, hr, changeRecord])
  · exact request_answers h (by simp [State.takeRequest, State.takeKeyErase, hk])
  · exact request_answers h (by simp [State.takeRequest, State.takeKeyRetire, hk])
  · exact request_answers h (by simp [State.takeRequest, State.takeKeyErase, hk, hr])
  · exact request_answers h (by simp [State.takeRequest, State.takeKeyErase, hk, hr, changeRecord, Slot.emptied])
  · exact request_answers h (by simp [State.takeRequest, State.takeKeyRetire, hk])
  · exact request_answers h (by simp [State.takeRequest, State.takeKeyErase, hk])
  · exact request_answers h (by simp [State.takeRequest, State.takeKeyRetire, ha])
  · exact request_answers h (by simp [State.takeRequest, State.takeKeyErase, ha])

/-! ### Requests of the key store that the cipher unit runs -/

/-- With nothing but the engine's next request, internal work is that request's start. -/
theorem work_of_started {s t : State} (h : s.engineTake = .started t) : s.work [] = t := by
  unfold State.work Config.settleBound
  rw [State.settle, h]

/-- A cipher unit without requests admits any request to its queue (R100). -/
theorem place_of_empty {c : Cipher} (hr : c.running = none) (hq : c.queue = []) (job : CipherJob) (urgent : Bool) :
    c.place job urgent = { c with queue := [{ job := job, urgent := urgent }] } := by
  have hadmits : c.admits job = true := by
    cases hb : job.bay <;>
      simp [Cipher.admits, Cipher.held, Cipher.heldBy, hr, hq, hb, Config.cipherPlaces, Config.bayShare]
  simp [Cipher.place, hadmits, hq]

/-- A request placed on an empty cipher unit, and whose start checks pass without a use counted, runs at once (R103, R104). -/
theorem work_placed {s : State} (h : CipherEmpty s) {job : CipherJob} {m : Material} (hm : s.startCheck job = .ok (m, none)) :
    ({ s with cipher := s.cipher.place job false } : State).work [] =
      { s with cipher := { s.cipher with
          running := some { job := job, urgent := false, withdrawn := false, material := m } } } := by
  obtain ⟨hr, hq, hw⟩ := h
  have hplace := place_of_empty hr hq job false
  refine work_of_started ((engineTake_of_ok (r := { job := job, urgent := false }) (m := m) (used := none) ?_ ?_ ?_).trans ?_)
  · simp [hplace, hr]
  · simp [hplace, Cipher.choice]
  · rw [hplace]; cases job <;> exact hm
  · simp [hplace, State.countUse, Cipher.run, hq]

/-- Settles O30: the conditions in their order; the CHECK of an accepted one is placed on an empty cipher unit. -/
theorem assemblyAccepted : Obligations.AssemblyAccepted := by
  intro s tag args h refused
  have refuse : ∀ code, (s.holding .keyAssemble tag args).takeKeyAssemble args = (s.holding .keyAssemble tag args).answer code [] →
      refused code := fun code ht => request_answers h ht
  refine ⟨fun hr => refuse _ (by simp [State.takeKeyAssemble, hr]), fun r hr => ⟨fun hl => refuse _ (by
    simp [State.takeKeyAssemble, hr, hl]), fun hl => ⟨fun ha => refuse _ (by simp [State.takeKeyAssemble, hr, hl, ha]),
    fun ha => ⟨fun hg => refuse _ (by simp [State.takeKeyAssemble, hr, hl, ha, hg]), fun hg =>
      ⟨fun hc => ?absent, fun a b hc => ⟨fun ht => refuse _ ?invalid, fun idA idB ht =>
        ⟨fun hroom => refuse _ ?full, fun hroom hempty => ?accepted⟩⟩⟩⟩⟩⟩⟩
  case absent =>
    refine refuse _ ?_
    simp [State.takeKeyAssemble, hr, hl, ha, BitVec.not_le.2 hg, hc]
  case invalid => simp [State.takeKeyAssemble, hr, hl, ha, BitVec.not_le.2 hg, hc, ht]
  case full => simp [State.takeKeyAssemble, hr, hl, ha, BitVec.not_le.2 hg, hc, ht, hroom]
  case accepted =>
    refine request_waits h ?_
    simp only [State.takeRequest, State.takeKeyAssemble, hr, holding_latched, hl, holding_slot, ha, BitVec.not_le.2 hg,
      holding_components, hc, holding_twoTokens, ht, holding_room, hroom, Bool.false_eq_true, if_false, if_true]
    exact work_placed (s := { s.holding .keyAssemble tag args with
      keys := { s.keys with progress := some (.assembly r (a ^^^ b) idA idB) } }) (m := .none) hempty rfl

/-- Settles O31: the conditions in their order; the IMPORT of an accepted one reads its transfer key at its start. -/
theorem importAccepted : Obligations.ImportAccepted := by
  intro s tag args h refused
  have refuse : ∀ code, (s.holding .keyImport tag args).takeKeyImport args = (s.holding .keyImport tag args).answer code [] →
      refused code := fun code ht => request_answers h ht
  refine ⟨fun hr => refuse _ (by simp [State.takeKeyImport, hr]), fun r transfer wrapped hr =>
    ⟨fun hl => refuse _ (by simp [State.takeKeyImport, hr, hl]), fun hl =>
      ⟨fun hw => refuse _ (by simp [State.takeKeyImport, hr, hl, hw]), fun hw =>
        ⟨fun ha => refuse _ (by simp [State.takeKeyImport, hr, hl, hw, ha]), fun ha =>
          ⟨fun hg => refuse _ (by simp [State.takeKeyImport, hr, hl, hw, ha, hg]), fun hg =>
            ⟨fun hk => refuse _ (by simp [State.takeKeyImport, hr, hl, hw, ha, BitVec.not_le.2 hg, hk]), fun key gen hk =>
              ⟨fun hroom => refuse _ (by simp [State.takeKeyImport, hr, hl, hw, ha, BitVec.not_le.2 hg, hk, hroom]),
                fun hroom hempty => ?accepted⟩⟩⟩⟩⟩⟩⟩
  refine request_waits h ?_
  have hopen : s.window.isNone = false := by simpa [Option.isSome_iff_ne_none] using hw
  simp only [State.takeRequest, State.takeKeyImport, hr, holding_latched, hl, holding_window, hopen, holding_slot, ha,
    BitVec.not_le.2 hg, hk, Option.isNone_some, holding_room, hroom, Bool.false_eq_true, if_false, if_true]
  refine work_placed (s := { s.holding .keyImport tag args with
    keys := { s.keys with progress := some (.importing r transfer) } }) (m := .slot key gen) hempty ?_
  have hslot : ({ s.holding .keyImport tag args with
    keys := { s.keys with progress := some (.importing r transfer) } } : State).slot transfer = s.slot transfer := rfl
  simp only [State.startCheck, hslot, hk]

/-! ### The window and the enclosure -/

theorem grantMinutes_eq (m : Nat) : grantMinutes m = max 15 (min 480 m) := by
  unfold grantMinutes
  split
  · omega
  · split <;> omega

/-- The two-token condition fails ABSENT where a port is not in READ (R146). -/
theorem twoTokens_absent {s : State} (h : s.portA.state.token = none ∨ s.portB.state.token = none) : s.twoTokens = .absent := by
  unfold State.twoTokens
  split
  · next ha hb => simp [ha, hb] at h
  · rfl

/-- The two-token condition on the two tokens read (R146). -/
theorem twoTokens_read {s : State} {a b : Token} (ha : s.portA.state.token = some a) (hb : s.portB.state.token = some b) :
    s.twoTokens = if a.role ≠ .custodianA ∨ b.role ≠ .custodianB ∨ a.id = b.id then .invalid else .satisfied a.id b.id := by
  unfold State.twoTokens
  rw [ha, hb]
  dsimp only
  by_cases hr : a.role ≠ .custodianA ∨ b.role ≠ .custodianB
  · rw [if_pos hr, if_pos (by tauto)]
  · rw [if_neg hr]
    exact if_congr (by tauto) rfl rfl

/-- Settles O32: the conditions in their order, the tokens read one by one. -/
theorem windowOpened : Obligations.WindowOpened := by
  intro s tag m1 m0 h args refused
  have refuse : ∀ code, (s.holding .windowOpen tag args).takeWindowOpen args = (s.holding .windowOpen tag args).answer code [] →
      refused code := fun code ht => request_answers h ht
  have hr : readMinutes args = some (m1.toNat * 256 + m0.toNat) := by simp [readMinutes, args, beNat]
  refine ⟨fun hl => refuse _ (by simp [State.takeWindowOpen, hr, hl]), fun hl => ⟨fun ha => refuse _ (by
    simp [State.takeWindowOpen, hr, hl, twoTokens_absent ha]), fun a b ha hb => ⟨fun hi => refuse _ (by
      simp [State.takeWindowOpen, hr, hl, twoTokens_read ha hb, hi]), fun hra hrb hid => ?_⟩⟩, fun other ho =>
    request_answers h (by simp [State.takeRequest, State.takeWindowOpen, readMinutes_none ho])⟩
  have htokens : s.twoTokens = .satisfied a.id b.id := by simp [twoTokens_read ha hb, hra, hrb, hid]
  constructor
  · intro hfull
    have hroom : s.room = false := Bool.eq_false_iff.2 fun hroom => by have := (room_iff s).1 hroom; omega
    exact refuse _ (by simp [State.takeWindowOpen, hr, hl, htokens, hroom])
  · intro hleft minutes expiry
    have hroom : s.room = true := (room_iff s).2 hleft
    refine request_answers h ?_
    simp only [State.takeRequest, State.takeWindowOpen, hr, holding_latched, hl, holding_twoTokens, htokens, holding_room, hroom,
      Bool.false_eq_true, if_false, if_true, grantMinutes_eq, holding_clock]
    exact congrArg _ (appendRecord_holding { s with window := some (minutes * 60) } .windowOpen tag args _)

/-- Settles O39: the conditions in their order; an input that does not start the response changes only itself. -/
theorem tamperCleared : Obligations.TamperCleared := by
  refine ⟨fun s tag h => ?_, fun s hp => ⟨event_powered _ hp, event_powered _ hp, fun hl => ⟨?_, ?_⟩⟩⟩
  · intro inputs refused
    have refuse : s.latched = true → ∀ code, (s.holding .tamperClear tag []).takeTamperClear [] =
        (s.holding .tamperClear tag []).answer code s.enclosureReply → refused code := fun hl code ht => by
      have hreply : s.enclosureReply = inputs ++ [0x01#8] := by simp only [State.enclosureReply, hl]; rfl
      exact request_answers h (ht.trans (by rw [hreply]))
    refine ⟨fun args ha => ?_, fun hl => ?_, fun hl => ⟨fun hi => refuse hl _ ?_, fun hlid hmesh =>
      ⟨fun ht => refuse hl _ ?_, fun ht => refuse hl _ ?_, fun idA idB ht => ?_⟩⟩⟩
    · obtain ⟨a, rest, rfl⟩ := List.exists_cons_of_ne_nil ha
      exact request_answers h (by simp [State.takeRequest, State.takeTamperClear])
    · have hreply : s.enclosureReply = inputs ++ [0x00#8] := by simp only [State.enclosureReply, hl]; rfl
      exact request_answers h (by simp [State.takeRequest, State.takeTamperClear, hl, hreply])
    · rcases hi with hi | hi <;> simp [State.takeTamperClear, hl, hi]
    · simp [State.takeTamperClear, hl, hlid, hmesh, ht]
    · simp [State.takeTamperClear, hl, hlid, hmesh, ht]
    · refine request_answers h ?_
      simp only [State.takeRequest, State.takeTamperClear]
      rw [if_neg (by simp [hl]), if_neg (by simp [hlid, hmesh])]
      simp only [holding_twoTokens, ht]
      rfl
  · exact (event_powered _ hp).trans (by simp [State.inputActive, hl, Enclosure.setInput])
  · exact (event_powered _ hp).trans (by simp [State.inputActive, hl, Enclosure.setInput])

/-! ### BAY_POWER -/

theorem finOfByte_none {n : Nat} {x : Byte} (h : x.toNat = 0 ∨ n < x.toNat) : finOfByte n x = none := by
  unfold finOfByte
  exact dif_neg (by omega)

@[simp] theorem readBayPower_on (b : BayId) : readBayPower [finByte b, 0x01#8] = some (b, true) := by revert b; decide

@[simp] theorem readBayPower_off (b : BayId) : readBayPower [finByte b, 0x00#8] = some (b, false) := by revert b; decide

theorem toOff_cleared (x : Bay) :
    x.toOff.state = .off ∧ x.toOff.faultReason = none ∧ x.toOff.supply = false ∧ x.toOff.quietSince = none ∧
      x.toOff.limitAt = none := by
  cases hs : x.supply <;> simp [Bay.toOff, Bay.unpower, Bay.quietSince, hs]

/-- Settles O37: by the latch, and by the state of the bay. -/
theorem bayPowerSwitched : Obligations.BayPowerSwitched := by
  intro s tag h
  refine ⟨fun x hx => ⟨?_, ?_⟩, fun b => ?_⟩
  · exact request_answers h (by simp [State.takeRequest, State.takeBayPower, readBayPower, finOfByte_none hx])
  · exact request_answers h (by simp [State.takeRequest, State.takeBayPower, readBayPower, finOfByte_none hx])
  intro x onArgs offArgs
  refine ⟨fun hl => ?_, fun hl hst => ⟨x.powerUp s.time, ?_, rfl, ?_⟩, fun hl hst => ?_, fun hrun => ?_, fun hst => ?_,
    fun hrun hst => ⟨?_, toOff_cleared x⟩⟩
  · exact request_answers h (by simp [State.takeRequest, State.takeBayPower, State.bayPowerUp, hl])
  · refine request_answers h ?_
    have hst' : (s.bay b).state = .off := hst
    simp [State.takeRequest, State.takeBayPower, State.bayPowerUp, hl, hst', State.updBay, Bay.powerUp, BayState.code, x]
  · cases ha : x.line.active <;>
      simp [Bay.quietSince, Bay.powerUp, LineEnd.powered, LineEnd.since, settled, noteChange, ha]
  · exact request_answers h (by simp [State.takeRequest, State.takeBayPower, State.bayPowerUp, hl, show (s.bay b).state ≠ .off from hst, x])
  · exact request_answers h (by
      simp [State.takeRequest, State.takeBayPower, State.bayPowerDown, show (s.bay b).isRunning = true from hrun])
  · have hst' : (s.bay b).state = .off := hst
    exact request_answers h (by
      simp [State.takeRequest, State.takeBayPower, State.bayPowerDown, Bay.isRunning, hst', BayState.code])
  · have hst' : (s.bay b).state ≠ .off := hst
    have hrun' : (s.bay b).isRunning = false := hrun
    have hnext : (s.bay b).toOff.state = .off := (toOff_cleared x).1
    exact request_answers h (by
      simp [State.takeRequest, State.takeBayPower, State.bayPowerDown, hrun', hst', State.updBay, hnext, BayState.code, x])

/-! ### LINE_TEST

An echo nobody disturbs shows the periods sent, as late as the loop is, and the last passive period runs on. -/

/-- The moments of change of an echo of these periods are their running sums, newest first. -/
theorem momentsFrom_eq (t : Nat) (periods known : List Nat) :
    momentsFrom t periods known = (periods.scanl (· + ·) t).reverse ++ known := by
  induction periods generalizing t known with
  | nil => rfl
  | cons d rest ih => simp [momentsFrom, ih, List.scanl_cons]

/-- Periods no shorter than the threshold are no glitches, and all their moments stay (R57). -/
theorem settled_momentsFrom {g t : Nat} {periods known : List Nat} (hlong : ∀ d ∈ periods, g ≤ d)
    (hknown : settled g (t :: known) = t :: known) (hne : known ≠ []) :
    settled g (momentsFrom t periods known) = momentsFrom t periods known := by
  induction periods generalizing t known with
  | nil => exact hknown
  | cons d rest ih =>
    obtain ⟨hd, hrest⟩ := List.forall_mem_cons.1 hlong
    obtain ⟨s, more, rfl⟩ := List.exists_cons_of_ne_nil hne
    refine ih hrest ?_ (by simp)
    have hnote : settled g ((t + d) :: t :: s :: more) = noteChange g (t + d) (settled g (t :: s :: more)) := rfl
    rw [hnote, hknown, noteChange, if_neg (by omega)]

/-- The periods between the moments of an echo are the periods echoed, and the one that runs. -/
theorem periodsUntil_scanl (now t : Nat) (periods : List Nat) :
    periodsUntil now t (periods.scanl (· + ·) t).tail = periods ++ [now - (t + periods.sum)] := by
  induction periods generalizing t with
  | nil => simp [periodsUntil]
  | cons d rest ih =>
    have hhead : rest.scanl (· + ·) (t + d) = (t + d) :: (rest.scanl (· + ·) (t + d)).tail := by
      cases rest <;> simp [List.scanl_cons]
    rw [List.scanl_cons, List.tail_cons, hhead, periodsUntil, ih, List.sum_cons, Nat.add_sub_cancel_left,
      List.cons_append, Nat.add_assoc]

/-- What the closed loop shows of an odd number of periods, none of them a glitch, the first of them active (R64, R70). -/
theorem echoNow_loop {g delay : Nat} {echo : List Nat} (now : Nat) (hlong : ∀ d ∈ echo, g ≤ d) (hodd : echo.length % 2 = 1) :
    echoNow now g 0 false (loopMoments delay echo) = (delay, echo ++ [now - (delay + echo.sum)]) := by
  have hempty : echo.isEmpty = false := by cases echo <;> simp_all
  have hloop : loopMoments delay echo = momentsFrom delay echo [0] := by simp [loopMoments, hempty, hodd]
  have hsettled : settled g (loopMoments delay echo) = momentsFrom delay echo [0] := by
    rw [hloop]; exact settled_momentsFrom hlong rfl (by simp)
  have hscan : echo.scanl (· + ·) delay = delay :: (echo.scanl (· + ·) delay).tail := by
    cases echo <;> simp [List.scanl_cons]
  have hmoments : echoMoments g 0 false (loopMoments delay echo) = echo.scanl (· + ·) delay := by
    have htake : (momentsFrom delay echo [0]).takeWhile (0 ≤ ·) = momentsFrom delay echo [0] := by
      rw [List.takeWhile_eq_self_iff]; simp
    have hlength : (0 :: echo.scanl (· + ·) delay).length % 2 = 1 := by simp [List.length_scanl]; omega
    unfold echoMoments
    rw [hsettled, htake, momentsFrom_eq, List.reverse_append, List.reverse_reverse]
    simp only [List.reverse_singleton, List.singleton_append, hlength, decide_true, Bool.true_eq_false, if_false, if_true]
  unfold echoNow
  rw [hmoments, hscan]
  dsimp only
  rw [Nat.sub_zero, periodsUntil_scanl]

/-- The monitor passes over a symbol whose echo is as late as the drive's (R64 to R66). -/
theorem followEcho_symbol {u final delay k : Nat} (hu : u = 40 ∨ u = 10) (hdelay : delay < u) (hk : k = 2 ∨ k = 4 ∨ k = 8)
    (active : Bool) {syms rest : List Nat} (hsyms : syms ≠ []) (hrest : rest ≠ []) :
    followEcho u final active delay (k :: syms) (k * u :: rest) = followEcho u final (!active) delay syms rest := by
  obtain ⟨p, more, rfl⟩ := List.exists_cons_of_ne_nil hrest
  obtain ⟨y, ys, rfl⟩ := List.exists_cons_of_ne_nil hsyms
  have hwindow : (symbolWindow u k).1 ≤ k * u ∧ k * u < (symbolWindow u k).2 := by
    rcases hk with rfl | rfl | rfl <;> rcases hu with rfl | rfl <;> decide
  have hpast : (delay : Int) + ((k * u : Nat) : Int) - (k : Int) * (u : Int) = delay := by push_cast; omega
  cases active with
  | true =>
    rw [followEcho]
    simp only [hpast]
    rw [if_neg (by omega), if_neg (by omega), if_neg (by omega)]
    rfl
  | false =>
    rw [followEcho]
    simp only [hpast]
    · rw [if_neg (by omega), if_neg (by omega), if_neg (by omega)]
      rfl
    · simp

/-- The monitor follows an undisturbed echo of bits to the data end, which runs on (R64 to R66). -/
theorem followEcho_bits {u final delay last : Nat} (hu : u = 40 ∨ u = 10) (hdelay : delay < u) (active : Bool) (bits : List Bool)
    (hlast : (active = false ↔ bits.length % 2 = 0)) :
    followEcho u final active delay (bitPeriods 1 active bits ++ [8]) (bitPeriods u active bits ++ [last]) = none := by
  induction bits generalizing active with
  | nil =>
    obtain rfl : active = false := hlast.2 rfl
    rfl
  | cons b rest ih =>
    have hunits : bitUnits active b = 2 ∨ bitUnits active b = 4 ∨ bitUnits active b = 8 := by
      unfold bitUnits; split <;> simp
    have hstep := followEcho_symbol (final := final) hu hdelay hunits active (syms := bitPeriods 1 (!active) rest ++ [8])
      (rest := bitPeriods u (!active) rest ++ [last]) (by simp) (by simp)
    have hparity : (!active) = false ↔ rest.length % 2 = 0 := by
      rw [List.length_cons] at hlast; cases active <;> simp at hlast ⊢ <;> omega
    calc followEcho u final active delay (bitPeriods 1 active (b :: rest) ++ [8]) (bitPeriods u active (b :: rest) ++ [last])
        = followEcho u final active delay (bitUnits active b :: (bitPeriods 1 (!active) rest ++ [8]))
            (bitUnits active b * u :: (bitPeriods u (!active) rest ++ [last])) := by simp [bitPeriods]
      _ = none := hstep.trans (ih (!active) hparity)

/-- An echo nobody disturbs passes (R64 to R66, R70). -/
theorem echoFault_undisturbed {rate : Rate} {delay : Nat} (f : LineFrame) (hdelay : delay < rate.unit) :
    echoFault rate f delay (f.periods rate.unit).dropLast = none := by
  have hu : rate.unit = 40 ∨ rate.unit = 10 := by cases rate <;> simp [Rate.unit]
  have hecho : (f.periods rate.unit).dropLast = 8 * rate.unit :: bitPeriods rate.unit false (bytesBits f.bytes) := by
    rw [LineFrame.periods, List.dropLast_concat]
  have hodd : (f.periods rate.unit).dropLast.length % 2 = 1 := by
    rw [hecho, List.length_cons, bitPeriods_length, bytesBits_length]; omega
  have hlong : ∀ d ∈ (f.periods rate.unit).dropLast, rate.unit / 2 ≤ d := by
    have hbits : ∀ active bits, ∀ d ∈ bitPeriods rate.unit active bits, 2 * rate.unit ≤ d := by
      intro active bits
      induction bits generalizing active with
      | nil => simp [bitPeriods]
      | cons b rest ih => exact List.forall_mem_cons.2 ⟨(bitUnits_bounds active b rate.unit).1, ih _⟩
    rw [hecho]
    exact List.forall_mem_cons.2 ⟨by omega, fun d hd => by have := hbits _ _ d hd; omega⟩
  unfold echoFault
  rw [echoNow_loop _ hlong hodd]
  unfold frameEcho
  rw [if_neg (by omega), hecho]
  obtain ⟨last, hlast⟩ : ∃ last, [last] = [delay + (8 * rate.unit :: bitPeriods rate.unit false (bytesBits f.bytes)).sum +
    f.ticks rate.unit + 10 * rate.unit - (delay + (8 * rate.unit :: bitPeriods rate.unit false (bytesBits f.bytes)).sum)] := ⟨_, rfl⟩
  rw [← hlast]
  have hunits : f.units = 8 :: (bitPeriods 1 false (bytesBits f.bytes) ++ [8]) := rfl
  rw [hunits, List.cons_append]
  exact (followEcho_symbol hu hdelay (by simp) true (by simp) (by simp)).trans
    (followEcho_bits hu hdelay false _ (by simp; omega))

/-- Settles O38: the conditions in their order, the end of the test frame, and the undisturbed echo. -/
theorem lineTested : Obligations.LineTested := by
  refine ⟨fun s tag h => ⟨fun args ha => ?_, fun b => ?_⟩, ?_, fun rate f delay hdelay => echoFault_undisturbed f hdelay⟩
  · exact request_answers h (by simp [State.takeRequest, State.takeLineTest, ha])
  · intro x
    refine ⟨fun hl => ?_, fun hl hst => ?_, fun hl hst hs => ?_⟩
    · exact request_answers h (by simp [State.takeRequest, State.takeLineTest, hl])
    · refine request_answers h ?_
      simp only [State.takeRequest, State.takeLineTest, readBay_finByte, holding_latched, hl, holding_bay, Bool.false_eq_true, if_false]
      exact if_pos hst
    · refine request_waits h ?_
      have hno : ¬ ((x.state ≠ .ready ∧ x.state ≠ .fault) ∨ x.supply = false) := by
        rw [hs]; rcases hst with hst | hst <;> simp [hst]
      simp only [State.takeRequest, State.takeLineTest, readBay_finByte, holding_latched, hl, holding_bay, Bool.false_eq_true, if_false]
      exact if_neg hno
  · intro s b since delay echo r rest hp htx hh hq result line
    have hend : (s.bay b).line.endTest s.time = { line with loopback := false } := by
      simp only [line, LineEnd.endTest, LineEnd.ended, LineEnd.gapFrom, LineEnd.sentRate, htx]
    refine (event_powered _ hp).trans ?_
    simp only [State.lineTestOver, htx]
    have hanswer := answer_withOwner (s := s.updBay b (fun x => { x with line := x.line.endTest s.time })) .ok [result] hh hq
    exact congrArg (fun t : State => Host.Outcome.next t.beginFrame) (hanswer.trans (by rw [State.updBay, hend]; rfl))

end Sys2Proof.Machine

/-! Bays at work and in their stops: internal work where the engine has nothing to take, the early stop and its end, and the
requests BATCH_ABORT, BAY_RESET and RESTART. -/

namespace Sys2Proof.Machine

/-! ### A quiet engine -/

/-- The cipher unit has nothing to take: it runs a request, or none is queued or waiting. -/
def Cipher.quiet (c : Cipher) : Prop := c.running.isSome = true ∨ (c.queue = [] ∧ c.waiting = [])

theorem engineQuiet_iff (s : State) : EngineQuiet s ↔ s.cipher.quiet := Iff.rfl

theorem EngineQuiet.congr {s t : State} (hs : EngineQuiet s) (h : t.cipher = s.cipher) : EngineQuiet t := by
  rw [engineQuiet_iff] at hs ⊢; rwa [h]

theorem Cipher.quiet.examine {c : Cipher} (h : c.quiet) : c.examine.quiet := by
  rcases h with h | ⟨hq, hw⟩
  · obtain ⟨_, _, _, _, hr, _⟩ := examineFrom_spec c.waiting { c with waiting := [] }
    exact .inl (by rw [Cipher.examine, hr]; exact h)
  · rw [examine_nil hw]; exact .inr ⟨hq, hw⟩

theorem Cipher.quiet.withdraw {c : Cipher} (h : c.quiet) (p : CipherJob → Bool) : (c.withdraw p).quiet := by
  refine Cipher.quiet.examine ?_
  rcases h with h | ⟨hq, hw⟩
  · exact .inl (by simpa using h)
  · exact .inr ⟨by simp [hq], by simp [hw]⟩

theorem Cipher.quiet.dropContext {c : Cipher} (h : c.quiet) (b : BayId) (a : Addr) : (c.dropContext b a).quiet :=
  Cipher.quiet.withdraw (c := c.setHolder b a none) h _

theorem Cipher.quiet.raise {c : Cipher} (h : c.quiet) (p : CipherJob → Bool) : (c.raise p).quiet := by
  rcases h with h | ⟨hq, hw⟩
  · exact .inl h
  · exact .inr ⟨by simp [Cipher.raise, hq], by simp [Cipher.raise, hw]⟩

/-- Internal work that concerns one bay, where the engine has nothing to take afterwards. -/
theorem work_advance {s : State} {b : BayId} (h : EngineQuiet (s.advance b)) : s.work [b] = s.advance b :=
  work_one (engineTake_quiet h)

/-- A bay that is not in ROLLING or LOADING does not go on. -/
theorem advance_of_not_sends {s : State} {b : BayId} (h : (s.bay b).state.sends = false) : s.advance b = s := by
  unfold State.advance
  cases hst : (s.bay b).state <;> simp_all [BayState.sends]

/-- Internal work of a bay that does not go on, with a quiet engine. -/
theorem work_still {s : State} {b : BayId} (h : (s.bay b).state.sends = false) (hq : EngineQuiet s) : s.work [b] = s := by
  have hadvance := advance_of_not_sends h
  rw [work_advance (by rwa [hadvance]), hadvance]

theorem work_nil {s : State} (hq : EngineQuiet s) : s.work [] = s := settle_nil _ (engineTake_quiet hq)

/-! ### The start of an early stop -/

/-- The bay in STOPPING (R26, step 1). -/
def Bay.stopping (cause : StopCause) (reason : Option FaultReason) (x : Bay) : Bay :=
  { x.freeReservations with
    state := .stopping, batch := { x.batch with stopCause := some cause }, faultReason := x.faultReason.or reason }

section BeginStop
variable (b : BayId) (cause : StopCause) (reason : Option FaultReason) (s : State)

theorem beginStop_eq : s.beginStop b cause reason =
    { s.setBay b ((s.bay b).stopping cause reason) with
      report := { s.report with waiting := s.report.waiting.filter (fun w => w.bay != b) }
      cipher := s.cipher.withdraw (fun j => j.bay == some b) } := rfl

@[simp] theorem beginStop_bay : (s.beginStop b cause reason).bay b = (s.bay b).stopping cause reason :=
  bay_setBay_same s b _

theorem beginStop_waiting : ∀ w ∈ (s.beginStop b cause reason).report.waiting, w.bay ≠ b := by
  intro w hw
  have hw := (List.mem_filter.1 hw).2
  simpa using hw

variable {s}

theorem EngineQuiet.beginStop (h : EngineQuiet s) : EngineQuiet (s.beginStop b cause reason) := Cipher.quiet.withdraw h _

/-- The stop of a batch concerns its bay alone. -/
theorem beginStop_onlyBay_frame (hrun : (s.bay b).isRunning = true) : BayFrame b s (s.beginStop b cause reason) :=
  (beginStop_path cause reason hrun).frame

end BeginStop

theorem BayFrame.onlyBay {b : BayId} {s t : State} (h : BayFrame b s t) : OnlyBay b s t :=
  ⟨h.bays, h.profiles, h.portA, h.portB, h.window, h.enclosure, h.profileCheck, h.clock, h.lastAdvance, h.time, h.powered, h.started,
    h.pending, h.batchCounter, by rw [h.keys], fun k => .inl (by rw [State.slot, h.keys, State.slot]), h.requests, h.assembler⟩

/-- A stop that owes a line reset begins it (R26, step 4). -/
theorem proceedStop_of_owes {s : State} {b : BayId} (h : (s.bay b).owesReset = true) :
    s.proceedStop b = s.updBay b (fun x => { x with line := x.line.startReset s.time }) := if_pos h

theorem proceedStop_of_not_owes {s : State} {b : BayId} (h : (s.bay b).owesReset = false) :
    s.proceedStop b = s.finishStop b := if_neg (by simp [h])

/-- A stop owes a line reset unless its cause or the fault recorded says otherwise (R26, step 4; log 17). -/
theorem owesReset_of {x : Bay} {cause : StopCause} (hcause : x.batch.stopCause = some cause) (hr : cause ≠ .restart)
    (hp : cause ≠ .powerFault) (hf : x.faultReason ≠ some .lineHeldActive) : x.owesReset = true := by
  unfold Bay.owesReset
  rw [hcause]
  cases cause <;> simp_all

/-- A stop that cuts the frame in flight and owes a line reset (R28). -/
theorem cutAndStop_of_owes {s : State} {b : BayId} (htx : (s.bay b).line.tx.isReset = false) (h : (s.bay b).owesReset = true) :
    s.cutAndStop b = s.updBay b (fun x => { x with line := (x.line.cut s.time).startReset s.time }) := by
  have hcut : s.cutAndStop b = (s.updBay b (fun x => { x with line := x.line.cut s.time })).proceedStop b := by
    unfold State.cutAndStop
    split
    · next htx' => simp [htx', Tx.isReset] at htx
    · rfl
  rw [hcut, proceedStop_of_owes (by rw [bay_updBay_same]; exact h), updBay_updBay]
  rfl

theorem cutAndStop_of_reset {s : State} {b : BayId} (htx : (s.bay b).line.tx.isReset = true) : s.cutAndStop b = s := by
  unfold State.cutAndStop
  split
  · rfl
  · next h => cases hx : (s.bay b).line.tx <;> simp_all [Tx.isReset]

/-! ### An answer in the course of an event -/

/-- The station link after the answer to its head request (R171). -/
def Link.answer (code : ResultCode) (contents : List Byte) (l : Link) : Link :=
  match l.head, l.queue with
  | .withOwner, r :: _ => { l with head := .replyReady, waiting := l.waiting ++ [.reply r.tag (code.code :: contents)] }
  | _, _ => l

/-- An answer changes the station link alone. -/
theorem answer_eq (code : ResultCode) (contents : List Byte) (s : State) :
    s.answer code contents = { s with link := s.link.answer code contents } := by
  unfold State.answer Link.answer
  split <;> simp_all

theorem beginStop_answer (b : BayId) (cause : StopCause) (reason : Option FaultReason) (s : State) (code : ResultCode)
    (contents : List Byte) :
    (s.answer code contents).beginStop b cause reason = (s.beginStop b cause reason).answer code contents := by
  simp only [answer_eq]; rfl

theorem updBay_answer (b : BayId) (f : Bay → Bay) (s : State) (code : ResultCode) (contents : List Byte) :
    (s.answer code contents).updBay b f = (s.updBay b f).answer code contents := by
  simp only [answer_eq]; rfl

@[simp] theorem beginStop_holding (b : BayId) (cause : StopCause) (reason : Option FaultReason) (s : State) (c : RequestCode)
    (tag : Byte) (args : List Byte) :
    (s.holding c tag args).beginStop b cause reason = (s.beginStop b cause reason).holding c tag args := rfl

/-! ### BATCH_ABORT -/

theorem not_sends_of_stopping {x : Bay} (h : x.state = .stopping) : x.state.sends = false := by rw [h]; rfl

/-- Settles O35, by the state of the bay; in STOPPING the bay does not go on. -/
theorem batchAborted : Obligations.BatchAborted := by
  intro s tag h
  refine ⟨fun args ha => request_answers h (by simp [State.takeRequest, State.takeBatchAbort, ha]), fun b =>
    ⟨fun hst => request_answers h (by simp [State.takeRequest, State.takeBatchAbort, hst]), fun hrun => ?_, fun hst hquiet => ?_⟩⟩
  · refine request_answers h ?_
    simp only [State.takeRequest, State.takeBatchAbort, readBay_finByte, holding_bay]
    unfold Bay.isRunning at hrun
    split <;> simp_all
  intro t
  have hrun : (s.bay b).isRunning = true := by unfold Bay.isRunning; rcases hst with hst | hst <;> rw [hst]
  have hframe : BayFrame b s t := beginStop_onlyBay_frame b .aborted none hrun
  have hbay : t.bay b = (s.bay b).stopping .aborted none := beginStop_bay b .aborted none s
  have hstays : (t.bay b).state.sends = false := not_sends_of_stopping (by rw [hbay]; rfl)
  have htq : EngineQuiet t := hquiet.beginStop b .aborted none
  have htake : (s.holding .batchAbort tag [finByte b]).takeRequest .batchAbort [finByte b] =
      State.work [b] (if (s.bay b).line.tx.inFlight then (t.holding .batchAbort tag [finByte b]).answer .ok []
        else ((t.holding .batchAbort tag [finByte b]).answer .ok []).proceedStop b) := by
    rcases hst with hst | hst <;>
      simp [State.takeRequest, State.takeBatchAbort, hst, beginStop_answer, t]
  refine ⟨hframe.onlyBay, hframe.keys, by rw [hbay]; rfl, by rw [hbay]; rfl, by rw [hbay]; rfl, beginStop_waiting b .aborted none s,
    rfl, fun hflight => request_answers h ?_, fun hidle hreason => request_answers h ?_⟩
  · rw [htake, if_pos hflight]
    exact work_still (by rw [answer_bay]; exact hstays) (htq.congr (by simp))
  · have howes : ((((t.holding .batchAbort tag [finByte b]).answer .ok []).bay b)).owesReset = true := by
      rw [answer_bay, holding_bay, hbay]
      exact owesReset_of (cause := .aborted) rfl nofun nofun (by simp [Bay.stopping, Bay.freeReservations, hreason])
    rw [htake, if_neg (by simp [hidle, Tx.inFlight]), proceedStop_of_owes howes, updBay_answer, work_still]
    · simp only [answer_time, updBay_holding]
      rfl
    · rw [answer_bay, updBay_holding, holding_bay, bay_updBay_same]; exact hstays
    · exact htq.congr (by simp)

/-! ### BAY_RESET -/

theorem beginStop_awaitReset (b : BayId) (cause : StopCause) (reason : Option FaultReason) (s : State) :
    (s.awaitReset b).beginStop b cause reason = (s.beginStop b cause reason).awaitReset b := by
  have hstop : ∀ u : State, (u.beginStop b cause reason).awaitReset b =
      { (u.setBay b ((u.bay b).stopping cause reason)).setBay b { (u.bay b).stopping cause reason with resetReply := some .ok } with
        report := { u.report with waiting := u.report.waiting.filter (fun w => w.bay != b) }
        cipher := u.cipher.withdraw (fun j => j.bay == some b) } := fun u => by
    simp only [State.awaitReset, State.updBay, beginStop_bay]
    rfl
  rw [hstop, setBay_setBay, beginStop_eq]
  simp only [State.awaitReset, State.updBay, bay_setBay_same, setBay_setBay]
  rfl

/-- Settles O36, by the state of the bay and its fault reason. -/
theorem bayReset : Obligations.BayReset := by
  intro s tag h
  refine ⟨fun args ha => request_answers h (by simp [State.takeRequest, State.takeBayReset, ha]), fun b => ?_⟩
  intro x waits
  have await : ∀ t, (s.holding .bayReset tag [finByte b]).takeBayReset [finByte b] = t.holding .bayReset tag [finByte b] →
      waits t := fun t ht => request_waits h ht
  refine ⟨fun hst => ?_, fun hst => ?_, fun hst hf => ⟨?_, ?_⟩, fun hst hf => ?_, fun hst ht => await _ ?_, fun hst hf hr hq => ?_,
    fun cause hst hc hq => ?_⟩
  · exact request_answers h (by simp [State.takeRequest, State.takeBayReset, show (s.bay b).state = .powering from hst])
  · exact request_answers h (by simp [State.takeRequest, State.takeBayReset, show (s.bay b).state = .off from hst, BayState.code])
  · have hst' : (s.bay b).state = .fault := hst
    refine request_answers h ?_
    rcases hf with hf | hf <;> have hf' := (show (s.bay b).faultReason = _ from hf) <;>
      simp [State.takeRequest, State.takeBayReset, hst', hf', BayState.code, State.updBay, x]
  · exact ⟨(toOff_cleared x).1, (toOff_cleared x).2.1, (toOff_cleared x).2.2.1⟩
  · have hst' : (s.bay b).state = .fault := hst
    have hf' : (s.bay b).faultReason = some .lineHeldActive := hf
    exact request_answers h (by
      simp [State.takeRequest, State.takeBayReset, hst', hf', BayState.code, State.updBay, Bay.backToReady, x])
  · have hline : (s.awaitReset b).resetLine b = s.setBay b { x with
        resetReply := some .ok, line := x.line.begins s.time (.reset s.time) } := by
      have htest : ((s.awaitReset b).bay b).tamperOff = false := by rw [State.awaitReset, bay_updBay_same]; exact ht
      rw [State.resetLine, htest]
      simp only [Bool.false_eq_true, if_false, State.awaitReset, updBay_updBay]
      rfl
    rw [← hline]
    have hst' : (s.bay b).state = .ready ∨ ((s.bay b).state = .fault ∧
      ((s.bay b).faultReason = some .echoMismatch ∨ (s.bay b).faultReason = some .lineStuckPassive)) := hst
    have htake : (s.holding .bayReset tag [finByte b]).takeBayReset [finByte b] =
        ((s.holding .bayReset tag [finByte b]).awaitReset b).resetLine b := by
      rcases hst' with hst | ⟨hst, hf | hf⟩
      · simp [State.takeBayReset, hst]
      · simp [State.takeBayReset, hst, hf]
      · simp [State.takeBayReset, hst, hf]
    have hboth : ∀ u : State, ((u.holding .bayReset tag [finByte b]).resetLine b) = (u.resetLine b).holding .bayReset tag [finByte b] :=
      fun u => by unfold State.resetLine; rw [holding_bay]; split <;> rfl
    rw [htake]
    exact hboth (s.awaitReset b)
  · intro t
    have hrun : (s.bay b).isRunning = true := by
      unfold Bay.isRunning; rcases (show (s.bay b).state = _ ∨ (s.bay b).state = _ from hst) with hst | hst <;> rw [hst]
    have hframe : BayFrame b s t := beginStop_onlyBay_frame b .reset none hrun
    have hbay : t.bay b = x.stopping .reset none := beginStop_bay b .reset none s
    refine ⟨hframe.onlyBay, hframe.keys, by rw [hbay]; rfl, by rw [hbay]; rfl, by rw [hbay]; rfl, await _ ?_⟩
    have htake : (s.holding .bayReset tag [finByte b]).takeBayReset [finByte b] =
        State.work [b] (((t.awaitReset b).holding .bayReset tag [finByte b]).cutAndStop b) := by
      have hsame : ((s.holding .bayReset tag [finByte b]).awaitReset b).beginStop b .reset none =
          (t.awaitReset b).holding .bayReset tag [finByte b] :=
        congrArg (fun u : State => u.holding .bayReset tag [finByte b]) (beginStop_awaitReset b .reset none s)
      rcases (show (s.bay b).state = _ ∨ (s.bay b).state = _ from hst) with hst | hst <;>
        simp only [State.takeBayReset, readBay_finByte, holding_bay, hst, hsame]
    have hwait : (t.awaitReset b).bay b = { x.stopping .reset none with resetReply := some .ok } := by
      rw [State.awaitReset, bay_updBay_same, hbay]
    have hcut := cutAndStop_of_owes (s := (t.awaitReset b).holding .bayReset tag [finByte b]) (b := b)
      (by rw [holding_bay, hwait]; exact hr)
      (by rw [holding_bay, hwait]; exact owesReset_of (cause := .reset) rfl nofun nofun (by
            simp [Bay.stopping, Bay.freeReservations, hf]))
    have hnext : ((t.awaitReset b).holding .bayReset tag [finByte b]).updBay b
        (fun x => { x with line := (x.line.cut (t.awaitReset b).time).startReset (t.awaitReset b).time }) =
        (t.updBay b (fun y => { y with
          resetReply := some .ok, line := (y.line.cut s.time).begins s.time (.reset s.time) })).holding .bayReset tag [finByte b] := by
      rw [updBay_holding, State.awaitReset, updBay_updBay]
      rfl
    rw [htake, hcut, holding_time, hnext]
    refine work_still ?_ ((hq.beginStop b .reset none).congr rfl)
    rw [holding_bay, bay_updBay_same, hbay]
    rfl
  · intro batch
    have htake : (s.holding .bayReset tag [finByte b]).takeBayReset [finByte b] =
        State.work [b] ((((s.awaitReset b).updBay b Bay.resetCause).holding .bayReset tag [finByte b]).cutAndStop b) := by
      simp [State.takeBayReset, show (s.bay b).state = .stopping from hst]
      rfl
    have hbatch : (s.awaitReset b).updBay b Bay.resetCause = s.setBay b { x with resetReply := some .ok, batch := batch } := by
      rw [State.awaitReset, updBay_updBay]
      have hcause : batch = { x.batch with
          stopCause := if x.batch.stopCause = some .aborted then some .reset else x.batch.stopCause } := by
        simp only [batch, hc, Option.some.injEq]
        split <;> rfl
      rw [hcause]
      rfl
    refine ⟨fun hr => await _ ?_, fun hr h1 h2 h3 => await _ ?_⟩
    · rw [htake, hbatch, cutAndStop_of_reset (by rw [holding_bay, bay_setBay_same]; exact hr)]
      refine work_still ?_ (hq.congr rfl)
      rw [holding_bay, bay_setBay_same]
      exact not_sends_of_stopping hst
    · have hcut := cutAndStop_of_owes
        (s := (s.setBay b { x with resetReply := some .ok, batch := batch }).holding .bayReset tag [finByte b]) (b := b)
        (by rw [holding_bay, bay_setBay_same]; exact hr)
        (by
          rw [holding_bay, bay_setBay_same]
          refine owesReset_of (cause := if cause = .aborted then .reset else cause) rfl ?_ ?_ h3 <;> split <;> simp_all)
      have hnext : ((s.setBay b { x with resetReply := some .ok, batch := batch }).holding .bayReset tag [finByte b]).updBay b
          (fun x => { x with line := (x.line.cut s.time).startReset s.time }) =
          (s.setBay b { x with
            resetReply := some .ok, batch := batch
            line := (x.line.cut s.time).begins s.time (.reset s.time) }).holding .bayReset tag [finByte b] := by
        rw [updBay_holding, State.updBay, setBay_setBay, bay_setBay_same]
        rfl
      rw [htake, hbatch, hcut]
      refine (congrArg (State.work [b]) hnext).trans (work_still ?_ (hq.congr rfl))
      rw [holding_bay, bay_setBay_same]
      exact not_sends_of_stopping hst

end Sys2Proof.Machine

/-! The end of a stop and of a batch, and the events that act on every bay: RESTART and the tamper response. -/

namespace Sys2Proof.Machine

/-! ### The end of an early stop -/

/-- The bay after its stop, by the cause and the fault reason recorded (R27 to R31). -/
def Bay.afterStop (cause : StopCause) (x : Bay) : Bay :=
  match cause with
  | .restart | .tamper => x.toOff
  | .powerFault => x.toFault .overCurrent
  | .complete | .aborted | .reset | .lineFault =>
    match x.faultReason with
    | some reason => x.toFault reason
    | none => x

section FinishStop
variable (b : BayId) (s : State)

@[simp] theorem raise_bay (f : Flag) : (s.raise f).bay b = s.bay b := bay_of_bays (raise_bays s f) b

@[simp] theorem appendRecord_bay (r : RecordBody) : (s.appendRecord r).bay b = s.bay b := bay_of_bays (by simp) b

@[simp] theorem enterFault_bay (reason : FaultReason) : (s.enterFault b reason).bay b = (s.bay b).toFault reason := by
  simp [State.enterFault]

theorem enterFault_flag (reason : FaultReason) : (s.enterFault b reason).notice.flags.bayFault = true := rfl

@[simp] theorem replyReset_bay : (s.replyReset b).bay b = { s.bay b with resetReply := none } := by
  unfold State.replyReset
  split
  · rw [answer_bay, bay_updBay_same]
  · next h => rw [← h]

theorem replyReset_none {b : BayId} {s : State} (h : (s.bay b).resetReply = none) : s.replyReset b = s := by
  simp [State.replyReset, h]

@[simp] theorem replyReset_notice : (s.replyReset b).notice = s.notice := by
  unfold State.replyReset
  split
  · rw [answer_notice]; rfl
  · rfl

@[simp] theorem afterStop_bay (cause : StopCause) : (s.afterStop b cause).bay b = (s.bay b).afterStop cause := by
  cases cause with
  | restart | tamper | powerFault => simp [State.afterStop, Bay.afterStop]
  | complete | aborted | reset | lineFault => cases h : (s.bay b).faultReason <;> simp [State.afterStop, Bay.afterStop, h]

theorem afterStop_report (cause : StopCause) : (s.afterStop b cause).report = s.report := by
  cases cause with
  | restart | tamper | powerFault => rfl
  | complete | aborted | reset | lineFault => cases h : (s.bay b).faultReason <;> simp [State.afterStop, h]; rfl

/-- The cause with which a stop ends. -/
def Bay.causeOf (x : Bay) : StopCause := x.batch.stopCause.getD .aborted

/-- The record of a stop's end (R26, step 3). -/
def Bay.stopRecord (b : BayId) (x : Bay) : RecordBody := .batchEnd (batchEndRecord b x.batch x.causeOf (endList x.contexts))

/-- The unit once the BATCH_END record of a stop is appended and the table is cleared (R26, steps 3 and 5). -/
def State.stopRecorded (s : State) : State :=
  { (s.appendRecord ((s.bay b).stopRecord b)).updBay b (Bay.endBatch .ready) with cipher := s.cipher.emptyHolders b }

theorem finishStop_eq : s.finishStop b = ((State.stopRecorded b s).afterStop b (s.bay b).causeOf).replyReset b := by
  have hcipher : ((s.appendRecord ((s.bay b).stopRecord b)).updBay b (Bay.endBatch .ready)).cipher = s.cipher := by simp
  unfold State.finishStop State.stopRecorded
  dsimp only
  rw [← hcipher]
  rfl

@[simp] theorem stopRecorded_bay : (State.stopRecorded b s).bay b = (s.bay b).endBatch .ready := by
  have hbay : (State.stopRecorded b s).bay b = ((s.appendRecord ((s.bay b).stopRecord b)).updBay b (Bay.endBatch .ready)).bay b := rfl
  rw [hbay, bay_updBay_same, appendRecord_bay]

/-- The bay when its stop is over (R26, steps 3 and 5). -/
theorem finishStop_bay : (s.finishStop b).bay b =
    { ((s.bay b).endBatch .ready).afterStop (s.bay b).causeOf with resetReply := none } := by
  rw [finishStop_eq, replyReset_bay, afterStop_bay, stopRecorded_bay]

@[simp] theorem replyReset_report : (s.replyReset b).report = s.report := by
  unfold State.replyReset
  split
  · rw [answer_report]; rfl
  · rfl

/-- The end of a stop appends its BATCH_END record and no other (R26, step 3). -/
theorem finishStop_records : (s.finishStop b).report.records = s.report.records ++
    [{ number := nextNumber s.report.recordCounter, time := s.clock, body := (s.bay b).stopRecord b }] := by
  rw [finishStop_eq, replyReset_report, afterStop_report]
  exact appendRecord_records _ s

/-- A stop that ends in FAULT raises BAY_FAULT (R161). -/
theorem finishStop_flag {b : BayId} {s : State} {reason : FaultReason}
    (h : (State.stopRecorded b s).afterStop b (s.bay b).causeOf = (State.stopRecorded b s).enterFault b reason) :
    (s.finishStop b).notice.flags.bayFault = true := by
  rw [finishStop_eq, replyReset_notice, h, enterFault_flag]

end FinishStop

/-! ### Every bay in turn -/

/-- What the changes of bays leave of the rest of the unit. -/
structure UnitFrame (s t : State) : Prop where
  powered : t.powered = s.powered
  started : t.started = s.started
  time : t.time = s.time
  clock : t.clock = s.clock
  enclosure : t.enclosure = s.enclosure
  window : t.window = s.window
  profiles : t.profiles = s.profiles
  keys : t.keys = s.keys
  portA : t.portA = s.portA
  portB : t.portB = s.portB
  batchCounter : t.report.batchCounter = s.report.batchCounter

theorem UnitFrame.refl (s : State) : UnitFrame s s := by constructor <;> rfl

theorem BayFrame.unit {b : BayId} {s t u : State} (h : BayFrame b t u) (k : UnitFrame s t) : UnitFrame s u where
  powered := h.powered.trans k.powered
  started := h.started.trans k.started
  time := h.time.trans k.time
  clock := h.clock.trans k.clock
  enclosure := h.enclosure.trans k.enclosure
  window := h.window.trans k.window
  profiles := h.profiles.trans k.profiles
  keys := h.keys.trans k.keys
  portA := h.portA.trans k.portA
  portB := h.portB.trans k.portB
  batchCounter := h.batchCounter.trans k.batchCounter

/-- Bays changed in turn: each is changed once, from what it was, and the rest of the unit stays. -/
theorem foldl_bays {f : State → BayId → State} (hf : ∀ s b, BayFrame b s (f s b)) {l : List BayId} (hl : l.Nodup) {s t : State}
    (hst : UnitFrame s t) :
    UnitFrame s (l.foldl f t) ∧ (∀ b, b ∉ l → (l.foldl f t).bay b = t.bay b) ∧
      ∀ b ∈ l, ∃ u, UnitFrame s u ∧ u.bay b = t.bay b ∧ (l.foldl f t).bay b = (f u b).bay b := by
  induction l generalizing t with
  | nil => exact ⟨hst, fun _ _ => rfl, nofun⟩
  | cons a rest ih =>
    obtain ⟨hnotin, hrest⟩ := List.nodup_cons.1 hl
    obtain ⟨hunit, hout, hin⟩ := ih hrest ((hf t a).unit hst)
    refine ⟨hunit, fun b hb => ?_, fun b hb => ?_⟩
    · obtain ⟨hne, hb⟩ := not_or.1 (mt List.mem_cons.2 hb)
      exact (hout b hb).trans ((hf t a).bays b hne)
    · by_cases hba : b = a
      · subst hba
        exact ⟨t, hst, rfl, hout b hnotin⟩
      · obtain ⟨u, hu, hbay, heq⟩ := hin b ((List.mem_cons.1 hb).resolve_left hba)
        exact ⟨u, hu, hbay.trans ((hf t a).bays b hba), heq⟩

theorem allBays_nodup : allBays.Nodup := List.nodup_finRange 12

theorem mem_allBays (b : BayId) : b ∈ allBays := List.mem_finRange b

/-- The running batches counted bay by bay. -/
theorem running_eq (s : State) : s.running = allBays.countP (fun b => (s.bay b).isRunning) := by
  have hlist : s.bays.toList = allBays.map s.bay := by
    refine List.ext_getElem (by simp [allBays]) fun i hi hj => ?_
    simp [State.bay, allBays]
  rw [State.running, ← Vector.countP_toList, hlist, List.countP_map]
  rfl

/-! ### RESTART -/

/-- A bay in OFF as RESTART leaves it (R31, R80, R175). -/
structure Bay.Restarted (y : Bay) : Prop where
  state : y.state = .off
  supply : y.supply = false
  tx : y.line.tx = .idle
  rate : y.line.rate = .standard
  loopback : y.line.loopback = false
  contexts : y.contexts = []
  buffers : y.buffers = [.free, .free]

/-- A bay whose transmission RESTART cuts (R175). -/
def Bay.restartCut (now : Nat) (x : Bay) : Bay :=
  { x with line := { x.line.cut now with loopback := false, rate := .standard }, resetReply := none }

@[simp] theorem toOff_batch (x : Bay) : x.toOff.batch = x.batch := by cases hs : x.supply <;> simp [Bay.toOff, Bay.unpower, hs]

/-- Entry to OFF leaves an idle line idle, whether or not it unpowers it (R72). -/
theorem toOff_idle {x : Bay} (htx : x.line.tx = .idle) (hrate : x.line.rate = .standard) (hloop : x.line.loopback = false) :
    x.toOff.line.tx = .idle ∧ x.toOff.line.rate = .standard ∧ x.toOff.line.loopback = false := by
  cases hs : x.supply <;> simp [Bay.toOff, Bay.unpower, LineEnd.unpowered, hs, htx, hrate, hloop, idleLine]

theorem restartBay_bay {s : State} {b : BayId} (h : (s.bay b).state = .off → (s.bay b).supply = false) :
    ((s.restartBay b).bay b).Restarted ∧
      ((s.bay b).isRunning = true → ((s.restartBay b).bay b).batch.stopCause = some .restart) := by
  have hcut : ∀ u : State, u.updBay b (fun x => { x with
    line := { x.line.cut u.time with loopback := false, rate := .standard }, resetReply := none }) =
      u.updBay b (Bay.restartCut u.time) := fun u => rfl
  unfold State.restartBay
  dsimp only
  rw [bay_updBay_same, hcut]
  split
  · next hrun =>
    obtain ⟨y, hy⟩ : ∃ y, y = (((s.bay b).restartCut s.time).stopping .restart none).endBatch .ready := ⟨_, rfl⟩
    have hbay : (((s.updBay b (Bay.restartCut s.time)).beginStop b .restart none).finishStop b).bay b =
        { y.toOff with resetReply := none } := by
      rw [finishStop_bay, beginStop_bay, bay_updBay_same, hy]; rfl
    obtain ⟨hst, -, hsup, -, -⟩ := toOff_cleared y
    obtain ⟨htx, hr, hl⟩ := toOff_idle (x := y) (by rw [hy]; rfl) (by rw [hy]; rfl) (by rw [hy]; rfl)
    rw [hbay]
    exact ⟨⟨hst, hsup, htx, hr, hl, rfl, rfl⟩, fun _ => (congrArg BatchRecord.stopCause (toOff_batch y)).trans (by rw [hy]; rfl)⟩
  · next hrun =>
    refine ⟨?_, fun hrun' => absurd hrun' hrun⟩
    split
    · next hst => rw [bay_updBay_same]; exact ⟨hst, h hst, rfl, rfl, rfl, rfl, rfl⟩
    · rw [updBay_updBay, bay_updBay_same]
      obtain ⟨hst, -, hsup, -, -⟩ := toOff_cleared ((s.bay b).restartCut s.time)
      obtain ⟨htx, hr, hl⟩ := toOff_idle (x := (s.bay b).restartCut s.time) rfl rfl rfl
      exact ⟨hst, hsup, htx, hr, hl, rfl, rfl⟩

/-- RESTART appends one record for each batch that runs (R31). -/
theorem restartBay_records (s : State) (b : BayId) :
    ∃ more, (s.restartBay b).report.records = s.report.records ++ more ∧
      more.length = if (s.bay b).isRunning then 1 else 0 := by
  unfold State.restartBay
  dsimp only
  split
  · exact ⟨_, finishStop_records b _, rfl⟩
  · split <;> exact ⟨[], (List.append_nil _).symm, rfl⟩

theorem foldl_restartBay_records {l : List BayId} (hl : l.Nodup) (s : State) :
    ∃ more, (l.foldl State.restartBay s).report.records = s.report.records ++ more ∧
      more.length = l.countP (fun b => (s.bay b).isRunning) := by
  induction l generalizing s with
  | nil => exact ⟨[], by simp, rfl⟩
  | cons a rest ih =>
    obtain ⟨hnotin, hrest⟩ := List.nodup_cons.1 hl
    obtain ⟨first, hfirst, hone⟩ := restartBay_records s a
    obtain ⟨more, hmore, hlen⟩ := ih hrest (s.restartBay a)
    refine ⟨first ++ more, by rw [List.foldl_cons, hmore, hfirst, List.append_assoc], ?_⟩
    have hcount : rest.countP (fun b => ((s.restartBay a).bay b).isRunning) = rest.countP (fun b => (s.bay b).isRunning) :=
      List.countP_congr fun b hb => by
        rw [(restartBay_path a s).frame.bays b (fun h => hnotin (h ▸ hb))]
    rw [List.length_append, hlen, hone, hcount, List.countP_cons]
    omega

/-- A link that RESTART started afresh: nothing is received, queued or sent, whether or not a notice is asked for (R175). -/
def Link.afresh (l : Link) : Prop := ∃ wanted, l = { coldLink with noticeWanted := wanted }

theorem BayMove.afresh {b : BayId} {s t : State} (h : BayMove b s t) (hs : s.link.afresh) : t.link.afresh := by
  have hraise : ∀ (f : Flag) (u : State), u.link.afresh → (u.raise f).link.afresh := fun f u hu => by
    obtain ⟨w, hu⟩ := hu
    unfold State.raise
    dsimp only
    split
    · exact ⟨true, by rw [hu]⟩
    · exact ⟨w, hu⟩
  cases h with
  | bay | cipher | waits => exact hs
  | close body y => exact hraise .records _ hs
  | append body => exact hraise .records _ hs
  | raise f => exact hraise f s hs
  | answer code contents =>
    obtain ⟨w, hw⟩ := hs
    rw [answer_other code contents (by rw [hw]; nofun)]
    exact ⟨w, hw⟩

theorem foldl_restartBay_afresh (l : List BayId) {s : State} (hs : s.link.afresh) : (l.foldl State.restartBay s).link.afresh := by
  induction l generalizing s with
  | nil => exact hs
  | cons b rest ih => exact ih ((restartBay_path b s).keeps (P := fun s => s.link.afresh) (fun _ _ => BayMove.afresh) hs)

/-- The first frame after a RESTART is the notice (R163). -/
theorem beginFrame_startNotice {s : State} (h : s.link.afresh) (tamper : Bool) :
    (s.startNotice tamper).beginFrame =
      { s.startNotice tamper with link := { coldLink with sending := some (.notice (s.startNotice tamper).noticeBody) } } := by
  obtain ⟨w, hw⟩ := h
  simp [State.beginFrame, State.startNotice, hw, coldLink]

/-- The reply of an accepted RESTART, sent to its last byte, restarts the unit (R175). -/
theorem frameSent_restart {s : State} {tag : Byte} {r : Request} {rest : List Request}
    (hs : s.link.sending = some (.reply tag [0x00#8])) (hq : s.link.queue = r :: rest) (hr : r.code = 0x18#8) :
    s.frameSent = s.restart := by
  have hsent : s.link.restartSent = true := by simp [Link.restartSent, hs, hq, hr, RequestCode.code, ResultCode.code]
  unfold State.frameSent
  rw [hs]
  dsimp only
  rw [if_pos hsent]

/-- Settles O41: the request is answered at once; after its reply every bay is restarted in turn. -/
theorem restartTakesPlace : Obligations.RestartTakesPlace := by
  refine ⟨fun s tag h => ⟨request_answers h rfl, fun args ha => ?_⟩, fun s tag r rest hp hsup hs hq hr => ?_⟩
  · obtain ⟨a, more, rfl⟩ := List.exists_cons_of_ne_nil ha
    exact request_answers h rfl
  obtain ⟨s1, hs1⟩ : ∃ s1, s1 = allBays.foldl State.restartBay { s with link := coldLink } := ⟨_, rfl⟩
  obtain ⟨s2, hs2⟩ : ∃ s2 : State, s2 = { s1 with
    cipher := s1.cipher.flush, portA := s1.portA.fresh s.time, portB := s1.portB.fresh s.time, window := none } := ⟨_, rfl⟩
  have hrestart : s.restart = s2.startNotice false := by rw [hs2, hs1]; rfl
  have hfresh : s1.link.afresh := hs1 ▸ foldl_restartBay_afresh allBays ⟨false, rfl⟩
  have hbegin := beginFrame_startNotice (s := s2) (by rw [hs2]; exact hfresh) false
  obtain ⟨hunit, -, hbays⟩ := foldl_bays (f := State.restartBay) (fun s b => (restartBay_path b s).frame) allBays_nodup
    (UnitFrame.refl { s with link := coldLink })
  rw [← hs1] at hunit hbays
  obtain ⟨more, hmore, hlen⟩ := foldl_restartBay_records allBays_nodup { s with link := coldLink }
  rw [← hs1] at hmore
  have hrecords : s2.report.records = s.report.records ++ more := by rw [hs2]; exact hmore
  refine ⟨_, (event_powered _ hp).trans (by rw [frameSent_restart hs hq hr, hrestart, hbegin]), rfl, rfl, rfl, rfl, rfl, rfl, ?_, ?_,
    ?_, ?_, ?_, ?_, ?_, ?_, ?_, ?_, ?_, fun b => ?_⟩
  · rw [hs2]; rfl
  · rw [hs2]; rfl
  · rw [hs2]; exact congrArg (fun q : Port => (q.fresh s.time).state) hunit.portA
  · rw [hs2]; exact congrArg (fun q : Port => (q.fresh s.time).state) hunit.portB
  · rw [hs2]; exact hunit.profiles
  · rw [hs2]; exact hunit.keys
  · rw [hs2]; exact hunit.enclosure
  · rw [hs2]; exact hunit.clock
  · rw [hs2]; exact hunit.batchCounter
  · have hcount : more.length = s.running := hlen.trans (running_eq s).symm
    exact (congrArg List.length hrecords).trans (by rw [List.length_append, hcount])
  · exact ⟨more, hrecords.symm⟩
  · obtain ⟨u, -, hu, hb⟩ := hbays b (mem_allBays b)
    have hb2 : s2.bay b = (u.restartBay b).bay b := by rw [← hb, hs2]; rfl
    have hu' : u.bay b = s.bay b := hu
    have hoff : (u.bay b).state = .off → (u.bay b).supply = false := fun hst => by
      rw [hu'] at hst ⊢
      rw [(hsup b).1, Bay.supplyExpected, hst]
    obtain ⟨hr, hcause⟩ := restartBay_bay hoff
    rw [← hb2] at hr hcause
    rw [hu'] at hcause
    exact ⟨hr.state, hr.supply, hr.tx, hr.rate, hr.loopback, hr.contexts, hr.buffers, hcause⟩

end Sys2Proof.Machine

/-! The tamper response of the whole unit, in the event in which the latch is set. -/

namespace Sys2Proof.Machine

/-! ### What the response keeps -/

/-- A bay's change only appends records. -/
theorem BayMove.records_prefix {b : BayId} {s t : State} (h : BayMove b s t) : s.report.records <+: t.report.records := by
  cases h with
  | bay | cipher | waits => exact List.prefix_rfl
  | close body y => exact ⟨_, (appendRecord_records body s).symm⟩
  | append body => exact ⟨_, (appendRecord_records body s).symm⟩
  | raise f => rw [raise_report]
  | answer code contents => rw [answer_report]

theorem BayPath.records_prefix {b : BayId} {s t : State} (h : BayPath b s t) : s.report.records <+: t.report.records :=
  h.keeps (P := fun u => s.report.records <+: u.report.records) (fun _ _ hm hs => hs.trans hm.records_prefix) List.prefix_rfl

theorem raise_tamper (f : Flag) {s : State} (h : s.notice.flags.tamper = true) : (s.raise f).notice.flags.tamper = true := by
  cases f <;> simp [State.raise, Flags.raise, h]

/-- A bay's change lowers no flag (R161). -/
theorem BayMove.tamper_flag {b : BayId} {s t : State} (h : BayMove b s t) (hs : s.notice.flags.tamper = true) :
    t.notice.flags.tamper = true := by
  cases h with
  | bay | cipher | waits => exact hs
  | close body y => exact raise_tamper .records (s := _) hs
  | append body => exact raise_tamper .records (s := _) hs
  | raise f => exact raise_tamper f hs
  | answer code contents => rwa [answer_notice]

/-! ### The cipher unit stays flushed -/

theorem withdraw_cold (p : CipherJob → Bool) : coldCipher.withdraw p = coldCipher := by
  rw [Cipher.withdraw]; exact examine_nil rfl

theorem emptyHolders_cold (b : BayId) : coldCipher.emptyHolders b = coldCipher := by
  have hsame : (Vector.replicate 12 (Vector.replicate 4 (none : Option Key))).set b.val (Vector.replicate 4 none) =
      Vector.replicate 12 (Vector.replicate 4 none) := by
    ext i hi : 1
    simp
  exact congrArg (fun h => { coldCipher with holders := h }) hsame

@[simp] theorem replyReset_cipher (b : BayId) (s : State) : (s.replyReset b).cipher = s.cipher := by
  unfold State.replyReset
  split
  · rw [answer_cipher]; rfl
  · rfl

theorem finishStop_cipher (b : BayId) (s : State) : (s.finishStop b).cipher = s.cipher.emptyHolders b := by
  have hafter : ∀ (cause : StopCause) (u : State), (u.afterStop b cause).cipher = u.cipher := fun cause u => by
    cases cause with
    | restart | tamper | powerFault => rfl
    | complete | aborted | reset | lineFault => cases h : (u.bay b).faultReason <;> simp [State.afterStop, h]; rfl
  rw [finishStop_eq, replyReset_cipher, hafter]
  rfl

theorem cutAndStop_cold {b : BayId} {s : State} (h : s.cipher = coldCipher) : (s.cutAndStop b).cipher = coldCipher := by
  unfold State.cutAndStop
  split
  · exact h
  unfold State.proceedStop
  split
  · exact h
  · rw [finishStop_cipher]
    exact (congrArg (fun c : Cipher => c.emptyHolders b) h).trans (emptyHolders_cold b)

theorem tamperIdleBay_cipher (b : BayId) (s : State) : (s.tamperIdleBay b).cipher = s.cipher := by
  unfold State.tamperIdleBay
  split
  · rfl
  · rfl
  · rfl
  · rfl
  · rw [replyReset_cipher]; rfl

theorem tamperTest_cipher (b : BayId) (s : State) : (s.tamperTest b).cipher = s.cipher := by
  unfold State.tamperTest
  split
  · rw [answer_cipher]; rfl
  · rfl

theorem tamperBay_cold {b : BayId} {s : State} (h : s.cipher = coldCipher) : (s.tamperBay b).cipher = coldCipher := by
  have htest : (s.tamperTest b).cipher = coldCipher := (tamperTest_cipher b s).trans h
  unfold State.tamperBay
  dsimp only
  split
  · exact cutAndStop_cold ((congrArg (fun c : Cipher => c.withdraw (fun j => j.bay == some b)) htest).trans (withdraw_cold _))
  · rw [tamperIdleBay_cipher]; exact htest

/-! ### A bay under the response -/

/-- A bay as the tamper response leaves it: in OFF without supply, or sending the line reset that ends there (R31, R81). -/
structure Bay.Tampered (y : Bay) : Prop where
  buffers : y.buffers = [.free, .free]
  ends : (y.state = .off ∧ y.supply = false) ∨
    y.line.tx.isReset = true ∧ ((y.state = .stopping ∧ y.batch.stopCause = some .tamper) ∨ y.tamperOff = true)

theorem toOff_tampered {x : Bay} (h : x.buffers = [.free, .free]) : ({ x.toOff with resetReply := none } : Bay).Tampered := by
  refine ⟨?_, .inl ⟨(toOff_cleared x).1, (toOff_cleared x).2.2.1⟩⟩
  cases hs : x.supply <;> simpa [Bay.toOff, Bay.unpower, hs] using h

/-- The stop of a batch under the response (R31). -/
theorem stop_tampered {b : BayId} {s : State} (h : (s.bay b).buffers = [.free, .free]) :
    (((s.beginStop b .tamper none).cutAndStop b).bay b).Tampered := by
  have hstop : ((s.bay b).stopping .tamper none).buffers = [.free, .free] := by
    simp [Bay.stopping, Bay.freeReservations, h]
  unfold State.cutAndStop
  split
  · next htx =>
    rw [beginStop_bay] at htx ⊢
    exact ⟨hstop, .inr ⟨by rw [htx]; rfl, .inl ⟨rfl, rfl⟩⟩⟩
  · unfold State.proceedStop
    split
    · rw [updBay_updBay, bay_updBay_same, beginStop_bay]
      exact ⟨hstop, .inr ⟨rfl, .inl ⟨rfl, rfl⟩⟩⟩
    · rw [finishStop_bay, bay_updBay_same, beginStop_bay]
      exact toOff_tampered rfl

/-- A bay without a batch under the response (R81). -/
theorem idle_tampered {b : BayId} {s : State} (h : (s.bay b).buffers = [.free, .free])
    (hoff : (s.bay b).state = .off → (s.bay b).supply = false) : ((s.tamperIdleBay b).bay b).Tampered := by
  have hreset : ((s.bay b).tamperReset s.time).Tampered := by
    unfold Bay.tamperReset
    split
    · next htx => exact ⟨h, .inr ⟨by rw [htx]; rfl, .inr rfl⟩⟩
    · exact ⟨h, .inr ⟨rfl, .inr rfl⟩⟩
  unfold State.tamperIdleBay
  split
  · next hst => exact ⟨h, .inl ⟨hst, hoff hst⟩⟩
  · rwa [bay_updBay_same]
  · rwa [bay_updBay_same]
  · rwa [bay_updBay_same]
  · rw [replyReset_bay, bay_updBay_same]
    exact toOff_tampered h

theorem tamperBay_bay {b : BayId} {s : State} (hoff : (s.bay b).state = .off → (s.bay b).supply = false) :
    ((s.tamperBay b).bay b).Tampered := by
  have hstate := tamperTest_state b s
  have hsupply : ((s.tamperTest b).bay b).supply = (s.bay b).supply := by
    unfold State.tamperTest
    split
    · rw [answer_bay, bay_updBay_same]
    · rfl
  unfold State.tamperBay
  dsimp only
  split
  · exact stop_tampered (by rw [bay_updBay_same])
  · refine idle_tampered (by rw [bay_updBay_same]) ?_
    rw [bay_updBay_same]
    exact fun hst => hsupply.trans (hoff (hstate.symm.trans hst))

/-! ### The whole response -/

theorem tamperPorts_eq (s : State) : ∃ notice link,
    s.tamperPorts = { s with portA := s.portA.fresh s.time, portB := s.portB.fresh s.time, notice := notice, link := link } ∧
      (s.notice.flags.tamper = true → notice.flags.tamper = true) := by
  unfold State.tamperPorts
  dsimp only
  split
  · exact ⟨_, _, rfl, fun h => by simp [Flags.raise, h]⟩
  · exact ⟨_, _, rfl, id⟩

section Core
variable (s : State)

theorem emptyKeys_portA : s.emptyKeys.portA = s.portA := by
  unfold State.emptyKeys; simp only [setSlots_portA]; split <;> simp

theorem emptyKeys_portB : s.emptyKeys.portB = s.portB := by
  unfold State.emptyKeys; simp only [setSlots_portB]; split <;> simp

theorem emptyKeys_time : s.emptyKeys.time = s.time := by
  unfold State.emptyKeys; simp only [setSlots_time]; split <;> simp

theorem emptyKeys_clock : s.emptyKeys.clock = s.clock := by
  unfold State.emptyKeys; simp only [setSlots_clock]; split <;> simp

theorem emptyKeys_notice : s.emptyKeys.notice = s.notice := by
  unfold State.emptyKeys; simp only [setSlots_notice]; split <;> simp

theorem tamperCore_enclosure : s.tamperCore.enclosure = s.enclosure.setLatch true := by
  simp [State.tamperCore, emptyKeys_enclosure]

theorem tamperCore_portA : s.tamperCore.portA = s.portA := by simp [State.tamperCore, emptyKeys_portA]

theorem tamperCore_portB : s.tamperCore.portB = s.portB := by simp [State.tamperCore, emptyKeys_portB]

theorem tamperCore_time : s.tamperCore.time = s.time := by simp [State.tamperCore, emptyKeys_time]

theorem tamperCore_clock : s.tamperCore.clock = s.clock := by simp [State.tamperCore, emptyKeys_clock]

theorem tamperCore_flag : s.tamperCore.notice.flags.tamper = true := by
  simp [State.tamperCore, emptyKeys_notice, State.raise, Flags.raise]

theorem tamperResponse_eq : s.tamperResponse = allBays.foldl State.tamperBay s.tamperCore.tamperPorts := rfl

end Core

theorem foldl_tamperBay_keeps {P : State → Prop} (hP : ∀ s b, P s → P (s.tamperBay b)) (l : List BayId) {s : State} (hs : P s) :
    P (l.foldl State.tamperBay s) := by
  induction l generalizing s with
  | nil => exact hs
  | cons b rest ih => exact ih (hP s b hs)

theorem inputActive_eq {s : State} {i : EnclosureInput} (hl : s.latched = false) (hi : s.enclosure.input i = false) :
    s.inputActive i = ({ s with enclosure := s.enclosure.setInput i true } : State).tamperResponse := by
  unfold State.inputActive
  rw [hi, hl]
  rfl

/-- Settles O40: the latch, the stores and the ports at once, then every bay in turn. -/
theorem tamperResponse : Obligations.TamperResponse := by
  intro s i hp hsup hl hi
  obtain ⟨s0, hs0⟩ : ∃ s0 : State, s0 = { s with enclosure := s.enclosure.setInput i true } := ⟨_, rfl⟩
  obtain ⟨notice, link, hports, hflag⟩ := tamperPorts_eq s0.tamperCore
  obtain ⟨s1, hs1⟩ : ∃ s1, s1 = s0.tamperCore.tamperPorts := ⟨_, rfl⟩
  obtain ⟨t, ht⟩ : ∃ t, t = allBays.foldl State.tamperBay s1 := ⟨_, rfl⟩
  have hexec : exec (.enclosureInputActive i) s = .next t.beginFrame := by
    rw [ht, hs1, hs0, ← tamperResponse_eq, ← inputActive_eq hl hi]
    exact event_powered _ hp
  rw [hports] at hs1
  obtain ⟨hunit, -, hbays⟩ := foldl_bays (f := State.tamperBay) (fun s b => (tamperBay_path b s).frame) allBays_nodup (UnitFrame.refl s1)
  rw [← ht] at hunit hbays
  have hcipher : t.cipher = coldCipher := ht ▸ foldl_tamperBay_keeps (P := fun u => u.cipher = coldCipher)
    (fun _ _ h => tamperBay_cold h) allBays (by rw [hs1]; rfl)
  have htamper : t.notice.flags.tamper = true := ht ▸ foldl_tamperBay_keeps (P := fun u => u.notice.flags.tamper = true)
    (fun u b h => (tamperBay_path b u).keeps (P := fun u => u.notice.flags.tamper = true) (fun _ _ hm => hm.tamper_flag) h) allBays
    (by rw [hs1]; exact hflag (tamperCore_flag s0))
  have hrecords : s1.report.records <+: t.report.records := ht ▸ foldl_tamperBay_keeps
    (P := fun u => s1.report.records <+: u.report.records) (fun u b h => h.trans (tamperBay_path b u).records_prefix) allBays
    List.prefix_rfl
  have hreport : s1.report = s.report := by rw [hs1]; exact (tamperCore_report s0).trans (by rw [hs0])
  have henclosure : t.enclosure = (s.enclosure.setInput i true).setLatch true := by
    rw [hunit.enclosure, hs1]; exact (tamperCore_enclosure s0).trans (by rw [hs0])
  have hport : ∀ q : Port, (q.fresh s0.tamperCore.time).state = if q.contact then .settling s.time else .empty := fun q => by
    rw [tamperCore_time, hs0]; rfl
  refine ⟨_, hexec, ?_, ?_, ?_, fun k => ?_, ?_, ?_, ?_, ?_, ?_, ?_, ?_, ?_, ?_, ?_, fun b => ?_⟩
  · rw [State.latched, beginFrame_enclosure, henclosure, latched_setLatch]
  · rw [beginFrame_enclosure, henclosure]; cases i <;> rfl
  · rw [beginFrame_enclosure, henclosure]; cases i <;> rfl
  · have hslot : t.slot k = s0.tamperCore.slot k := by rw [State.slot, hunit.keys, hs1]; rfl
    rw [State.slot, beginFrame_keys]
    exact hslot.trans ((tamperCore_slot s0 k).trans (by rw [hs0]; rfl))
  · rw [beginFrame_keys, hunit.keys, hs1]; rfl
  · rw [beginFrame_cipher, hcipher]
  · rw [beginFrame_window, hunit.window, hs1]; rfl
  · rw [beginFrame_portA, hunit.portA, hs1]
    exact (congrArg (fun q : Port => (q.fresh s0.tamperCore.time).state) (tamperCore_portA s0)).trans ((hport _).trans (by rw [hs0]))
  · rw [beginFrame_portB, hunit.portB, hs1]
    exact (congrArg (fun q : Port => (q.fresh s0.tamperCore.time).state) (tamperCore_portB s0)).trans ((hport _).trans (by rw [hs0]))
  · rw [beginFrame_notice, htamper]
  · rw [beginFrame_profiles, hunit.profiles, hs1]; exact (tamperCore_profiles s0).trans (by rw [hs0])
  · rw [beginFrame_clock, hunit.clock, hs1]; exact (tamperCore_clock s0).trans (by rw [hs0])
  · rw [beginFrame_report, hunit.batchCounter, hreport]
  · rw [beginFrame_report, ← hreport]; exact hrecords
  · obtain ⟨u, -, hu, hb⟩ := hbays b (mem_allBays b)
    have hu' : u.bay b = s.bay b := hu.trans (by
      rw [hs1]; exact (bay_of_bays (tamperCore_bays s0) b).trans (by rw [hs0]; rfl))
    have hy := tamperBay_bay (s := u) (b := b) fun hst => by
      rw [hu'] at hst ⊢; rw [(hsup b).1, Bay.supplyExpected, hst]
    have hbay : t.beginFrame.bay b = (u.tamperBay b).bay b := (bay_of_bays (beginFrame_bays t) b).trans hb
    rw [hbay]
    exact ⟨hy.buffers, hy.ends⟩

end Sys2Proof.Machine

/-! The station link: the arrival of a request, the end of an outgoing frame, and the bytes received. -/

namespace Sys2Proof.Machine

/-! ### Requests that queue, and the head that follows a reply -/

/-- Every command that names a request is its arrival (R168). -/
theorem exec_requestOf {c : RequestCode} {tag : Byte} {args : List Byte} {i : Instr} (h : requestOf c tag args = some i)
    (s : State) : exec i s = request c tag args s := by
  cases c
  case bayPower =>
    simp only [requestOf] at h
    split at h
    · next b setting =>
      split at h
      · next hs => obtain rfl := Option.some.inj h; rw [hs]; rfl
      · split at h
        · next hs => obtain rfl := Option.some.inj h; rw [hs]; rfl
        · exact absurd h nofun
    · exact absurd h nofun
  all_goals (obtain rfl := Option.some.inj h; rfl)

/-- The head of the queue given to its owner (R171, R176). -/
theorem giveHead_given {s : State} {q : Request} {more : List Request} {c : RequestCode} (hstarted : s.started = true)
    (hhead : s.link.head = .notGiven) (hq : s.link.queue = q :: more) (hc : q.code = c.code) :
    s.giveHead = ({ s with link := { s.link with head := .withOwner } } : State).takeRequest c q.args := by
  simp [State.giveHead, hstarted, hhead, hq, hc]

theorem giveHead_empty {s : State} (h : s.link.queue = []) : s.giveHead = s := by
  unfold State.giveHead
  split
  · next hq => simp [h] at hq
  · rfl

/-- A reply other than RESTART's, sent to its last byte: its request leaves the queue (R170, R172). -/
theorem frameSent_reply {s : State} {tag : Byte} {body : List Byte} {r : Request} {rest : List Request}
    (hs : s.link.sending = some (.reply tag body)) (hq : s.link.queue = r :: rest) (hr : r.code ≠ 0x18#8) :
    s.frameSent = ({ s with link := { s.link with sending := none, queue := rest, head := .notGiven } } : State).giveHead := by
  have hrestart : s.link.restartSent = false := by simp [Link.restartSent, hs, hq, RequestCode.code, hr]
  unfold State.frameSent
  rw [hs]
  dsimp only
  rw [if_neg (by simp [hrestart]), hq]
  rfl

/-- Settles O45: the queue and the reject list at their bounds, the end of each kind of frame, and the arbiter's order. -/
theorem outgoingFrameSent : Obligations.OutgoingFrameSent := by
  refine ⟨fun s c tag args i hp hi => ⟨fun hfull => ?_, fun hroom hhead => ?_, fun hfull => ?_⟩, fun s hp =>
    ⟨fun body hs => ?_, fun tag code hs => ?_, fun tag body r hs hq hr => ?_, fun tag body r c tag' args i hs hst hr hq hi => ?_,
      fun tag body r q c more hs hst hr hq hc => ?_, fun hs => ⟨fun hn => ?_, fun hn => ⟨fun tag code rest hw => ?_, fun tag body rest hw => ?_⟩⟩⟩⟩
  · rw [exec_requestOf hi, request, event_powered _ hp]
    exact congrArg (fun t : State => Host.Outcome.next t.beginFrame) (if_pos hfull)
  · rw [exec_requestOf hi, request, event_powered _ hp]
    have harrives : State.requestArrives tag c.code args s =
        ({ s with link := { s.link with queue := s.link.queue ++ [{ tag := tag, code := c.code, args := args }] } } : State).giveHead :=
      if_neg (by simpa [Config.requestPlaces] using hroom)
    exact congrArg (fun t : State => Host.Outcome.next t.beginFrame) (harrives.trans (giveHead_of_givesNone (.inr hhead)))
  · rcases placeReject_cases tag .busy s with ⟨hlt, -⟩ | ⟨-, h⟩
    · omega
    · exact h
  · exact (event_powered _ hp).trans (by simp [State.frameSent, hs])
  · exact (event_powered _ hp).trans (by simp [State.frameSent, hs])
  · exact (event_powered _ hp).trans (by rw [frameSent_reply hs hq hr, giveHead_empty rfl])
  · refine ⟨_, (exec_requestOf hi _).trans (event_powered _ hp), (event_powered _ hp).trans ?_⟩
    rw [frameSent_reply hs hq hr]
    rfl
  · exact (event_powered _ hp).trans (congrArg (fun t : State => Host.Outcome.next t.beginFrame)
      ((frameSent_reply hs hq hr).trans (giveHead_given hst rfl rfl hc)))
  · simp [State.beginFrame, hs, hn, State.noticeBody]
  · simp [State.beginFrame, hs, hn, hw]
  · simp [State.beginFrame, hs, hn, hw]

/-! ### The receive assembler -/

/-- A byte received by itself. -/
theorem exec_byte {s : State} (hp : s.powered = true) (x : Byte) :
    exec (.stationByteReceived x) s = .next (s.receiveByte x).beginFrame :=
  (event_powered _ hp).trans (congrArg _ (beginFrame_beginFrame _))

theorem frameLength_pair (x y : Byte) (rest : List Byte) : frameLength (x :: y :: rest) = x.toNat * 256 + y.toNat := by
  simp [frameLength, beNat]

/-- The second byte of a length (R167). -/
theorem receiveByte_length {s : State} {x : Byte} (h : s.link.assembler = .assembling [x]) (y : Byte) :
    s.receiveByte y =
      if x.toNat * 256 + y.toNat < 2 ∨ 514 < x.toNat * 256 + y.toNat then (s.setAssembler .hunting).placeReject 0x00#8 .frameLength
      else s.setAssembler (.assembling [x, y]) := by
  unfold State.receiveByte
  rw [h]
  simp [frameLength_pair]

/-- A byte of a frame whose length is known (R167). -/
theorem receiveByte_body {s : State} {held : List Byte} (h : s.link.assembler = .assembling held) (hlen : 2 ≤ held.length) (y : Byte) :
    s.receiveByte y =
      if frameLength (held ++ [y]) + 4 ≤ held.length + 1 then (s.setAssembler .hunting).judgeFrame (held ++ [y])
      else s.setAssembler (.assembling (held ++ [y])) := by
  unfold State.receiveByte
  rw [h]
  dsimp only
  rw [List.length_append, List.length_singleton, if_neg (by omega), if_neg (by omega)]

/-- A frame that is no known request is rejected UNKNOWN_KIND (R168). -/
theorem judgeFrame_unknown {s : State} {bytes : List Byte} (hcrc : crc16 bytes = 0x0000#16)
    (h : bytes.getD 2 0x00#8 ≠ requestKind ∨ (bytes.drop 4).take (bytes.length - 6) = [] ∨
      ∃ code more, (bytes.drop 4).take (bytes.length - 6) = code :: more ∧ RequestCode.ofByte code = none) :
    s.judgeFrame bytes = s.placeReject (bytes.getD 3 0x00#8) .unknownKind := by
  unfold State.judgeFrame
  dsimp only
  rw [if_neg (by simpa using hcrc)]
  by_cases hk : bytes.getD 2 0x00#8 ≠ requestKind
  · rw [if_pos hk]
  · rw [if_neg hk]
    rcases h.resolve_left hk with h | ⟨code, more, h, hno⟩
    · rw [h]
    · rw [h]
      dsimp only
      rw [hno]
      rfl

/-- Settles O44, by what the assembler holds. -/
theorem receiveAssembler : Obligations.ReceiveAssembler := by
  intro s hp
  refine ⟨fun ha x => ?_, fun x y ha => ⟨fun hbad => ?_, fun hlo hhi => ?_⟩, fun n1 n0 kind tag rest last ha hlen hmin => ?_,
    event_powered _ hp⟩
  · rw [exec_byte hp]
    by_cases hx : x = 0xC3#8 <;> simp [State.receiveByte, ha, hx, State.setAssembler]
  · refine (exec_byte hp y).trans ?_
    rw [receiveByte_length ha, if_pos hbad]
    rfl
  · rw [exec_byte hp, receiveByte_length ha, if_neg (by omega)]
    rfl
  · intro t frame
    have hframe : s.receiveByte last = t.judgeFrame frame := by
      rw [receiveByte_body ha (by simp)]
      simp only [List.cons_append, List.nil_append, frameLength_pair]
      rw [if_pos (by simp; omega)]
      rfl
    have htag : frame.getD 3 0x00#8 = tag := rfl
    refine ⟨fun hcrc => ?_, fun hcrc hbad => ?_⟩
    · rw [exec_byte hp, hframe, judgeFrame_of_crc16_ne t hcrc, htag]
    · rw [exec_byte hp, hframe, judgeFrame_unknown hcrc ?_, htag]
      have hcount : frame.length - 6 = rest.length - 1 := by simp [frame]
      have hbody : (frame.drop 4).take (frame.length - 6) = (rest ++ [last]).take (rest.length - 1) := by rw [hcount]; rfl
      rw [hbody]
      rcases hbad with hkind | hone | ⟨code, more, hne, rfl, hno⟩
      · exact .inl hkind
      · exact .inr (.inl (by rw [hone]; rfl))
      · obtain ⟨m, ms, rfl⟩ := List.exists_cons_of_ne_nil hne
        exact .inr (.inr ⟨code, _, rfl, hno⟩)

/-! ### A frame received whole -/

/-- The outgoing direction has nothing to begin: it is sending, or nothing waits (R172). -/
def Link.settledOut (l : Link) : Prop := l.sending.isSome = true ∨ (l.waiting = [] ∧ l.noticeWanted = false)

theorem beginFrame_settled {s : State} (h : s.link.settledOut) : s.beginFrame = s := by
  rcases h with h | ⟨hw, hn⟩
  · exact beginFrame_sending h
  · cases hs : s.link.sending <;> simp [State.beginFrame, hs, hn, hw]

/-- The bytes of a frame before its last one are gathered (R167). -/
theorem receiveBytes_body {s : State} {held rest : List Byte} (hout : s.link.settledOut) (hheld : 2 ≤ held.length)
    (hlen : held.length + rest.length < frameLength held + 4) :
    (s.setAssembler (.assembling held)).receiveBytes rest = s.setAssembler (.assembling (held ++ rest)) := by
  induction rest generalizing held with
  | nil => rw [List.append_nil]; rfl
  | cons y ys ih =>
    have hfirst : frameLength (held ++ [y]) = frameLength held := by
      rw [frameLength, List.take_append_of_le_length hheld]; rfl
    have hbyte : (s.setAssembler (.assembling held)).receiveByte y = s.setAssembler (.assembling (held ++ [y])) := by
      rw [receiveByte_body (s := s.setAssembler (.assembling held)) rfl hheld, hfirst]
      simp only [List.length_cons] at hlen
      rw [if_neg (by omega)]
      rfl
    have hstill : (s.setAssembler (.assembling (held ++ [y]))).beginFrame = s.setAssembler (.assembling (held ++ [y])) :=
      beginFrame_settled (s := s.setAssembler _) hout
    rw [receiveBytes_cons, hbyte, hstill, ih (by simp; omega) (by
      rw [hfirst]; simp only [List.length_append, List.length_cons, List.length_nil] at hlen ⊢; omega)]
    simp

theorem receiveBytes_append (xs ys : List Byte) (s : State) : s.receiveBytes (xs ++ ys) = (s.receiveBytes xs).receiveBytes ys :=
  List.foldl_append

/-- A frame received from its start byte on is judged when its last byte is (R167, R168). -/
theorem receiveBytes_frame {s : State} {n1 n0 last : Byte} {mid : List Byte} (hunting : s.link.assembler = .hunting)
    (hout : s.link.settledOut) (hlen : n1.toNat * 256 + n0.toNat + 1 = mid.length) (hmin : 3 ≤ mid.length) (hmax : mid.length ≤ 515) :
    s.receiveBytes (0xC3#8 :: n1 :: n0 :: (mid ++ [last])) =
      ((s.setAssembler .hunting).judgeFrame (n1 :: n0 :: (mid ++ [last]))).beginFrame := by
  have hstill : ∀ a, (s.setAssembler a).beginFrame = s.setAssembler a := fun a => beginFrame_settled (s := s.setAssembler a) hout
  have hstart : s.receiveByte 0xC3#8 = s.setAssembler (.assembling []) := by simp [State.receiveByte, hunting]
  have hn1 : (s.setAssembler (.assembling [])).receiveByte n1 = s.setAssembler (.assembling [n1]) := rfl
  have hn0 : (s.setAssembler (.assembling [n1])).receiveByte n0 = s.setAssembler (.assembling [n1, n0]) := by
    rw [receiveByte_length (s := s.setAssembler (.assembling [n1])) rfl, if_neg (by omega)]; rfl
  have hmid : (s.setAssembler (.assembling [n1, n0])).receiveBytes mid = s.setAssembler (.assembling (n1 :: n0 :: mid)) :=
    receiveBytes_body hout (by simp) (by rw [frameLength_pair, List.length_cons, List.length_singleton]; omega)
  have hlast : (s.setAssembler (.assembling (n1 :: n0 :: mid))).receiveByte last =
      (s.setAssembler .hunting).judgeFrame (n1 :: n0 :: (mid ++ [last])) := by
    rw [receiveByte_body (s := s.setAssembler (.assembling (n1 :: n0 :: mid))) rfl (by simp)]
    simp only [List.cons_append, frameLength_pair, List.length_cons]
    rw [if_pos (by omega)]
    rfl
  rw [receiveBytes_cons, hstart, hstill, receiveBytes_cons, hn1, hstill, receiveBytes_cons, hn0, hstill, receiveBytes_append, hmid,
    receiveBytes_cons, hlast]
  rfl

/-- A well-formed request frame received from its start byte on is the arrival of its request (R165 to R168; log 2). -/
theorem receiveBytes_request {s : State} (c : RequestCode) (tag : Byte) {args : List Byte} (hunting : s.link.assembler = .hunting)
    (hout : s.link.settledOut) (hargs : args.length ≤ 511) :
    s.receiveBytes (linkFrameBytes 0x01#8 tag (c.code :: args)) =
      ((s.setAssembler .hunting).requestArrives tag c.code args).beginFrame := by
  obtain ⟨n, hn⟩ : ∃ n, n = (c.code :: args).length + 2 := ⟨_, rfl⟩
  obtain ⟨n1, n0, hlength⟩ : ∃ n1 n0, beBytes 2 n = [n1, n0] := List.length_eq_two.1 (length_beBytes 2 n)
  have hvalue : n1.toNat * 256 + n0.toNat = n := by
    have hbe := beNat_beBytes 2 n
    rw [hlength] at hbe
    rw [List.length_cons] at hn
    simpa [beNat, Nat.mod_eq_of_lt (show n < 65536 by omega)] using hbe
  obtain ⟨covered, hcovered⟩ : ∃ covered, covered = [n1, n0] ++ [0x01#8, tag] ++ (c.code :: args) := ⟨_, rfl⟩
  obtain ⟨c1, c0, hcheck⟩ : ∃ c1 c0, wordBytes 2 (crc16 covered) = [c1, c0] := List.length_eq_two.1 (length_wordBytes 2 _)
  obtain ⟨mid, hmid⟩ : ∃ mid, mid = [0x01#8, tag] ++ (c.code :: args) ++ [c1] := ⟨_, rfl⟩
  have hframe : n1 :: n0 :: (mid ++ [c0]) = covered ++ wordBytes 2 (crc16 covered) := by
    rw [hmid, hcovered, ← hcovered, hcheck, hcovered]; simp
  have hbytes : linkFrameBytes 0x01#8 tag (c.code :: args) = 0xC3#8 :: n1 :: n0 :: (mid ++ [c0]) := by
    rw [hframe, linkFrameBytes, ← hn, hlength, hcovered]
    rfl
  have hjudge : (s.setAssembler .hunting).judgeFrame (n1 :: n0 :: (mid ++ [c0])) =
      (s.setAssembler .hunting).requestArrives tag c.code args := by
    have hcrc : crc16 (n1 :: n0 :: (mid ++ [c0])) = 0x0000#16 := by
      rw [hframe]; exact (crc16_append_wordBytes_eq_zero_iff covered _).2 rfl
    refine judgeFrame_of_request hcrc (by rw [hmid]; rfl) ?_ |>.trans (by rw [hmid]; rfl)
    rw [hmid]
    simp
  have hcount : mid.length = n + 1 := by rw [hmid, hn]; simp
  have hsize : 2 ≤ n ∧ n ≤ 514 := by rw [hn, List.length_cons]; exact ⟨by omega, by omega⟩
  rw [hbytes, receiveBytes_frame hunting hout (by rw [hvalue, hcount]) (by rw [hcount]; exact Nat.succ_le_succ hsize.1)
    (by rw [hcount]; exact Nat.succ_le_succ hsize.2), hjudge]

/-! ### A run of bytes -/

theorem powered_kept : Kept (fun u => u.powered = true) where
  move s t h hs := by
    cases h with
    | ofBay b h => exact h.frame.powered.trans hs
    | port _ p q => cases p <;> exact hs
    | begin | clock | entry | slot | progress | store | window | enclosure | link | notice | records | batchNumber => exact hs
  started s t h hs := by
    obtain ⟨_, q, m, used, _, _, rfl⟩ := engineTake_started h
    simpa using hs
  ended s t r reason h hs := by
    obtain ⟨_, q, _, _, _, rfl⟩ := engineTake_ended h
    exact hs
  freed s hs := hs

theorem emptyKeys_powered (s : State) : s.emptyKeys.powered = s.powered := by
  unfold State.emptyKeys; simp only [setSlots_powered]; split <;> simp

/-- No received byte switches the supply. -/
theorem receiveBytes_powered {s : State} (bytes : List Byte) (h : s.powered = true) : (s.receiveBytes bytes).powered = true := by
  refine (receiveBytes_runs (.frameReceived bytes) bytes s).keeps powered_kept (fun s t hj hs => ?_) h
  cases hj with
  | tamper => exact (emptyKeys_powered _).trans hs
  | close | link | restart | started => exact hs

/-- A run of bytes received one by one, by any fold that takes each byte as STATION_BYTE_RECEIVED. -/
theorem foldl_bytes {f : Host.Outcome State Fault Refusal → Byte → Host.Outcome State Fault Refusal}
    (hf : ∀ u x, f (.next u) x = exec (.stationByteReceived x) u) {bytes : List Byte} {s : State} (hp : s.powered = true) :
    bytes.foldl f (.next s) = .next (s.receiveBytes bytes) := by
  induction bytes generalizing s with
  | nil => rfl
  | cons x rest ih =>
    have hp' : (s.receiveByte x).beginFrame.powered = true := receiveBytes_powered [x] hp
    rw [List.foldl_cons, hf, exec_byte hp, ih hp', receiveBytes_cons]

/-- A run of bytes ends with what the free direction begins (R172). -/
theorem receiveBytes_beginFrame {bytes : List Byte} (h : bytes ≠ []) (s : State) :
    (s.receiveBytes bytes).beginFrame = s.receiveBytes bytes := by
  obtain ⟨front, last, rfl⟩ := List.eq_nil_or_concat bytes |>.resolve_left h
  rw [List.concat_eq_append, receiveBytes_append]
  exact beginFrame_beginFrame _

/-- Settles O43: the frame's bytes gathered and judged, and a run taken byte by byte. -/
theorem frameIsItsRequest : Obligations.FrameIsItsRequest := by
  refine ⟨fun s c tag args i hp hunting hargs hi hout => ⟨_, (exec_requestOf hi _).trans (event_powered _ hp), ?_⟩,
    fun bytes s t hp hne ht => ?_⟩
  · refine (event_powered _ hp).trans ?_
    rw [receiveBytes_request c tag hunting hout hargs, beginFrame_beginFrame]
    have hset : s.setAssembler .hunting = { s with link := { s.link with lastByteAt := s.time } } := by
      rw [← hunting]; rfl
    rw [hset]
  · have hrun : exec (.frameReceived bytes) s = .next (s.receiveBytes bytes) :=
      (event_powered _ hp).trans (congrArg _ (receiveBytes_beginFrame hne s))
    exact (foldl_bytes (fun _ _ => rfl) hp).trans (hrun.symm.trans ht)

end Sys2Proof.Machine

/-! Bays and their lines: the ends of line resets, line faults and the events of the supply. -/

namespace Sys2Proof.Machine

/-! ### What an event leaves of the other bays -/

theorem beginFrame_queue (s : State) : s.beginFrame.link.queue = s.link.queue := by
  rcases beginFrame_cases s with h | ⟨_, _, h⟩ | ⟨_, _, ⟨_, _, _, _, h⟩ | ⟨_, _, _, _, h⟩⟩ <;> rw [h]

theorem beginFrame_assembler (s : State) : s.beginFrame.link.assembler = s.link.assembler := by
  rcases beginFrame_cases s with h | ⟨_, _, h⟩ | ⟨_, _, ⟨_, _, _, _, h⟩ | ⟨_, _, _, _, h⟩⟩ <;> rw [h]

@[simp] theorem beginFrame_bay (s : State) (b : BayId) : s.beginFrame.bay b = s.bay b := bay_of_bays (beginFrame_bays s) b

theorem BayFrame.beginFrame {b : BayId} {s t : State} (h : BayFrame b s t) : BayFrame b s t.beginFrame := by
  refine h.trans ?_
  constructor <;> intros <;> simp [beginFrame_queue, beginFrame_assembler]

/-- An event of one bay, seen from outside it: what it did, and the frame the free direction begins. -/
theorem BayFrame.event {b : BayId} {s t : State} (h : BayFrame b s t) :
    OnlyBay b s t.beginFrame ∧ t.beginFrame.keys = s.keys := ⟨h.beginFrame.onlyBay, h.beginFrame.keys⟩

/-! ### The bay after a stop -/

theorem Cipher.quiet.emptyHolders {c : Cipher} (h : c.quiet) (b : BayId) : (c.emptyHolders b).quiet := h

theorem EngineQuiet.finishStop {s : State} (h : EngineQuiet s) (b : BayId) : EngineQuiet (s.finishStop b) := by
  rw [engineQuiet_iff, finishStop_cipher]; exact Cipher.quiet.emptyHolders h b

@[simp] theorem toOff_contexts (x : Bay) : x.toOff.contexts = x.contexts := by cases hs : x.supply <;> simp [Bay.toOff, Bay.unpower, hs]

theorem toFault_fields (reason : FaultReason) (x : Bay) :
    (x.toFault reason).state = .fault ∧ (x.toFault reason).faultReason = some reason ∧ (x.toFault reason).contexts = x.contexts ∧
      (x.toFault reason).batch = x.batch := by
  cases reason <;> exact ⟨rfl, rfl, rfl, rfl⟩

/-- What a stop's end keeps of the bay, whatever its cause (R26). -/
theorem afterStop_fields (cause : StopCause) (x : Bay) :
    (x.afterStop cause).contexts = x.contexts ∧ (x.afterStop cause).batch = x.batch ∧
      ((x.afterStop cause).line = x.line ∨ (x.afterStop cause).line = x.line.unpowered) := by
  have hoff : x.toOff.line = x.line ∨ x.toOff.line = x.line.unpowered := by cases hs : x.supply <;> simp [Bay.toOff, Bay.unpower, hs]
  have hfault : ∀ reason, (x.toFault reason).line = x.line ∨ (x.toFault reason).line = x.line.unpowered := fun reason => by
    cases reason <;> simp [Bay.toFault, Bay.unpower]
  cases cause with
  | restart | tamper => exact ⟨toOff_contexts x, toOff_batch x, hoff⟩
  | powerFault => exact ⟨rfl, rfl, hfault _⟩
  | complete | aborted | reset | lineFault =>
    cases hr : x.faultReason with
    | none => simp [Bay.afterStop, hr]
    | some reason =>
      obtain ⟨-, -, hc, hb⟩ := toFault_fields reason x
      simp [Bay.afterStop, hr, hc, hb, hfault reason]

/-- The idle line of a bay is idle after its stop (R56, R72). -/
theorem afterStop_idle {x : Bay} (cause : StopCause) (htx : x.line.tx = .idle) (hfree : x.line.free = true)
    (hrate : x.line.rate = .standard) :
    (x.afterStop cause).line.tx = .idle ∧ (x.afterStop cause).line.free = true ∧ (x.afterStop cause).line.rate = .standard := by
  obtain ⟨-, -, h | h⟩ := afterStop_fields cause x
  · rw [h]; exact ⟨htx, hfree, hrate⟩
  · rw [h, LineEnd.unpowered, htx]; exact ⟨rfl, rfl, rfl⟩

/-- A stop of these causes ends in FAULT with the reason recorded (R27 to R29). -/
theorem afterStop_fault {cause : StopCause} (h : cause = .aborted ∨ cause = .reset ∨ cause = .lineFault) {b : BayId} {s : State}
    {reason : FaultReason} (hr : (s.bay b).faultReason = some reason) : s.afterStop b cause = s.enterFault b reason := by
  rcases h with rfl | rfl | rfl <;> simp [State.afterStop, hr]

/-- A stop over: its bay goes on no further, and the event is over (R26). -/
theorem work_finishStop {s : State} {b : BayId} (hq : EngineQuiet s) : (s.finishStop b).work [b] = s.finishStop b := by
  refine work_still ?_ (hq.finishStop b)
  rw [finishStop_bay]
  show (((s.bay b).endBatch .ready).afterStop (s.bay b).causeOf).state.sends = false
  cases (s.bay b).causeOf with
  | restart | tamper => rw [Bay.afterStop, (toOff_cleared _).1]; rfl
  | powerFault => rfl
  | complete | aborted | reset | lineFault =>
    cases hr : ((s.bay b).endBatch .ready).faultReason with
    | none => simp only [Bay.afterStop, hr]; rfl
    | some reason => simp only [Bay.afterStop, hr, (toFault_fields reason _).1]; rfl

/-! ### LINE_RESET_ENDED -/

/-- The line of a bay whose line reset has ended (R56). -/
def Bay.resetOver (now : Nat) (x : Bay) : Bay := { x with line := x.line.resetOver now }

/-- Settles O55: after BAY_RESET, after an early stop and in the tamper response. -/
theorem lineResetEnded : Obligations.LineResetEnded := by
  intro s b since hp hq htx x
  have hover : State.lineResetOver b s =
      if (s.bay b).state = .stopping then State.work [b] ((s.updBay b (Bay.resetOver s.time)).finishStop b)
      else if (s.bay b).tamperOff then ((s.updBay b (Bay.resetOver s.time)).updBay b Bay.toOff).replyReset b
      else ((s.updBay b (Bay.resetOver s.time)).updBay b (fun x => { x with state := .ready, faultReason := none })).replyReset b := by
    unfold State.lineResetOver
    rw [htx]
    rfl
  refine ⟨fun r rest hst ht hr hh hqueue => ?_, fun cause hst hc => ?_, fun hst ht => ?_⟩
  · have hready : ((s.updBay b (Bay.resetOver s.time)).updBay b (fun x => { x with state := .ready, faultReason := none })).replyReset b =
        ((s.setBay b { x with state := .ready, faultReason := none, resetReply := none, line := x.line.resetOver s.time }).answer .ok
          [0x02#8]) := by
      rw [updBay_updBay]
      unfold State.replyReset
      rw [bay_updBay_same]
      simp only [Bay.resetOver, show (s.bay b).resetReply = some .ok from hr]
      rw [updBay_updBay]
      rfl
    have hnot : (s.bay b).state ≠ .stopping := by
      rcases (show (s.bay b).state = _ ∨ (s.bay b).state = _ from hst) with h | h <;> simp [h]
    refine (event_powered _ hp).trans ?_
    rw [hover, if_neg hnot, if_neg (by rw [show (s.bay b).tamperOff = false from ht]; simp), hready]
    exact congrArg (fun t : State => Host.Outcome.next t.beginFrame) (answer_withOwner (r := r) (rest := rest) _ _ hh hqueue)
  · obtain ⟨s1, hs1⟩ : ∃ s1, s1 = s.updBay b (Bay.resetOver s.time) := ⟨_, rfl⟩
    have hbay : s1.bay b = x.resetOver s.time := by rw [hs1, bay_updBay_same]
    have hcause : (s1.bay b).causeOf = cause := by rw [hbay]; exact congrArg (fun c => c.getD .aborted) hc
    have hexec : exec (.lineResetEnded b) s = .next (s1.finishStop b).beginFrame := by
      refine (event_powered _ hp).trans ?_
      rw [hover, if_pos hst, ← hs1, work_finishStop (by rw [hs1]; exact hq.congr rfl)]
    have hpath : BayPath b s s1 := by rw [hs1]; exact .upd_of_eq rfl rfl rfl (by simp [Bay.resetOver, LineEnd.resetOver, Tx.isReset]) rfl (.inr rfl)
    have hframe : BayFrame b s (s1.finishStop b) :=
      hpath.frame.trans (finishStop_path (isRunning_of_stopping (by rw [hbay]; exact hst))).frame
    have hend := finishStop_bay b s1
    rw [hcause, hbay] at hend
    obtain ⟨hctx, hbatch, -⟩ := afterStop_fields cause ((x.resetOver s.time).endBatch .ready)
    obtain ⟨htx', hfree, hrate⟩ := afterStop_idle (x := (x.resetOver s.time).endBatch .ready) cause rfl rfl rfl
    refine ⟨_, hexec, hframe.event.1, hframe.event.2, ?_, ?_, ?_, ?_, ?_, ?_, fun hcase hf => ?_, fun reason hcase hf => ?_, fun hcase => ?_⟩
    · rw [beginFrame_bay, hend]; exact hctx
    · rw [beginFrame_bay, hend]; exact htx'
    · rw [beginFrame_bay, hend]; exact hfree
    · rw [beginFrame_bay, hend]; exact hrate
    · rw [beginFrame_bay, hend]; exact hbatch
    · rw [beginFrame_report, finishStop_records, List.map_append, List.map_singleton, Bay.stopRecord, hcause, hbay, hs1]
      rfl
    · rw [beginFrame_bay, hend]
      rcases hcase with rfl | rfl <;> simp [Bay.afterStop, Bay.endBatch, Bay.resetOver, hf]
    · have hfault : (((x.resetOver s.time).endBatch .ready).afterStop cause) =
          ((x.resetOver s.time).endBatch .ready).toFault reason := by
        rcases hcase with rfl | rfl | rfl <;> simp only [Bay.afterStop, Bay.endBatch, Bay.resetOver, hf]
      obtain ⟨hst', hr, -, -⟩ := toFault_fields reason ((x.resetOver s.time).endBatch .ready)
      rw [beginFrame_bay, hend, hfault]
      refine ⟨hst', hr, ?_⟩
      rw [beginFrame_notice]
      refine finishStop_flag (reason := reason) ?_
      rw [hcause]
      exact afterStop_fault hcase (by rw [stopRecorded_bay, hbay]; exact hf)
    · rw [beginFrame_bay, hend, hcase]
      obtain ⟨hoff, hreason, hsup, -, -⟩ := toOff_cleared ((x.resetOver s.time).endBatch .ready)
      exact ⟨hoff, hsup, hreason⟩
  · have hexec : exec (.lineResetEnded b) s =
        .next (((s.updBay b (Bay.resetOver s.time)).updBay b Bay.toOff).replyReset b).beginFrame := by
      refine (event_powered _ hp).trans ?_
      rw [hover, if_neg hst, if_pos ht]
    have hpath : BayPath b s (s.updBay b (Bay.resetOver s.time)) :=
      .upd_of_eq rfl rfl rfl (by simp [Bay.resetOver, LineEnd.resetOver, Tx.isReset]) rfl (.inr rfl)
    have hframe := (hpath.trans ((toOff_path b _).trans (replyReset_path b _))).frame
    have hbay : (((s.updBay b (Bay.resetOver s.time)).updBay b Bay.toOff).replyReset b).bay b =
        { (x.resetOver s.time).toOff with resetReply := none } := by
      rw [replyReset_bay, updBay_updBay, bay_updBay_same]
    obtain ⟨hoff, hreason, hsup, -, -⟩ := toOff_cleared (x.resetOver s.time)
    obtain ⟨-, hfree, hrate⟩ := afterStop_idle (x := x.resetOver s.time) .tamper rfl rfl rfl
    refine ⟨_, hexec, hframe.event.1, hframe.event.2, ?_⟩
    rw [beginFrame_bay, hbay]
    exact ⟨hoff, hsup, hfree, hrate, hreason⟩

/-! ### The level of a line and the quiet count -/

theorem settled_cons (g t : Nat) (moments : List Nat) : settled g (t :: moments) = noteChange g t (settled g moments) := rfl

theorem settled_ne_nil {g : Nat} {moments : List Nat} (h : moments ≠ []) : settled g moments ≠ [] := by
  obtain ⟨t, rest, rfl⟩ := List.exists_cons_of_ne_nil h
  rw [settled_cons]
  unfold noteChange
  split
  · split <;> simp
  · simp

/-- A free line that goes active a glitch's length after its last change keeps the two moments (R57). -/
theorem settled_active {g now t0 : Nat} {moments : List Nat} (hne : moments ≠ []) (h0 : (settled g moments).headD 0 = t0)
    (hlong : t0 + g ≤ now) : (settled g (now :: moments)).take 2 = [now, t0] := by
  obtain ⟨s, rest, hs⟩ := List.exists_cons_of_ne_nil (settled_ne_nil (g := g) hne)
  obtain rfl : s = t0 := by simpa [hs] using h0
  rw [settled_cons, hs]
  cases rest with
  | nil => rfl
  | cons s2 more => rw [noteChange, if_neg (by omega)]; rfl

/-- The active period that follows is a glitch, or the quiet count starts again (R57, R75). -/
theorem settled_passive (g now t0 d : Nat) :
    (settled g ((settled g ((now + d) :: [now, t0])).take 2)).headD 0 = if d < g then t0 else now + d := by
  have htwo : settled g [now, t0] = [now, t0] := rfl
  rw [settled_cons, htwo, noteChange, Nat.add_sub_cancel_left]
  split
  · rfl
  · rfl

/-- Settles the first part of O56: the level is shown and nothing else. -/
theorem shows_fields (now : Nat) (active : Bool) (l : LineEnd) :
    (l.shows now active).active = active ∧ (l.active = active → l.shows now active = l) ∧ (l.shows now active).tx = l.tx ∧
      (l.shows now active).free = l.free ∧ (l.shows now active).rate = l.rate := by
  unfold LineEnd.shows
  split
  · next h => exact ⟨h, fun _ => rfl, rfl, rfl, rfl⟩
  · next h => exact ⟨rfl, fun h' => absurd h' h, rfl, rfl, rfl⟩

theorem exec_level {s : State} (hp : s.powered = true) (line : LineId) (active : Bool) :
    exec (.lineLevelChange line active) s = .next (s.updLine line (LineEnd.shows s.time active)).beginFrame :=
  event_powered (fun s => s.updLine line (LineEnd.shows s.time active)) hp

/-- A change of level on a free line (R57). -/
theorem shows_onFree {now : Nat} {active : Bool} {l : LineEnd} (htx : l.tx = .idle) (hfree : l.free = true) (h : l.active ≠ active) :
    l.shows now active = { l with active := active, changes := (settled l.glitch (now :: l.changes)).take 2 } := by
  rw [LineEnd.shows, if_neg h, if_pos ⟨htx, hfree⟩]

/-- The quiet count of a passive line in POWERING (R75). -/
theorem quietSince_some {x : Bay} {t0 : Nat} (h : x.quietSince = some t0) :
    x.state = .powering ∧ x.line.active = false ∧ x.line.since = t0 := by
  unfold Bay.quietSince at h
  split at h
  · next hc => exact ⟨hc.1, hc.2, Option.some.inj h⟩
  · exact absurd h nofun

/-- A passive line in POWERING that goes active and passive again: the count runs on past a glitch, and starts again otherwise
(R57, R75; log 35). -/
theorem quiet_again {now t0 : Nat} (d : Nat) {x : Bay} (htx : x.line.tx = .idle) (hfree : x.line.free = true)
    (hrate : x.line.rate = .standard) (hactive : x.line.active = false) (hne : x.line.changes ≠ []) (hq : x.quietSince = some t0)
    (hlong : t0 + 20 ≤ now) :
    ({ x with line := x.line.shows now true } : Bay).quietSince = none ∧
      ({ x with line := (x.line.shows now true).shows (now + d) false } : Bay).quietSince =
        some (if d < 20 then t0 else now + d) := by
  obtain ⟨hst, -, hsince⟩ := quietSince_some hq
  have hglitch : x.line.glitch = 20 := by rw [LineEnd.glitch, hrate]; rfl
  have hup : x.line.shows now true = { x.line with active := true, changes := [now, t0] } := by
    rw [shows_onFree htx hfree (by simp [hactive]), hglitch, settled_active hne (by rw [← hglitch]; exact hsince) hlong]
  rw [hup]
  constructor
  · simp [Bay.quietSince]
  · have hdown := shows_onFree (now := now + d) (active := false) (l := { x.line with active := true, changes := [now, t0] }) htx hfree
      nofun
    rw [hdown]
    unfold Bay.quietSince
    rw [if_pos ⟨hst, rfl⟩]
    refine congrArg some ?_
    show (settled x.line.glitch ((settled x.line.glitch ((now + d) :: [now, t0])).take 2)).headD 0 = _
    rw [hglitch]
    exact settled_passive 20 now t0 d

/-! ### Over-current and the power-up wait -/

theorem toFault_power {reason : FaultReason} (h : reason = .overCurrent ∨ reason = .powerTimeout) (x : Bay) :
    (x.toFault reason).state = .fault ∧ (x.toFault reason).faultReason = some reason ∧ (x.toFault reason).supply = false ∧
      (x.toFault reason).limitAt = none ∧ (x.toFault reason).contexts = x.contexts := by
  rcases h with rfl | rfl <;> exact ⟨rfl, rfl, rfl, rfl, rfl⟩

/-- Over-current in a batch that runs ends it POWER_FAULT at once (R30). -/
theorem overCurrent_running {s : State} {b : BayId} (hp : s.powered = true) (hq : EngineQuiet s) (hs : (s.bay b).supply = true)
    (hrun : (s.bay b).isRunning = true) (hc : (s.bay b).batch.stopCause ≠ some .tamper) :
    ∃ t, exec (.overCurrent b) s = .next t ∧ OnlyBay b s t ∧ t.keys = s.keys ∧ (t.bay b).state = .fault ∧
      (t.bay b).faultReason = some .overCurrent ∧ (t.bay b).supply = false ∧ (t.bay b).contexts = [] ∧
      (t.bay b).batch.stopCause = some .powerFault ∧ (t.bay b).line.tx.isReset = false ∧ t.notice.flags.bayFault = true ∧
      t.report.records.map (·.body) = s.report.records.map (·.body) ++
        [.batchEnd (batchEndRecord b (s.bay b).batch .powerFault (endList (s.bay b).contexts))] := by
  obtain ⟨u, hu⟩ : ∃ u, u = (((s.updBay b (fun x => { x with line := x.line.cut s.time })).beginStop b .powerFault none).updBay b
    (fun x => { x with faultReason := some .overCurrent })) := ⟨_, rfl⟩
  have hbay : u.bay b = { ({ s.bay b with line := (s.bay b).line.cut s.time } : Bay).stopping .powerFault none with
      faultReason := some .overCurrent } := by
    rw [hu, bay_updBay_same, beginStop_bay, bay_updBay_same]
  have hstop : s.overCurrentStop b = u.finishStop b := by
    rw [hu]
    exact if_neg fun h => hc h.1
  have huq : EngineQuiet u := by
    rw [hu]
    exact (EngineQuiet.beginStop b .powerFault none (s := s.updBay b _) (hq.congr rfl)).congr rfl
  have hexec : exec (.overCurrent b) s = .next (u.finishStop b).beginFrame := by
    refine (event_powered _ hp).trans ?_
    unfold State.senseOverCurrent
    dsimp only
    rw [if_neg (by simp [hs]), if_pos hrun, hstop, work_finishStop huq]
  have hframe : BayFrame b s (u.finishStop b) := hstop ▸ (overCurrentStop_path hrun).frame
  have hcause : (u.bay b).causeOf = .powerFault := by rw [hbay]; rfl
  have hend := finishStop_bay b u
  rw [hcause, hbay] at hend
  refine ⟨_, hexec, hframe.event.1, hframe.event.2, ?_, ?_, ?_, ?_, ?_, ?_, ?_, ?_⟩
  · rw [beginFrame_bay, hend]; rfl
  · rw [beginFrame_bay, hend]; rfl
  · rw [beginFrame_bay, hend]; rfl
  · rw [beginFrame_bay, hend]; rfl
  · rw [beginFrame_bay, hend]; rfl
  · rw [beginFrame_bay, hend]; rfl
  · rw [beginFrame_notice]
    exact finishStop_flag (reason := .overCurrent) (by rw [hcause]; rfl)
  · rw [beginFrame_report, finishStop_records, List.map_append, List.map_singleton, Bay.stopRecord, hcause, hbay, hu]
    rfl

/-- Settles O56: levels, the quiet count with its glitch and its limit, and over-current. -/
theorem powerEvents : Obligations.PowerEvents := by
  refine ⟨fun s line active hp => ⟨exec_level hp line active, shows_fields s.time active⟩, fun s b hp hq => ?_⟩
  intro x
  refine ⟨fun hst => ⟨fun t0 d htx hfree hrate hactive hne hquiet hlong => ?_, fun t0 hquiet => ?_, fun hshort => ?_⟩,
    fun hs hrun ht hr => ?_, fun reason h => toFault_power h x, fun hs hrun hc => overCurrent_running hp hq hs hrun hc, fun hs => ?_⟩
  · obtain ⟨hnone, hsome⟩ := quiet_again d htx hfree hrate hactive hne hquiet hlong
    obtain ⟨t, ht⟩ : ∃ t, t = (s.updLine (.bay b) (LineEnd.shows s.time true)).beginFrame := ⟨_, rfl⟩
    obtain ⟨v, hv⟩ : ∃ v : State, v = { t with time := s.time + d } := ⟨_, rfl⟩
    have htbay : t.bay b = { x with line := x.line.shows s.time true } := by
      rw [ht, beginFrame_bay]; exact bay_updBay_same s b _
    have hvp : v.powered = true := by rw [hv, ht]; simp [hp, State.updLine]
    have hvbay : v.bay b = t.bay b := by rw [hv]; rfl
    have hubay : (v.updLine (.bay b) (LineEnd.shows (s.time + d) false)).beginFrame.bay b =
        { x with line := (x.line.shows s.time true).shows (s.time + d) false } := by
      rw [beginFrame_bay, State.updLine, bay_updBay_same, hvbay, htbay]
    have hvtime : v.time = s.time + d := by rw [hv]
    have hframe : BayFrame b s { (v.updLine (.bay b) (LineEnd.shows (s.time + d) false)).beginFrame with time := s.time } := by
      have hst : BayFrame b s t := by rw [ht]; exact (setBay_frame b _ s).beginFrame
      have hvu : BayFrame b v (v.updLine (.bay b) (LineEnd.shows (s.time + d) false)).beginFrame := (setBay_frame b _ v).beginFrame
      have htv : BayFrame b t { v with time := s.time } := by
        have htime : t.time = s.time := hst.time
        have hback : ({ v with time := s.time } : State) = t := by rw [hv, ← htime]
        rw [hback]; exact .refl b t
      have hclock : BayFrame b { v with time := s.time }
          { (v.updLine (.bay b) (LineEnd.shows (s.time + d) false)).beginFrame with time := s.time } :=
        ⟨hvu.bays, hvu.pending, hvu.powered, hvu.started, rfl, hvu.clock, hvu.lastAdvance, hvu.enclosure, hvu.window, hvu.profiles,
          hvu.profileCheck, hvu.keys, hvu.keyCheck, hvu.portA, hvu.portB, hvu.batchCounter, hvu.requests, hvu.assembler⟩
      exact (hst.trans htv).trans hclock
    refine ⟨t, (v.updLine (.bay b) (LineEnd.shows (s.time + d) false)).beginFrame, by rw [ht]; exact exec_level hp _ _,
      by rw [htbay]; exact hnone, ?_, hframe.onlyBay, ?_, ?_, ?_⟩
    · rw [← hv]
      exact (exec_level hvp _ _).trans (by rw [hvtime])
    · rw [hubay]; exact hst
    · rw [hubay]
    · rw [hubay]; exact hsome
  · intro ready
    refine ⟨(event_powered _ hp).trans ?_, fun hlong => (event_powered _ hp).trans ?_⟩
    · rw [State.quietReached, if_pos (by rw [show (s.bay b).quietSince = some t0 from hquiet]; rfl)]
      rfl
    · have hreached : (s.bay b).quietLongEnough s.time = true := by
        simp [Bay.quietLongEnough, show (s.bay b).quietSince = some t0 from hquiet, Config.ms, hlong]
      unfold State.powerTimeout
      dsimp only
      rw [if_pos hst, if_pos hreached]
      rfl
  · refine (event_powered _ hp).trans ?_
    have hnot : (s.bay b).quietLongEnough s.time = false := by
      unfold Bay.quietLongEnough
      split
      · next t0 h => exact decide_eq_false (by have := hshort t0 h; simp only [Config.ms]; omega)
      · rfl
    unfold State.powerTimeout
    dsimp only
    rw [if_pos hst, hnot]
    rfl
  · refine (event_powered _ hp).trans ?_
    have hreply : (s.enterFault b .overCurrent).replyReset b = s.enterFault b .overCurrent :=
      replyReset_none (by rw [enterFault_bay]; exact hr)
    unfold State.senseOverCurrent
    dsimp only
    rw [if_neg (by simp [show (s.bay b).supply = true from hs]), if_neg (by simp [show (s.bay b).isRunning = false from hrun]),
      if_neg (by simp [show (s.bay b).tamperOff = false from ht]), hreply]
    rfl
  · exact (event_powered _ hp).trans (by simp [State.senseOverCurrent, show (s.bay b).supply = false from hs])

end Sys2Proof.Machine

/-! Line faults on a bay line, by the state of the bay. -/

namespace Sys2Proof.Machine

/-! ### A line fault reported -/

/-- The bay whose line has reported a fault (R68). -/
def Bay.faulted (now : Nat) (x : Bay) : Bay := { x with line := x.line.faulted now }

theorem bayFaulted_frame (b : BayId) (s : State) : BayFrame b s (s.updBay b (Bay.faulted s.time)) := setBay_frame b _ s

/-- What is in flight is neither the test frame nor a line reset. -/
def Tx.isFrameOrIdle : Tx → Bool
  | .idle => true
  | .frame _ _ _ _ => true
  | _ => false

/-- A line fault in ROLLING or LOADING begins the stop of the batch (R29). -/
theorem bayLineFault_running {s : State} {b : BayId} (fault : LineFault) (htx : (s.bay b).line.tx.isFrameOrIdle = true)
    (hst : (s.bay b).state = .rolling ∨ (s.bay b).state = .loading) :
    s.bayLineFault b fault =
      ((s.updBay b (Bay.faulted s.time)).beginStop b .lineFault (some fault.reason)).proceedStop b := by
  unfold State.bayLineFault
  dsimp only
  split
  · next h => simp [h, Tx.isFrameOrIdle] at htx
  · next h => simp [h, Tx.isFrameOrIdle] at htx
  · rcases hst with hst | hst <;> rw [hst] <;> rfl

/-- A line fault in READY (R29). -/
theorem bayLineFault_ready {s : State} {b : BayId} (fault : LineFault) (htx : (s.bay b).line.tx.isFrameOrIdle = true)
    (hst : (s.bay b).state = .ready) :
    s.bayLineFault b fault = (s.updBay b (Bay.faulted s.time)).enterFault b fault.reason := by
  unfold State.bayLineFault
  dsimp only
  split
  · next h => simp [h, Tx.isFrameOrIdle] at htx
  · next h => simp [h, Tx.isFrameOrIdle] at htx
  · rw [hst]; rfl

/-- A line fault on a line reset outside a stop and the tamper response (R29). -/
theorem bayLineFault_reset {s : State} {b : BayId} (fault : LineFault) {since : Nat} (htx : (s.bay b).line.tx = .reset since)
    (hst : (s.bay b).state ≠ .stopping) (ht : (s.bay b).tamperOff = false) :
    s.bayLineFault b fault =
      (((s.updBay b (Bay.faulted s.time)).updBay b (fun x => { x with line := { x.line with
        rate := .standard, gapRate := .standard } })).enterFault b fault.reason).replyReset b := by
  unfold State.bayLineFault
  dsimp only
  rw [htx]
  dsimp only
  rw [if_neg hst, ht]
  rfl

/-- A stuck passive or mismatched line stops the batch LINE_FAULT with a line reset (R29). -/
theorem lineFault_stops {s : State} {b : BayId} {fault : LineFault} {f : LineFrame} {rate : Rate} {sentAt : Nat}
    (hq : EngineQuiet s) (hst : (s.bay b).state = .rolling ∨ (s.bay b).state = .loading) (hf : (s.bay b).faultReason = none)
    (htx : (s.bay b).line.tx = .frame f rate sentAt false) (hfault : fault = .stuckPassive ∨ fault = .echoMismatch) :
    ∃ t, (s.bayEchoFault b fault).beginFrame = t ∧ (t.bay b).faultReason = some fault.reason ∧
      OnlyBay b s t ∧ t.keys = s.keys ∧ (t.bay b).state = .stopping ∧ (t.bay b).batch.stopCause = some .lineFault ∧
        (t.bay b).line.tx = .reset s.time ∧ (t.bay b).contexts = (s.bay b).contexts ∧ t.report.records = s.report.records := by
  obtain ⟨u, hu⟩ : ∃ u, u = (s.updBay b (Bay.faulted s.time)).beginStop b .lineFault (some fault.reason) := ⟨_, rfl⟩
  have hbay : u.bay b = ((s.bay b).faulted s.time).stopping .lineFault (some fault.reason) := by
    rw [hu, beginStop_bay, bay_updBay_same]
  have hreason : (((s.bay b).faulted s.time).stopping .lineFault (some fault.reason)).faultReason = some fault.reason := by
    show (s.bay b).faultReason.or (some fault.reason) = _
    rw [hf]; rfl
  have howes : (u.bay b).owesReset = true := by
    rw [hbay]
    refine owesReset_of (cause := .lineFault) rfl nofun nofun ?_
    rw [hreason]
    rcases hfault with rfl | rfl <;> simp [LineFault.reason]
  have hrun : (s.bay b).isRunning = true := by unfold Bay.isRunning; rcases hst with hst | hst <;> rw [hst]
  have hlast : (s.bayEchoFault b fault) = u.updBay b (fun x => { x with line := x.line.startReset s.time }) := by
    unfold State.bayEchoFault
    rw [if_pos (by rw [htx]; rfl), bayLineFault_running fault (by rw [htx]; rfl) hst, ← hu, proceedStop_of_owes howes]
    have htime : u.time = s.time := by rw [hu]; rfl
    rw [htime]
    refine work_still (by rw [bay_updBay_same, hbay]; rfl) ?_
    rw [hu]
    exact (EngineQuiet.beginStop b .lineFault (some fault.reason) (s := s.updBay b (Bay.faulted s.time)) (hq.congr rfl)).congr rfl
  have hframe : BayFrame b s (s.bayEchoFault b fault) := by
    rw [hlast, hu]
    refine ((bayFaulted_frame b s).trans (beginStop_onlyBay_frame b .lineFault _ ?_)).trans (setBay_frame b _ _)
    rw [bay_updBay_same]; exact hrun
  refine ⟨_, rfl, ?_, hframe.event.1, hframe.event.2, ?_⟩
  · rw [beginFrame_bay, hlast, bay_updBay_same, hbay]; exact hreason
  · rw [beginFrame_bay, beginFrame_report, hlast, bay_updBay_same, hbay, hu]
    exact ⟨rfl, rfl, rfl, rfl, rfl⟩

/-- A line held active ends the batch at once in FAULT (R29). -/
theorem heldActive_ends {s : State} {b : BayId} (hp : s.powered = true) (hq : EngineQuiet s)
    (hst : (s.bay b).state = .rolling ∨ (s.bay b).state = .loading) (hf : (s.bay b).faultReason = none)
    (hsend : (s.bay b).line.tx.sending = false) (hloop : (s.bay b).line.loopback = false) :
    ∃ t, exec (.lineHeldActive (.bay b)) s = .next t ∧ OnlyBay b s t ∧ t.keys = s.keys ∧ (t.bay b).state = .fault ∧
      (t.bay b).faultReason = some .lineHeldActive ∧ (t.bay b).batch.stopCause = some .lineFault ∧
      (t.bay b).contexts = [] ∧ (t.bay b).line.tx = .idle ∧ t.notice.flags.bayFault = true ∧
      t.report.records.map (·.body) = s.report.records.map (·.body) ++
        [.batchEnd (batchEndRecord b (s.bay b).batch .lineFault (endList (s.bay b).contexts))] := by
  obtain ⟨u, hu⟩ : ∃ u, u = (s.updBay b (Bay.faulted s.time)).beginStop b .lineFault (some .lineHeldActive) := ⟨_, rfl⟩
  have hbay : u.bay b = ((s.bay b).faulted s.time).stopping .lineFault (some .lineHeldActive) := by
    rw [hu, beginStop_bay, bay_updBay_same]
  have hreason : (((s.bay b).faulted s.time).stopping .lineFault (some .lineHeldActive)).faultReason = some .lineHeldActive := by
    show (s.bay b).faultReason.or _ = _
    rw [hf]; rfl
  have hnot : (u.bay b).owesReset = false := by
    rw [hbay]; unfold Bay.owesReset; rw [hreason]; rfl
  have hrun : (s.bay b).isRunning = true := by unfold Bay.isRunning; rcases hst with hst | hst <;> rw [hst]
  have htx : (s.bay b).line.tx.isFrameOrIdle = true := by
    cases h : (s.bay b).line.tx <;> simp_all [Tx.sending, Tx.isFrameOrIdle]
  have hwatched : (s.bay b).watched = true := by
    unfold Bay.watched; rcases hst with hst | hst <;> simp [hst, hloop, hsend]
  have huq : EngineQuiet u := by
    rw [hu]; exact EngineQuiet.beginStop b .lineFault _ (s := s.updBay b (Bay.faulted s.time)) (hq.congr rfl)
  have hexec : exec (.lineHeldActive (.bay b)) s = .next (u.finishStop b).beginFrame := by
    refine (event_powered _ hp).trans ?_
    unfold State.bayHeldActive
    rw [if_pos hwatched, bayLineFault_running .heldActive htx hst]
    have hfault : (s.updBay b (Bay.faulted s.time)).beginStop b .lineFault (some LineFault.heldActive.reason) = u := hu.symm
    rw [hfault, proceedStop_of_not_owes hnot, work_finishStop huq]
  have hframe : BayFrame b s (u.finishStop b) := by
    have hbegin : BayFrame b s u := by
      rw [hu]
      refine (bayFaulted_frame b s).trans (beginStop_onlyBay_frame b .lineFault _ ?_)
      rw [bay_updBay_same]; exact hrun
    exact hbegin.trans (finishStop_path (isRunning_of_stopping (by rw [hbay]; rfl))).frame
  have hcause : (u.bay b).causeOf = .lineFault := by rw [hbay]; rfl
  have hfaultEnd : ((u.bay b).endBatch .ready).afterStop .lineFault = ((u.bay b).endBatch .ready).toFault .lineHeldActive := by
    have hr : ((u.bay b).endBatch .ready).faultReason = some .lineHeldActive := by rw [hbay]; exact hreason
    simp [Bay.afterStop, hr]
  have hend := finishStop_bay b u
  rw [hcause, hfaultEnd, hbay] at hend
  refine ⟨_, hexec, hframe.event.1, hframe.event.2, ?_, ?_, ?_, ?_, ?_, ?_, ?_⟩
  · rw [beginFrame_bay, hend]; rfl
  · rw [beginFrame_bay, hend]; rfl
  · rw [beginFrame_bay, hend]; rfl
  · rw [beginFrame_bay, hend]; rfl
  · rw [beginFrame_bay, hend]; rfl
  · rw [beginFrame_notice]
    refine finishStop_flag (reason := .lineHeldActive) ?_
    rw [hcause]
    exact afterStop_fault (.inr (.inr rfl)) (by rw [stopRecorded_bay, hbay]; exact hreason)
  · rw [beginFrame_report, finishStop_records, List.map_append, List.map_singleton, Bay.stopRecord, hcause, hbay, hu]
    rfl

/-! ### The reply of a BAY_RESET -/

/-- A reply that waits is begun, or waits on (R172). -/
theorem beginFrame_reply {s : State} {tag : Byte} {body : List Byte} {w : List Waiting} (h : s.link.waiting = w ++ [.reply tag body]) :
    s.beginFrame.link.sending = some (.reply tag body) ∨ .reply tag body ∈ s.beginFrame.link.waiting := by
  have hmem : Waiting.reply tag body ∈ s.link.waiting := by rw [h]; simp
  rcases beginFrame_cases s with hb | ⟨_, _, hb⟩ | ⟨_, _, ⟨tag', code, rest, hw, hb⟩ | ⟨tag', body', rest, hw, hb⟩⟩
  · rw [hb]; exact .inr hmem
  · rw [hb]; exact .inr hmem
  · rw [hb]; exact .inr (by rw [hw] at hmem; simpa using hmem)
  · rw [hb]
    rw [hw] at hmem
    rcases List.mem_cons.1 hmem with heq | hmem
    · cases heq; exact .inl rfl
    · exact .inr hmem

theorem beginFrame_head (s : State) : s.beginFrame.link.head = s.link.head := by
  rcases beginFrame_cases s with h | ⟨_, _, h⟩ | ⟨_, _, ⟨_, _, _, _, h⟩ | ⟨_, _, _, _, h⟩⟩ <;> rw [h]

/-- The reply of a BAY_RESET that waits for its bay (R28). -/
theorem replyReset_link {s : State} {b : BayId} {code : ResultCode} {r : Request} {rest : List Request}
    (hr : (s.bay b).resetReply = some code) (hh : s.link.head = .withOwner) (hq : s.link.queue = r :: rest) :
    (s.replyReset b).link = { s.link with
      head := .replyReady, waiting := s.link.waiting ++ [.reply r.tag [code.code, (s.bay b).state.code]] } := by
  unfold State.replyReset
  rw [hr]
  dsimp only
  rw [answer_withOwner (s := s.updBay b (fun x => { x with resetReply := none })) (r := r) (rest := rest) _ _ hh hq]
  rfl

theorem raise_head_queue (f : Flag) (s : State) : (s.raise f).link.head = s.link.head ∧ (s.raise f).link.queue = s.link.queue := by
  unfold State.raise
  dsimp only
  split <;> exact ⟨rfl, rfl⟩

/-- A mismatch on the line reset of BAY_RESET (R28, R29). -/
theorem mismatch_onReset {s : State} {b : BayId} {since : Nat} {r : Request} {rest : List Request} (hp : s.powered = true)
    (hq : EngineQuiet s) (hst : (s.bay b).state = .ready ∨ (s.bay b).state = .fault) (htx : (s.bay b).line.tx = .reset since)
    (ht : (s.bay b).tamperOff = false) (hr : (s.bay b).resetReply = some .ok) (hh : s.link.head = .withOwner)
    (hqueue : s.link.queue = r :: rest) :
    ∃ t, exec (.echoMismatch (.bay b)) s = .next t ∧ OnlyBay b s t ∧ t.keys = s.keys ∧ (t.bay b).state = .fault ∧
      (t.bay b).faultReason = some .echoMismatch ∧ (t.bay b).line.rate = .standard ∧ t.link.head = .replyReady ∧
      (t.link.sending = some (.reply r.tag [0x00#8, 0x06#8]) ∨ .reply r.tag [0x00#8, 0x06#8] ∈ t.link.waiting) := by
  obtain ⟨u, hu⟩ : ∃ u, u = (((s.updBay b (Bay.faulted s.time)).updBay b (fun x => { x with line := { x.line with
    rate := .standard, gapRate := .standard } })).enterFault b .echoMismatch) := ⟨_, rfl⟩
  have hbay : u.bay b = { s.bay b with
      state := .fault, faultReason := some .echoMismatch
      line := { (s.bay b).line.faulted s.time with rate := .standard, gapRate := .standard } } := by
    rw [hu, enterFault_bay, bay_updBay_same, bay_updBay_same]
    rfl
  obtain ⟨huh, huq⟩ : u.link.head = .withOwner ∧ u.link.queue = r :: rest := by
    obtain ⟨h1, h2⟩ := raise_head_queue .bayFault (((s.updBay b (Bay.faulted s.time)).updBay b (fun x => { x with line := { x.line with
      rate := .standard, gapRate := .standard } })).updBay b (Bay.toFault .echoMismatch))
    rw [hu]
    exact ⟨h1.trans hh, h2.trans hqueue⟩
  have hnot : (s.bay b).state ≠ .stopping := by rcases hst with h | h <;> simp [h]
  have hlast : s.bayEchoFault b .echoMismatch = u.replyReset b := by
    unfold State.bayEchoFault
    rw [if_pos (by rw [htx]; rfl), bayLineFault_reset .echoMismatch htx hnot ht]
    have hfault : ((s.updBay b (Bay.faulted s.time)).updBay b (fun x => { x with line := { x.line with
      rate := .standard, gapRate := .standard } })).enterFault b LineFault.echoMismatch.reason = u := hu.symm
    rw [hfault]
    refine work_still (by rw [replyReset_bay, hbay]; rfl) (hq.congr ?_)
    rw [replyReset_cipher, hu]
    rfl
  have hlink := replyReset_link (s := u) (b := b) (by rw [hbay]; exact hr) huh huq
  have hwaiting : (u.replyReset b).link.waiting = u.link.waiting ++ [.reply r.tag [0x00#8, 0x06#8]] := by
    rw [hlink, hbay]; rfl
  have hframe : BayFrame b s (u.replyReset b) := by
    refine BayFrame.trans ?_ (replyReset_path b u).frame
    rw [hu]
    exact (bayFaulted_frame b s).trans ((setBay_frame b _ _).trans ((setBay_frame b _ _).trans (raise_frame b _ _)))
  refine ⟨_, (event_powered _ hp).trans (congrArg (fun t : State => Host.Outcome.next t.beginFrame) hlast), hframe.event.1,
    hframe.event.2, ?_, ?_, ?_, ?_, beginFrame_reply hwaiting⟩
  · rw [beginFrame_bay, replyReset_bay, hbay]
  · rw [beginFrame_bay, replyReset_bay, hbay]
  · rw [beginFrame_bay, replyReset_bay, hbay]
  · rw [beginFrame_head, hlink]

/-! ### The held-active count -/

/-- What falls due on a bay line falls due in the unit. -/
theorem lineDue_mem_due {s : State} {b : BayId} {i : Instr} (hp : s.powered = true)
    (h : i ∈ lineDue (.bay b) s.time (s.bay b).watched (s.bay b).line) : i ∈ s.due := by
  have hbay : i ∈ bayDue b s.time (s.bay b) := by
    unfold bayDue
    simp only [List.mem_append]
    exact .inl (.inl (.inl (.inl (.inl h))))
  unfold State.due
  rw [if_pos hp, List.mem_append, List.mem_append]
  exact .inr (.inr (List.mem_flatten.2 ⟨_, List.mem_map.2 ⟨b, mem_allBays b, rfl⟩, hbay⟩))

theorem held_mem_lineDue {line : LineId} {now : Nat} {l : LineEnd} (htx : l.tx = .idle) (ha : l.active = true)
    (hlong : max l.armedAt l.since + 16 * l.rate.unit ≤ now) : Instr.lineHeldActive line ∈ lineDue line now true l := by
  have hheld : l.held now = true := by simp [LineEnd.held, htx, ha, hlong]
  unfold lineDue
  rw [List.mem_append]
  exact .inr (by simp [whenDue, hheld])

/-- Settles O54, by what is in flight and the state of the bay. -/
theorem lineFaults : Obligations.LineFaults := by
  intro s b hp hq x
  refine ⟨fun hst htx hloop => ?_, fun f rate sentAt hst hf htx => ?_, fun hst hf hsend _ hloop => heldActive_ends hp hq hst hf hsend hloop,
    fun since r rest hst htx ht hr hh hqueue => mismatch_onReset hp hq hst htx ht hr hh hqueue, fun hw htx ha hlong => ?_⟩
  · refine (event_powered _ hp).trans (congrArg (fun t : State => Host.Outcome.next t.beginFrame) ?_)
    have hst' : (s.bay b).state = .ready := hst
    have htx' : (s.bay b).line.tx = .idle := htx
    have hwatched : (s.bay b).watched = true := by
      simp [Bay.watched, hst', htx', show (s.bay b).line.loopback = false from hloop, Tx.sending]
    have hline : (s.bay b).line.faulted s.time = x.line.reported s.time x.line.rate := by
      simp only [LineEnd.faulted, LineEnd.ended, LineEnd.reported, LineEnd.gapFrom, LineEnd.sentRate, htx', x]
    unfold State.bayHeldActive
    rw [if_pos hwatched, bayLineFault_ready .heldActive (by rw [htx']; rfl) hst']
    have hfault : (s.updBay b (Bay.faulted s.time)).enterFault b LineFault.heldActive.reason =
        (s.setBay b { x with state := .fault, faultReason := some .lineHeldActive
                             line := x.line.reported s.time x.line.rate }).raise .bayFault := by
      rw [State.enterFault, updBay_updBay, ← hline]
      rfl
    rw [hfault]
    exact work_still (by rw [raise_bay, bay_setBay_same]; rfl) (hq.congr rfl)
  · obtain ⟨t, ht, htr, htrest⟩ := lineFault_stops hq hst hf htx (.inl rfl)
    obtain ⟨u, hu, hur, hurest⟩ := lineFault_stops hq hst hf htx (.inr rfl)
    refine ⟨t, u, (event_powered _ hp).trans (by rw [← ht]), (event_powered _ hp).trans (by rw [← hu]), htr, hur, fun v hv => ?_⟩
    rcases hv with rfl | rfl
    · exact htrest
    · exact hurest
  · refine lineDue_mem_due (b := b) hp ?_
    rw [show (s.bay b).watched = true from hw]
    exact held_mem_lineDue htx ha hlong

end Sys2Proof.Machine

/-! The token ports and the completions of the key store's requests. -/

namespace Sys2Proof.Machine

/-! ### A port changed -/

@[simp] theorem setPort_setPort (s : State) (p : PortId) (x y : Port) : (s.setPort p x).setPort p y = s.setPort p y := by
  cases p <;> rfl

theorem updPort_eq (s : State) (p : PortId) (f : Port → Port) : s.updPort p f = s.setPort p (f (s.port p)) := rfl

@[simp] theorem portStep_setPort (s : State) (p : PortId) (q : Port) (x : PortState) :
    (s.setPort p q).portStep p x = s.setPort p { q with state := x } := by
  rw [State.portStep, updPort_eq, port_setPort_same, setPort_setPort]

@[simp] theorem portTo_setPort (s : State) (p : PortId) (q : Port) (x : PortState) :
    (s.setPort p q).portTo p x = (s.setPort p { q with state := x }).raise .token := by
  rw [State.portTo, updPort_eq, port_setPort_same, setPort_setPort]

/-- A READ_TOKEN due on a free line is sent (R139). -/
theorem portSend_free {s : State} {p : PortId} {q : Port} {n d : Nat} (hst : q.state = .reading n d .due) (htx : q.line.tx = .idle)
    (hfree : q.line.free = true) : (s.setPort p q).portSend p =
      s.setPort p { q with state := .reading n d .inFlight
                           line := q.line.begins s.time (.frame readTokenFrame .standard s.time false) } := by
  unfold State.portSend
  simp only [port_setPort_same, hst, htx, hfree, and_self, if_true, updPort_eq, setPort_setPort, setPort_time]
  rfl

/-- A READ_TOKEN due on a line that is busy or in its gap waits (R55, R139). -/
theorem portSend_busy {s : State} {p : PortId} (h : (s.port p).line.tx ≠ .idle ∨ (s.port p).line.free = false) :
    s.portSend p = s := by
  unfold State.portSend
  dsimp only
  split
  · rw [if_neg]
    rintro ⟨htx, hfree⟩
    rcases h with h | h
    · exact h htx
    · simp [hfree] at h
  · rfl

/-- A port that raises its flag leaves the same port behind. -/
theorem portSend_raise {s : State} {p : PortId} (f : Flag) : (s.raise f).portSend p = (s.portSend p).raise f := by
  have hport : (s.raise f).port p = s.port p := by cases p <;> rfl
  have hset : ∀ q, (s.raise f).setPort p q = (s.setPort p q).raise f := fun q => by cases p <;> rfl
  unfold State.portSend
  simp only [hport, updPort_eq, raise_time, hset]
  split
  · split <;> rfl
  · rfl

/-! ### No request of a kind outstanding -/

/-- No request of a kind is outstanding. -/
def Cipher.lacks (p : CipherJob → Bool) (c : Cipher) : Prop := c.outstanding p = false

theorem lacks_iff (p : CipherJob → Bool) (c : Cipher) : c.lacks p ↔
    (∀ r ∈ c.queue, p r.job = false) ∧ (∀ r ∈ c.waiting, p r.job = false) ∧
      ∀ r, c.running = some r → p r.job = false ∨ r.withdrawn = true := by
  unfold Cipher.lacks Cipher.outstanding
  cases c.running <;> simp [and_assoc, Decidable.or_iff_not_imp_left]

/-- A change of the cipher unit that brings no request of the kind. -/
theorem Cipher.lacks.of_subset {p : CipherJob → Bool} {c d : Cipher} (h : c.lacks p)
    (hq : ∀ r ∈ d.queue, (∃ r' ∈ c.queue ++ c.waiting, r.job = r'.job) ∨ p r.job = false)
    (hw : ∀ r ∈ d.waiting, (∃ r' ∈ c.queue ++ c.waiting, r.job = r'.job) ∨ p r.job = false)
    (hr : ∀ r, d.running = some r → (∃ r', c.running = some r' ∧ r.job = r'.job ∧ (r'.withdrawn = true → r.withdrawn = true)) ∨
      ∃ r' ∈ c.queue, r.job = r'.job) : d.lacks p := by
  rw [lacks_iff] at h ⊢
  obtain ⟨h1, h2, h3⟩ := h
  have hlisted : ∀ r : CipherRequest, ((∃ r' ∈ c.queue ++ c.waiting, r.job = r'.job) ∨ p r.job = false) →
      p r.job = false := fun r hr => by
    rcases hr with ⟨r', hr', hj⟩ | hj
    · rw [hj]
      exact (List.mem_append.1 hr').elim (h1 r') (h2 r')
    · exact hj
  refine ⟨fun r h => hlisted r (hq r h), fun r h => hlisted r (hw r h), fun r h => ?_⟩
  rcases hr r h with ⟨r', hr', hj, hwd⟩ | ⟨r', hr', hj⟩
  · exact (h3 r' hr').imp (hj ▸ ·) hwd
  · exact .inl (hj ▸ h1 r' hr')

theorem Cipher.lacks.examine {p : CipherJob → Bool} {c : Cipher} (h : c.lacks p) : c.examine.lacks p := by
  obtain ⟨joined, left, hq, hw, hr, hj, hl, _⟩ := examineFrom_spec c.waiting { c with waiting := [] }
  refine h.of_subset (fun r hm => .inl ⟨r, ?_, rfl⟩) (fun r hm => .inl ⟨r, ?_, rfl⟩) fun r hm => .inl ⟨r, ?_, rfl, id⟩
  · rw [Cipher.examine, hq] at hm
    exact List.mem_append.2 ((List.mem_append.1 hm).imp id fun h => hj.subset h)
  · rw [Cipher.examine, hw] at hm
    exact List.mem_append.2 (.inr (hl.subset (by simpa using hm)))
  · rwa [Cipher.examine, hr] at hm

theorem Cipher.lacks.withdraw {p : CipherJob → Bool} {c : Cipher} (h : c.lacks p) (t : CipherJob → Bool) : (c.withdraw t).lacks p := by
  refine Cipher.lacks.examine (h.of_subset (fun r hm => .inl ⟨r, ?_, rfl⟩) (fun r hm => .inl ⟨r, ?_, rfl⟩) fun r hm => .inl ?_)
  · exact List.mem_append.2 (.inl (List.mem_filter.1 hm).1)
  · exact List.mem_append.2 (.inr (List.mem_filter.1 hm).1)
  · obtain ⟨r', hr', rfl⟩ := Option.map_eq_some_iff.1 hm
    exact ⟨r', hr', by split <;> rfl, fun hwd => by split <;> simp [hwd]⟩

/-- The requests of the kind withdrawn (R106). -/
theorem lacks_withdrawn (p : CipherJob → Bool) (c : Cipher) : (c.withdraw p).lacks p := by
  refine Cipher.lacks.examine ((lacks_iff p _).2 ⟨fun r hm => ?_, fun r hm => ?_, fun r hm => ?_⟩)
  · simpa using (List.mem_filter.1 hm).2
  · simpa using (List.mem_filter.1 hm).2
  · obtain ⟨r', _, rfl⟩ := Option.map_eq_some_iff.1 hm
    cases hj : p r'.job <;> simp [hj]

theorem Cipher.lacks.place {p : CipherJob → Bool} {c : Cipher} {job : CipherJob} (h : c.lacks p) (hj : p job = false)
    (urgent : Bool) : (c.place job urgent).lacks p := by
  have hnew : ∀ r ∈ [({ job := job, urgent := urgent } : CipherRequest)], p r.job = false := by simpa using hj
  unfold Cipher.place
  dsimp only
  split
  all_goals refine h.of_subset (fun r hm => ?_) (fun r hm => ?_) fun r hm => .inl ⟨r, hm, rfl, id⟩
  · exact (List.mem_append.1 hm).imp (fun h => ⟨r, List.mem_append.2 (.inl h), rfl⟩) (hnew r)
  · exact .inl ⟨r, List.mem_append.2 (.inr hm), rfl⟩
  · exact .inl ⟨r, List.mem_append.2 (.inl hm), rfl⟩
  · exact (List.mem_append.1 hm).imp (fun h => ⟨r, List.mem_append.2 (.inr h), rfl⟩) (hnew r)

theorem Cipher.lacks.raise {p : CipherJob → Bool} {c : Cipher} (h : c.lacks p) (t : CipherJob → Bool) : (c.raise t).lacks p := by
  refine h.of_subset (fun r hm => .inl ?_) (fun r hm => .inl ?_) fun r hm => .inl ⟨r, hm, rfl, id⟩
  · obtain ⟨r', hr', rfl⟩ := List.mem_map.1 hm
    exact ⟨r', List.mem_append.2 (.inl hr'), by split <;> rfl⟩
  · obtain ⟨r', hr', rfl⟩ := List.mem_map.1 hm
    exact ⟨r', List.mem_append.2 (.inr hr'), by split <;> rfl⟩

theorem Cipher.lacks.run {p : CipherJob → Bool} {c : Cipher} {r : CipherRequest} {x : Running} (h : c.lacks p) (hr : r ∈ c.queue)
    (hx : x.job = r.job) : (c.run r x).lacks p := by
  refine h.of_subset (fun r' hm => .inl ⟨r', List.mem_append.2 (.inl (List.mem_of_mem_erase hm)), rfl⟩)
    (fun r' hm => .inl ⟨r', List.mem_append.2 (.inr hm), rfl⟩) fun r' hm => .inr ⟨r, hr, ?_⟩
  obtain rfl : x = r' := Option.some.inj hm
  exact hx

/-! ### A port left alone by internal work -/

/-- A port emptied: as it stands, its flag raised, and none of its component checks outstanding. -/
structure Seat (p : PortId) (q : Port) (s : State) : Prop where
  port : s.port p = q
  flag : s.notice.flags.token = true
  free : s.cipher.lacks (CipherJob.isPortCheck p)

section Seat
variable {p : PortId} {q : Port} {s : State}

theorem Seat.congr {t : State} (h : Seat p q s) (hp : t.port p = s.port p) (hn : t.notice = s.notice) (hc : t.cipher = s.cipher) :
    Seat p q t := ⟨hp.trans h.port, by rw [hn]; exact h.flag, hc ▸ h.free⟩

theorem Seat.cipher {c : Cipher} (h : Seat p q s) (hc : c.lacks (CipherJob.isPortCheck p)) : Seat p q { s with cipher := c } := by
  refine ⟨?_, h.flag, hc⟩
  rw [← h.port]; cases p <;> rfl

theorem Seat.upd (h : Seat p q s) (b : BayId) (f : Bay → Bay) : Seat p q (s.updBay b f) :=
  h.congr (by cases p <;> rfl) rfl rfl

theorem Seat.appendRecord (h : Seat p q s) (body : RecordBody) : Seat p q (s.appendRecord body) := by
  refine ⟨?_, ?_, h.free⟩
  · rw [← h.port]; cases p <;> rfl
  · exact h.flag

theorem Seat.requestAppend (h : Seat p q s) (b : BayId) (a : Addr) (r : TerminalRecord) : Seat p q (s.requestAppend b a r) := by
  rcases requestAppend_cases b a r s with ⟨_, _, heq⟩ | ⟨_, heq⟩
  · rw [heq]; exact (h.appendRecord _).upd b _
  · rw [heq]; exact h.congr (by cases p <;> rfl) rfl rfl

theorem Seat.decideOutcome (h : Seat p q s) (b : BayId) (a : Addr) (v : Verdict) : Seat p q (s.decideOutcome b a v) := by
  have hdrop : Seat p q { s.updBay b (Bay.decided a v) with cipher := s.cipher.dropContext b a } :=
    (h.upd b _).cipher (Cipher.lacks.withdraw (c := s.cipher.setHolder b a none) h.free _)
  unfold State.decideOutcome
  split
  · exact h
  split
  · exact h
  dsimp only
  split
  · exact hdrop
  · exact hdrop.requestAppend b a _

theorem Seat.placePrepare (h : Seat p q s) (b : BayId) (c : Context) (pr : Profile) (d : Descriptor) (pos : Nat) (urgent : Bool) :
    Seat p q (s.placePrepare b c pr d pos urgent) := by
  unfold State.placePrepare
  split
  · exact h
  · exact (h.upd b _).cipher (h.free.place rfl urgent)

theorem Seat.placeTransport (h : Seat p q s) (b : BayId) (c : Context) (pr : Profile) (urgent : Bool) :
    Seat p q (s.placeTransport b c pr urgent) := h.cipher (h.free.place rfl urgent)

theorem Seat.workTransport (h : Seat p q s) (b : BayId) : Seat p q (s.workTransport b) := by
  unfold State.workTransport
  split
  · exact h
  split
  · exact h
  split
  · exact h.upd b _
  split
  · exact h.cipher (h.free.raise _)
  split
  · exact h.placeTransport b _ _ true
  · exact h

theorem Seat.workLoading (h : Seat p q s) (b : BayId) : Seat p q (s.workLoading b) := by
  unfold State.workLoading
  split
  · exact h
  split
  · exact h
  split
  · exact h
  split
  · exact h.upd b _
  dsimp only
  split
  · exact h.upd b _
  split
  · exact (h.upd b _).cipher (h.free.raise _)
  split
  · exact (h.upd b _).placePrepare b _ _ _ _ true
  · exact h.upd b _

theorem Seat.aheadNext (h : Seat p q s) (b : BayId) (c : Context) : Seat p q (s.aheadNext b c) := by
  unfold State.aheadNext
  split
  · exact h
  split
  · split
    · exact h
    · exact h.placeTransport b _ _ false
  split
  · exact h
  split
  · exact h
  · exact h.placePrepare b _ _ _ _ false

theorem Seat.aheadOnce (h : Seat p q s) (b : BayId) : Seat p q (s.aheadOnce b) := by
  unfold State.aheadOnce
  split
  · exact h
  split
  · exact h
  split
  · split
    · split
      · exact h.placePrepare b _ _ _ _ false
      · exact h
    · split
      · exact h.aheadNext b _
      · exact h
  · exact h

theorem Seat.sendNext (h : Seat p q s) (b : BayId) : Seat p q (s.sendNext b) := by
  unfold State.sendNext
  dsimp only
  split
  · split
    · exact h.upd b _
    · exact h
  · exact h

theorem Seat.advance (h : Seat p q s) (b : BayId) : Seat p q (s.advance b) := by
  unfold State.advance
  split
  · exact h.sendNext b
  · split
    · exact ((h.appendRecord _).upd b _).cipher h.free
    · exact ((((h.upd b _).workTransport b).workLoading b).aheadOnce b |>.aheadOnce b).sendNext b
  · exact h

theorem Seat.failRequest (h : Seat p q s) (job : CipherJob) (reason : FailReason) : Seat p q (s.failRequest job reason) := by
  cases job with
  | transport b a => exact h.decideOutcome b a _
  | prepare b a => exact h.decideOutcome b a _
  | portCheck => exact h
  | storeCheck => exact h
  | importKey =>
    rw [State.failRequest, answer_eq]
    exact h.congr (by cases p <;> rfl) rfl rfl

theorem Seat.countUse (h : Seat p q s) (used : Option SlotId) : Seat p q (s.countUse used) := by
  cases used with
  | none => exact h
  | some k => exact h.congr (by cases p <;> rfl) rfl rfl

theorem Seat.freeEngine (h : Seat p q s) : Seat p q s.freeEngine := by
  refine h.cipher (Cipher.lacks.examine (h.free.of_subset ?_ ?_ ?_))
  · exact fun r hr => .inl ⟨r, List.mem_append.2 (.inl hr), rfl⟩
  · exact fun r hr => .inl ⟨r, List.mem_append.2 (.inr hr), rfl⟩
  · exact fun r hr => by simp at hr

theorem Seat.started {t : State} (h : Seat p q s) (ht : s.engineTake = .started t) : Seat p q t := by
  unfold State.engineTake at ht
  split at ht
  · next r _ hr =>
    split at ht
    · cases ht
    · cases ht
      exact (h.countUse _).cipher (h.free.run (choice_mem hr) rfl)
  · cases ht

theorem Seat.ended {t : State} {r : Running} {reason : FailReason} (h : Seat p q s) (ht : s.engineTake = .ended r reason t) :
    Seat p q t := by
  unfold State.engineTake at ht
  split at ht
  · next r _ hr =>
    split at ht
    · cases ht
      exact h.cipher (h.free.run (choice_mem hr) rfl)
    · cases ht
  · cases ht

/-- Internal work leaves a port as it stands. -/
theorem Seat.settle (h : Seat p q s) (n : Nat) (l : List BayId) : Seat p q (s.settle n l) := by
  induction n generalizing l s with
  | zero => exact h
  | succ n ih =>
    cases l with
    | cons b rest => exact ih (h.advance b) rest
    | nil =>
      simp only [State.settle]
      split
      · exact h
      · next t ht => exact h.started ht
      · next r reason t ht => exact ih ((h.ended ht).failRequest r.job reason).freeEngine _

theorem Seat.work (h : Seat p q s) (l : List BayId) : Seat p q (s.work l) := h.settle _ l

theorem Seat.beginFrame (h : Seat p q s) : Seat p q s.beginFrame := by
  rcases beginFrame_cases s with hb | ⟨_, _, hb⟩ | ⟨_, _, ⟨_, _, _, _, hb⟩ | ⟨_, _, _, _, hb⟩⟩ <;> rw [hb]
  · exact h
  all_goals exact h.congr (by cases p <;> rfl) rfl rfl

end Seat

/-! ### Presence and settling -/

/-- A port taken to EMPTY: its frame cut and its component check withdrawn (R142). -/
def State.emptiedPort (p : PortId) (s : State) : State :=
  { (s.setPort p { state := .empty, contact := false, line := (s.port p).line.cutFrame s.time }).raise .token with
    cipher := s.cipher.withdraw (CipherJob.isPortCheck p) }

/-- What a token that is gone does to an assembly (R128). -/
def PortState.loses : PortState → State → State
  | .read _, s => s.assemblyLosesToken
  | _, s => s

theorem contactOpens_eq {s : State} {p : PortId} (h : (s.port p).state ≠ .empty) :
    s.contactOpens p = ((s.port p).state.loses (s.emptiedPort p)).work [] := by
  unfold State.contactOpens
  dsimp only
  split
  · next he => exact absurd he h
  · generalize (s.port p).state = x
    cases x <;> cases p <;> rfl

theorem emptiedPort_seat (s : State) (p : PortId) :
    Seat p { state := .empty, contact := false, line := (s.port p).line.cutFrame s.time } (s.emptiedPort p) :=
  ⟨by cases p <;> rfl, rfl, lacks_withdrawn (CipherJob.isPortCheck p) s.cipher⟩

theorem Seat.loses {p : PortId} {q : Port} {s : State} (h : Seat p q s) (x : PortState) : Seat p q (x.loses s) := by
  unfold PortState.loses
  split
  · unfold State.assemblyLosesToken
    split
    · rw [endProgress_eq, answer_eq]
      exact Seat.congr (h.cipher (h.free.withdraw _)) (by cases p <;> rfl) rfl rfl
    · exact h
  · exact h

/-- An assembly that loses its token is over, and its answer waits to be sent (R128). -/
theorem assemblyLosesToken_eq {s : State} {r : KeyRequest} {key : Key} {idA idB : Word32} {rq : Request} {rest : List Request}
    (hprog : s.keys.progress = some (.assembly r key idA idB)) (hhead : s.link.head = .withOwner) (hqueue : s.link.queue = rq :: rest) :
    s.assemblyLosesToken.keys = { s.keys with progress := none } ∧
      s.assemblyLosesToken.cipher = s.cipher.withdraw CipherJob.isStoreJob ∧
      s.assemblyLosesToken.link.waiting = s.link.waiting ++ [.reply rq.tag [0x0D#8]] := by
  have heq : s.assemblyLosesToken = ({ s with cipher := s.cipher.withdraw CipherJob.isStoreJob }).endProgress .tokenAbsent [] := by
    simp only [State.assemblyLosesToken, hprog]
  rw [heq, endProgress_eq, answer_eq]
  refine ⟨rfl, rfl, ?_⟩
  simp only [Link.answer, State.clearProgress, hhead, hqueue]
  rfl

theorem emptiedPort_keys (s : State) (p : PortId) : (s.emptiedPort p).keys = s.keys := by cases p <;> rfl
theorem emptiedPort_link (s : State) (p : PortId) : (s.emptiedPort p).link.head = s.link.head ∧
    (s.emptiedPort p).link.queue = s.link.queue := by
  cases p <;> exact raise_head_queue .token _

theorem cutFrame_idle (now : Nat) (l : LineEnd) : (l.cutFrame now).tx = .idle := by
  unfold LineEnd.cutFrame
  split
  · assumption
  · rfl

/-- Settles O59, by the state of the port. -/
theorem portSeated : Obligations.PortSeated := by
  intro s p hp q
  refine ⟨fun hst => ⟨?_, ?_⟩, fun hst => ?_, fun hst => ?_, fun since hst htx hfree => ?_, fun since hst hbusy => ?_⟩
  · refine (event_powered _ hp).trans (congrArg (fun t : State => Host.Outcome.next t.beginFrame) ?_)
    simp only [State.contactCloses, show (s.port p).state = .empty from hst, updPort_eq, portTo_setPort]
    rfl
  · refine (event_powered _ hp).trans (congrArg (fun t : State => Host.Outcome.next t.beginFrame) ?_)
    unfold State.contactOpens
    dsimp only
    split
    · rfl
    · next h => exact absurd hst h
  · refine (event_powered _ hp).trans (congrArg (fun t : State => Host.Outcome.next t.beginFrame) ?_)
    unfold State.contactCloses
    dsimp only
    split
    · next h => exact absurd h hst
    · rfl
  · have hopens := contactOpens_eq (s := s) (p := p) hst
    refine ⟨_, (event_powered _ hp).trans (congrArg (fun t : State => Host.Outcome.next t.beginFrame) hopens), ?_⟩
    have hseat := (((emptiedPort_seat s p).loses (s.port p).state).work []).beginFrame
    refine ⟨by rw [hseat.port], by rw [hseat.port], by rw [hseat.port]; exact cutFrame_idle _ _, hseat.flag, hseat.free, ?_⟩
    intro token r key idA idB rq rest hread hprog hhead hqueue hq
    have hread : (s.port p).state = .read token := hread
    obtain ⟨hkeys, hcipher, hwait⟩ := assemblyLosesToken_eq (s := s.emptiedPort p) (r := r) (key := key) (idA := idA) (idB := idB)
      (rq := rq) (rest := rest) (by rw [emptiedPort_keys]; exact hprog)
      ((emptiedPort_link s p).1.trans hhead) ((emptiedPort_link s p).2.trans hqueue)
    have hquiet : EngineQuiet (s.emptiedPort p).assemblyLosesToken := by
      rw [engineQuiet_iff, hcipher]
      exact Cipher.quiet.withdraw (Cipher.quiet.withdraw hq _) _
    have hwork : ((s.port p).state.loses (s.emptiedPort p)).work [] = (s.emptiedPort p).assemblyLosesToken := by
      rw [hread]; exact work_nil hquiet
    rw [hwork]
    refine ⟨?_, ?_, beginFrame_reply hwait⟩
    · rw [beginFrame_keys, hkeys]
    · rw [beginFrame_keys, hkeys, emptiedPort_keys]
  · refine (event_powered _ hp).trans (congrArg (fun t : State => Host.Outcome.next t.beginFrame) ?_)
    have hready : s.portTo p (.reading 0 0 .due) = (s.setPort p { q with state := .reading 0 0 .due }).raise .token := rfl
    simp only [State.settled, show (s.port p).state = .settling since from hst]
    rw [hready, portSend_raise, portSend_free (q := { q with state := .reading 0 0 .due }) rfl htx hfree]
  · refine (event_powered _ hp).trans (congrArg (fun t : State => Host.Outcome.next t.beginFrame) ?_)
    have hready : s.portTo p (.reading 0 0 .due) = (s.setPort p { q with state := .reading 0 0 .due }).raise .token := rfl
    simp only [State.settled, show (s.port p).state = .settling since from hst]
    rw [hready, portSend_raise, portSend_busy (by rw [port_setPort_same]; exact hbusy)]

end Sys2Proof.Machine

/-! The completions of the key store's requests (R105, R127, R130), and the reading of a token (R139 to R141). -/

namespace Sys2Proof.Machine

/-- The cipher unit once its running request is over. -/
def Cipher.ended (c : Cipher) : Cipher := { c with running := none }

/-- A request of no bay that completes with nothing behind it: its result is handed over and the engine is free (R105). -/
theorem complete_alone {s : State} {kind : CipherJob → Bool} {r : Running} (hrun : s.cipher.running = some r) (hk : kind r.job = true)
    (hbay : r.job.bay = none) (hq : s.cipher.queue = []) (hw : s.cipher.waiting = []) (hc : (s.deliver r).cipher = s.cipher) :
    s.complete kind = { s.deliver r with cipher := s.cipher.ended } := by
  have hfree : (s.deliver r).freeEngine = { s.deliver r with cipher := s.cipher.ended } := by
    rw [State.freeEngine, hc]
    exact congrArg (fun c => { s.deliver r with cipher := c }) (examine_nil (c := s.cipher.ended) hw)
  simp only [State.complete, hrun, hk, if_true, hbay, Option.toList_none]
  rw [hfree]
  exact work_nil (.inr ⟨hq, hw⟩)

/-- A refused storing: the request is over and answered. -/
theorem endProgress_ended (code : ResultCode) (contents : List Byte) (s : State) :
    ({ s.endProgress code contents with cipher := s.cipher.ended } : State) =
      ({ s.clearProgress with cipher := s.cipher.ended } : State).answer code contents := by
  rw [endProgress_eq, answer_eq, answer_eq]

/-- CHECK_COMPLETE of an assembly, by what becomes of it. -/
theorem checkComplete_assembly {s t : State} {key : Key} {urgent : Bool} {m : Material} (hp : s.powered = true)
    (hq : s.cipher.queue = []) (hw : s.cipher.waiting = [])
    (hrun : s.cipher.running = some { job := .storeCheck key, urgent := urgent, withdrawn := false, material := m })
    (ht : s.assemblyChecked (checkValue key) = t) (hc : t.cipher = s.cipher) :
    exec .checkComplete s = .next ({ t with cipher := s.cipher.ended } : State).beginFrame := by
  refine (event_powered _ hp).trans (congrArg (fun t : State => Host.Outcome.next t.beginFrame) ?_)
  rw [complete_alone hrun rfl rfl hq hw ((congrArg State.cipher ht).trans hc)]
  exact congrArg (fun t : State => ({ t with cipher := s.cipher.ended } : State)) ht

/-- IMPORT_COMPLETE of an import, by what becomes of it. -/
theorem importComplete_import {s t : State} {transfer : SlotId} {wrapped tkey : Key} {tgen : Generation} {urgent : Bool}
    (hp : s.powered = true) (hq : s.cipher.queue = []) (hw : s.cipher.waiting = [])
    (hrun : s.cipher.running = some { job := .importKey transfer wrapped, urgent := urgent, withdrawn := false
                                      material := .slot tkey tgen })
    (ht : s.importDeciphered (Config.decipher tkey wrapped) (checkValue (Config.decipher tkey wrapped)) = t)
    (hc : t.cipher = s.cipher) :
    exec .importComplete s = .next ({ t with cipher := s.cipher.ended } : State).beginFrame := by
  refine (event_powered _ hp).trans (congrArg (fun t : State => Host.Outcome.next t.beginFrame) ?_)
  rw [complete_alone hrun rfl rfl hq hw ((congrArg State.cipher ht).trans hc)]
  exact congrArg (fun t : State => ({ t with cipher := s.cipher.ended } : State)) ht

theorem endProgress_cipher (code : ResultCode) (contents : List Byte) (s : State) : (s.endProgress code contents).cipher = s.cipher := by
  rw [endProgress_eq, answer_eq]; rfl

/-- Settles O58, by what the check value and the report queue say. -/
theorem storedOnCompletion : Obligations.StoredOnCompletion := by
  intro s hp hq hw ended stored reply
  refine ⟨?_, ?_, ?_⟩
  · intro r key idA idB urgent m hprog hrun check
    refine ⟨fun hne => ?_, fun heq hroom => ?_, fun heq hroom => ?_⟩
    · have ht : s.assemblyChecked (checkValue key) = s.endProgress .checkMismatch [] := by
        simp only [State.assemblyChecked, hprog]; exact if_pos hne
      rw [checkComplete_assembly hp hq hw hrun ht (endProgress_cipher _ _ s), endProgress_ended]
      rfl
    · have ht : s.assemblyChecked (checkValue key) = s.endProgress .queueFull [] := by
        simp only [State.assemblyChecked, hprog, hroom]; exact if_neg (not_not.2 heq)
      rw [checkComplete_assembly hp hq hw hrun ht (endProgress_cipher _ _ s), endProgress_ended]
      rfl
    · have ht := checkComplete_assembly hp hq hw hrun (t := ((s.setSlot r.slot (stored r .assembled key check)).appendRecord
            (.keyChange { slot := r.slot, action := .assembled, kind := r.kind, gen := r.gen, check := some check
                          custodians := some (idA, idB) })).endProgress .ok (reply r check))
        (by simp only [State.assemblyChecked, hprog, hroom, if_true]; exact if_neg (not_not.2 heq)) (endProgress_cipher _ _ _)
      rw [ht]
      refine congrArg (fun t : State => Host.Outcome.next t.beginFrame) ?_
      rw [endProgress_eq, answer_eq, answer_eq]
      rfl
  · intro r transfer wrapped tkey tgen urgent hprog hne hrun key check
    refine ⟨fun hne' => ?_, fun heq hroom => ?_, fun heq hroom => ?_⟩
    · have ht : s.importDeciphered key check = s.endProgress .checkMismatch [] := by
        simp only [State.importDeciphered, hprog]; exact if_pos hne'
      rw [importComplete_import hp hq hw hrun ht (endProgress_cipher _ _ s), endProgress_ended]
      rfl
    · have ht : s.importDeciphered key check = s.endProgress .queueFull [] := by
        simp only [State.importDeciphered, hprog, hroom]; exact if_neg (not_not.2 heq)
      rw [importComplete_import hp hq hw hrun ht (endProgress_cipher _ _ s), endProgress_ended]
      rfl
    · have hslot : (s.setSlot r.slot (stored r .imported key check)).slot transfer = s.slot transfer := by
        rw [slot_setSlot, if_neg hne]
      have ht := importComplete_import hp hq hw hrun (t := (((s.setSlot r.slot (stored r .imported key check)).setSlot transfer
            (s.slot transfer).countUse).appendRecord
            (.keyChange { slot := r.slot, action := .imported, kind := r.kind, gen := r.gen, check := some check
                          custodians := none })).endProgress .ok (reply r check))
        (by
          rw [← hslot]
          simp only [State.importDeciphered, hprog, hroom, if_true]
          exact if_neg (not_not.2 heq)) (endProgress_cipher _ _ _)
      rw [ht]
      refine congrArg (fun t : State => Host.Outcome.next t.beginFrame) ?_
      rw [endProgress_eq, answer_eq, answer_eq]
      rfl
  · intro key urgent m hrun
    refine (event_powered _ hp).trans (congrArg (fun t : State => Host.Outcome.next t.beginFrame) ?_)
    exact complete_alone hrun rfl rfl hq hw rfl

/-! ### The content of a token's answer (R140) -/

theorem role_ofCode_code (r : Role) : Role.ofCode r.code = some r := by cases r <;> rfl

/-- A token's own answer is read as what it holds (R140). -/
theorem tokenContent_answerBytes (token : Token) (hid : token.id ≠ 0) : tokenContent token.answerBytes =
    match token.component with
    | none => .plain token
    | some (key, _) => .carrying token key := by
  obtain ⟨id, role, component⟩ := token
  obtain ⟨i0, i1, i2, i3, hbytes⟩ : ∃ i0 i1 i2 i3, wordBytes 4 id = [i0, i1, i2, i3] := ⟨_, _, _, _, rfl⟩
  have hword : beWord 32 [i0, i1, i2, i3] = id := by rw [← hbytes]; exact beWord_wordBytes (by norm_num) id
  have hknown : id ≠ 0#32 := hid
  cases component with
  | none =>
    have hanswer : ({ id := id, role := role, component := none } : Token).answerBytes =
        [i0, i1, i2, i3, role.code, 0x00#8] ++ List.replicate 19 0x00#8 := by
      simp only [Token.answerBytes, hbytes]; rfl
    rw [hanswer]
    unfold tokenContent
    simp [hword, hknown, role_ofCode_code]
  | some x =>
    obtain ⟨key, check⟩ := x
    have hanswer : ({ id := id, role := role, component := some (key, check) } : Token).answerBytes =
        [i0, i1, i2, i3, role.code, 0x01#8] ++ (wordBytes 16 key ++ wordBytes 3 check) := by
      simp only [Token.answerBytes, hbytes, List.append_assoc]; rfl
    have hkey : beWord 128 (wordBytes 16 key) = key := beWord_wordBytes (by norm_num) key
    have hcheck : beWord 24 (wordBytes 3 check) = check := beWord_wordBytes (by norm_num) check
    rw [hanswer]
    unfold tokenContent
    have htake : List.take 3 (wordBytes 3 check) = wordBytes 3 check := List.take_of_length_le (length_wordBytes 3 check).le
    simp [hword, hknown, role_ofCode_code, hkey, hcheck, htake, List.drop_append]

/-! ### The read of a token (R139) -/

section Read
variable {s : State} {p : PortId} {q : Port} {n d : Nat} {x : ReadStep}

theorem readFailed_deferral (hst : q.state = .reading n d x) : (s.setPort p q).readFailed p .deferral =
    if 6 ≤ d + 1 then (s.setPort p { q with state := .unreadable .deferred }).raise .token
    else s.setPort p { q with state := .reading n (d + 1) (.waiting (s.time + 50000)) } := by
  simp only [State.readFailed, port_setPort_same, hst, portTo_setPort, portStep_setPort, setPort_time]
  rfl

/-- A read attempt that brings nothing counts, and the READ_TOKEN is due again in its gap (R139). -/
theorem readFailed_attempt (hst : q.state = .reading n d x) (hfree : q.line.free = false) {ans : Answer} {cause : PortCause}
    (h : ans = .absent ∧ cause = .noAnswer ∨ ans = .garbled ∧ cause = .garbled) : (s.setPort p q).readFailed p ans =
    if 3 ≤ n + 1 then (s.setPort p { q with state := .unreadable cause }).raise .token
    else s.setPort p { q with state := .reading (n + 1) d .due } := by
  have hagain : (s.setPort p { q with state := .reading (n + 1) d .due }).portSend p =
      s.setPort p { q with state := .reading (n + 1) d .due } :=
    portSend_busy (by rw [port_setPort_same]; exact .inr hfree)
  rcases h with ⟨rfl, rfl⟩ | ⟨rfl, rfl⟩
  all_goals simp only [State.readFailed, port_setPort_same, hst, portTo_setPort, portStep_setPort, hagain]


theorem tokenRead_bad (hst : q.state = .reading n d x) {bytes : List Byte} (h : tokenContent bytes = .bad) :
    (s.setPort p q).tokenRead p bytes = (s.setPort p { q with state := .unreadable .badContent }).raise .token := by
  simp only [State.tokenRead, port_setPort_same, hst, h, portTo_setPort]

theorem tokenRead_plain (hst : q.state = .reading n d x) {bytes : List Byte} {token : Token} (h : tokenContent bytes = .plain token) :
    (s.setPort p q).tokenRead p bytes = (s.setPort p { q with state := .read token }).raise .token := by
  simp only [State.tokenRead, port_setPort_same, hst, h, portTo_setPort]

/-- A component goes to the cipher unit, which an idle engine begins to check at once (R103, R141). -/
theorem tokenRead_carrying (hst : q.state = .reading n d x) {bytes : List Byte} {token : Token} {key : Key}
    (h : tokenContent bytes = .carrying token key) (hc : CipherEmpty s) : (s.setPort p q).tokenRead p bytes =
      { s.setPort p { q with state := .reading n d (.checking token) } with
        cipher := { s.cipher with running := some { job := .portCheck p key, urgent := false, withdrawn := false
                                                    material := .none } } } := by
  simp only [State.tokenRead, port_setPort_same, hst, h, portStep_setPort]
  have hempty : CipherEmpty (s.setPort p { q with state := .reading n d (.checking token) }) := by
    unfold CipherEmpty; rw [setPort_cipher]; exact hc
  refine (work_placed hempty (m := .none) rfl).trans ?_
  rw [setPort_cipher]

end Read

/-- With no request there is none to withdraw. -/
theorem withdraw_empty {c : Cipher} (hr : c.running = none) (hq : c.queue = []) (hw : c.waiting = []) (t : CipherJob → Bool) :
    c.withdraw t = c := by
  have hsame : ({ c with queue := c.queue.filter (fun r => !t r.job)
                         waiting := c.waiting.filter (fun r => !t r.job)
                         running := c.running.map (fun r => if t r.job then { r with withdrawn := true } else r) } : Cipher) = c := by
    rw [hr, hq, hw]
    cases c
    simp_all
  exact (congrArg Cipher.examine hsame).trans (examine_nil hw)

section InFlight
variable {s : State} {p : PortId} {n d sentAt : Nat} {x : ReadStep} {passed : Bool}

/-- The end of a READ_TOKEN frame (R55, R139). -/
theorem ended_readToken {l : LineEnd} (htx : l.tx = .frame readTokenFrame .standard sentAt passed) (now : Nat) :
    l.ended now = l.gapFrom now .standard := by
  unfold LineEnd.ended LineEnd.gapFrom LineEnd.sentRate; rw [htx]

theorem faulted_readToken {l : LineEnd} (htx : l.tx = .frame readTokenFrame .standard sentAt passed) (now : Nat) :
    l.faulted now = l.reported now .standard := by
  unfold LineEnd.faulted LineEnd.reported; rw [ended_readToken htx]

variable (htx : (s.port p).line.tx = .frame readTokenFrame .standard sentAt passed)
include htx

theorem portFrameEnded_eq (shown : List Nat) : s.portFrameEnded p shown = s.portAnswer p (judgeAnswer .standard 25 shown) := by
  simp only [State.portFrameEnded, htx]

theorem portAnswer_failed {ans : Answer} (h : ans = .deferral ∨ ans = .absent ∨ ans = .garbled) : s.portAnswer p ans =
    (s.setPort p { s.port p with line := (s.port p).line.gapFrom s.time .standard }).readFailed p ans := by
  have hend := ended_readToken htx s.time
  rcases h with rfl | rfl | rfl <;> simp only [State.portAnswer, updPort_eq, hend]

theorem portAnswer_clean (bytes : List Byte) : s.portAnswer p (.clean bytes) =
    (s.setPort p { s.port p with line := (s.port p).line.gapFrom s.time .standard }).tokenRead p bytes := by
  simp only [State.portAnswer, updPort_eq, ended_readToken htx s.time]

/-- A fault on a token line with no other request at the cipher unit (R143). -/
theorem portLineFault_eq (hst : (s.port p).state = .reading n d x) (hc : CipherEmpty s) : s.portLineFault p =
    (s.setPort p { s.port p with state := .unreadable .lineFault, line := (s.port p).line.reported s.time .standard }).raise .token := by
  have hsame : ∀ q, ({ s.setPort p q with cipher := s.cipher.withdraw (CipherJob.isPortCheck p) } : State) = s.setPort p q := fun q => by
    rw [withdraw_empty hc.1 hc.2.1 hc.2.2]; cases p <;> rfl
  simp only [State.portLineFault, hst, updPort_eq, faulted_readToken htx s.time, setPort_cipher, hsame, portTo_setPort]
  exact work_nil (.inr (by rw [raise_cipher, setPort_cipher]; exact hc.2))

end InFlight

/-! ### The reading of a token -/

/-- Settles O60: each outcome of a read, by the table of R139 and the tests of R140 and R141. -/
theorem tokenRead : Obligations.TokenRead := by
  refine ⟨tokenContent_answerBytes, fun s p n d hp => ?_⟩
  intro q becomes changes sent gapLine faultLine
  have hevent : ∀ {f : State → State} {t : State}, f s = t → event f s = .next t.beginFrame := fun h =>
    (event_powered _ hp).trans (congrArg (fun t : State => Host.Outcome.next t.beginFrame) h)
  refine ⟨?_, ?_, ?_, ?_, ?_⟩
  · intro sentAt passed shown hst htx ans i
    have hst : (s.port p).state = .reading n d .inFlight := hst
    have htx : (s.port p).line.tx = .frame readTokenFrame .standard sentAt passed := htx
    have hends : s.portFrameEnded p shown = s.portAnswer p ans := portFrameEnded_eq htx shown
    obtain ⟨y, hy⟩ : ∃ y : Port, y = { s.port p with line := gapLine } := ⟨_, rfl⟩
    have hyst : y.state = .reading n d .inFlight := by rw [hy]; exact hst
    have hyfree : y.line.free = false := by rw [hy]; rfl
    have hfailed : ∀ {a : Answer}, (a = .deferral ∨ a = .absent ∨ a = .garbled) → s.portAnswer p a = (s.setPort p y).readFailed p a :=
      fun ha => hy ▸ portAnswer_failed htx ha
    have hclean : ∀ bytes, ans = .clean bytes → s.portFrameEnded p shown = (s.setPort p y).tokenRead p bytes := fun bytes h =>
      hends.trans (by rw [h, hy]; exact portAnswer_clean htx bytes)
    have hdefer : s.portAnswer p .deferral = _ := (hfailed (.inl rfl)).trans (readFailed_deferral hyst)
    have habsent : s.portAnswer p .absent = _ := (hfailed (.inr (.inl rfl))).trans (readFailed_attempt hyst hyfree (.inl ⟨rfl, rfl⟩))
    have hgarbled : s.portAnswer p .garbled = _ := (hfailed (.inr (.inr rfl))).trans (readFailed_attempt hyst hyfree (.inr ⟨rfl, rfl⟩))
    rw [hy] at hdefer habsent hgarbled
    refine ⟨fun h => ⟨fun hlt => ?_, fun hge => ?_⟩, fun h => ⟨fun hlt => ?_, fun hge => ?_⟩, fun h => ⟨fun hlt => ?_, fun hge => ?_⟩,
      fun hlt => ?_, fun bytes h hb => ?_, fun bytes token h hb => ?_, fun bytes token key h hb hc => ?_, ?_, fun hpass hc => ⟨?_, ?_⟩,
      fun hpass hc => ?_⟩
    · exact hevent (hends.trans ((congrArg (fun a => s.portAnswer p a) h).trans (hdefer.trans (if_neg (Nat.not_le.2 hlt)))))
    · exact hevent (hends.trans ((congrArg (fun a => s.portAnswer p a) h).trans (hdefer.trans (if_pos hge))))
    · exact hevent (hends.trans ((congrArg (fun a => s.portAnswer p a) h).trans (habsent.trans (if_neg (Nat.not_le.2 hlt)))))
    · exact hevent (hends.trans ((congrArg (fun a => s.portAnswer p a) h).trans (habsent.trans (if_pos hge))))
    · exact hevent (hends.trans ((congrArg (fun a => s.portAnswer p a) h).trans (hgarbled.trans (if_neg (Nat.not_le.2 hlt)))))
    · exact hevent (hends.trans ((congrArg (fun a => s.portAnswer p a) h).trans (hgarbled.trans (if_pos hge))))
    · refine hevent (f := State.portAnswerLimit p) ?_
      simp only [State.portAnswerLimit, htx]
      exact hgarbled.trans (if_neg (Nat.not_le.2 hlt))
    · exact hevent ((hclean bytes h).trans ((tokenRead_bad hyst hb).trans (by rw [hy])))
    · exact hevent ((hclean bytes h).trans ((tokenRead_plain hyst hb).trans (by rw [hy])))
    · exact hevent ((hclean bytes h).trans ((tokenRead_carrying hyst hb hc).trans (by rw [hy])))
    · refine hevent (f := State.portDataEnd p) ?_
      simp only [State.portDataEnd, htx]
      rfl
    · refine hevent (f := State.portEchoFault p) ((if_pos ?_).trans (portLineFault_eq htx hst hc))
      rw [htx, hpass]; rfl
    · refine hevent (f := State.portEchoFault p) ((if_pos ?_).trans (portLineFault_eq htx hst hc))
      rw [htx, hpass]; rfl
    · refine hevent (f := State.portHeldActive p) ((if_pos ?_).trans (portLineFault_eq htx hst hc))
      simp only [Port.watched, LineEnd.watchOver, htx, hpass]
      rfl
  · intro token key m hst hq hw hrun free
    have hst : (s.port p).state = .reading n d (.checking token) := hst
    have hover : ∀ y : Port, s.componentChecked p (checkValue key) = (s.setPort p y).raise .token →
        s.complete CipherJob.isCheck = (free.setPort p y).raise .token := fun y h => by
      have hc : (s.componentChecked p (checkValue key)).cipher = s.cipher := by rw [h, raise_cipher, setPort_cipher]
      rw [complete_alone hrun rfl rfl hq hw hc]
      refine (congrArg (fun t : State => ({ t with cipher := s.cipher.ended } : State)) h).trans ?_
      cases p <;> rfl
    refine ⟨fun hcomp => hevent (hover _ ?_), fun expected hcomp hne => hevent (hover _ ?_)⟩
    · simp only [State.componentChecked, hst, hcomp, Option.map_some, if_true]
      rfl
    · simp only [State.componentChecked, hst, hcomp, Option.map_some, Option.some.injEq, hne, if_false]
      rfl
  · intro until_ hst htx hfree
    have hst : (s.port p).state = .reading n d (.waiting until_) := hst
    refine hevent (f := State.readResend p) ?_
    simp only [State.readResend, hst]
    exact portSend_free (q := { s.port p with state := .reading n d .due }) rfl htx hfree
  · intro hst htx hfree
    have htx : (s.port p).line.tx = .idle := htx
    have hfree : (s.port p).line.free = false := hfree
    refine hevent (f := State.portLineFree p) ?_
    simp only [State.portLineFree, htx, hfree, and_self, if_true]
    exact portSend_free (q := { s.port p with line := { (s.port p).line with free := true } }) hst htx rfl
  · intro htx hfault hgap
    refine hevent (f := State.portHeldActive p) (if_neg ?_)
    have htx : (s.port p).line.tx = .idle := htx
    have hfault : (s.port p).line.afterFault = true := hfault
    have hover : (s.port p).line.watchOver s.time = true := by
      simp only [LineEnd.watchOver, htx, hfault]
      exact decide_eq_true hgap
    simp [Port.watched, hover]

end Sys2Proof.Machine

/-! SUPPORT. Internal work taken apart: what one round of a bay controller does, move by move, each with the condition under which
it is made (R7, R15 to R17, R23, R25); and the rule by which a property kept by the moves and by a request that fails its start
holds after internal work (R103, R104). -/

namespace Sys2Proof.Machine

/-! ### The moves of a bay controller -/

/-- A cipher request that a bay controller places now: for the terminal in hand, its TRANSPORT (R16) or the PREPARE of its position
(R17); in prepare-ahead a PREPARE of another position of it, or the TRANSPORT or first PREPARE of the next context (R23). -/
inductive Placing (s : State) (b : BayId) : CipherJob → Prop
  | transport {c : Context} {p : Profile} (hand : (s.bay b).handCtx = some c) (phase : c.phase = .transport)
      (holder : s.cipher.holder b c.addr = none) (profile : s.profileOf c = some p) :
      Placing s b (.transport b c.addr c.serial p.transportSlot)
  | position {c : Context} {p : Profile} {d : Descriptor} {slot : SlotId} (hand : (s.bay b).handCtx = some c)
      (phase : c.phase = .loading) (profile : s.profileOf c = some p) (next : c.nextPosition p = some (d, c.posIndex))
      (result : (s.bay b).result c.addr c.posIndex = none) (action : d.action = .derive slot) :
      Placing s b (.prepare b c.addr c.posIndex c.serial d.tag slot p.parity)
  | aheadSame {c : Context} {p : Profile} {d : Descriptor} {pos : Nat} {slot : SlotId} (hand : (s.bay b).handCtx = some c)
      (profile : s.profileOf c = some p) (ahead : p.ahead = true) (mem : (d, pos) ∈ p.numbered)
      (holder : (s.cipher.holder b c.addr).isSome = true) (action : d.action = .derive slot) :
      Placing s b (.prepare b c.addr pos c.serial d.tag slot p.parity)
  | aheadTransport {h c : Context} {p q : Profile} (hand : (s.bay b).handCtx = some h) (handProfile : s.profileOf h = some p)
      (ahead : p.ahead = true) (next : (s.bay b).nextAhead h.addr = some c) (holder : s.cipher.holder b c.addr = none)
      (profile : s.profileOf c = some q) : Placing s b (.transport b c.addr c.serial q.transportSlot)
  | aheadPrepare {h c : Context} {p q : Profile} {d : Descriptor} {pos : Nat} {slot : SlotId}
      (hand : (s.bay b).handCtx = some h) (handProfile : s.profileOf h = some p) (ahead : p.ahead = true)
      (next : (s.bay b).nextAhead h.addr = some c) (holder : (s.cipher.holder b c.addr).isSome = true)
      (profile : s.profileOf c = some q) (action : d.action = .derive slot) :
      Placing s b (.prepare b c.addr pos c.serial d.tag slot q.parity)

theorem Placing.bay {s : State} {b : BayId} {job : CipherJob} (h : Placing s b job) : job.bay = some b := by
  cases h <;> rfl

/-- A bay that takes a context in hand (R15). -/
def Bay.taking (c : Context) (x : Bay) : Bay :=
  { x.updCtx c.addr (fun c => { c with phase := .transport }) with batch := { x.batch with hand := some c.addr } }

theorem takeInHand_cases (x : Bay) :
    x.takeInHand = x ∨ ∃ c, x.batch.hand = none ∧ x.nextToLoad = some c ∧ x.takeInHand = x.taking c := by
  unfold Bay.takeInHand
  split
  · next c hhand hnext => exact .inr ⟨c, hhand, hnext, rfl⟩
  · exact .inl rfl

/-- A small change a bay controller makes in LOADING when it works the terminal in hand and tops up prepare-ahead. -/
inductive LoadMove (b : BayId) : State → State → Prop
  /-- The next terminal is taken in hand (R15). -/
  | take {s : State} {c : Context} (loading : (s.bay b).state = .loading) (hand : (s.bay b).batch.hand = none)
      (next : (s.bay b).nextToLoad = some c) :
      LoadMove b s (s.updBay b (Bay.taking c))
  /-- The terminal in hand, its key held, goes on to LOADING (R16). -/
  | load {s : State} {c : Context} (loading : (s.bay b).state = .loading) (hand : (s.bay b).handCtx = some c)
      (phase : c.phase = .transport) (holder : (s.cipher.holder b c.addr).isSome = true) :
      LoadMove b s (s.updBay b (fun x => x.updCtx c.addr
        (fun c => { c with phase := .loading, posIndex := 1, attempts := 0, deferrals := 0 })))
  /-- The position index goes on to the next position not confirmed (R17). -/
  | position {s : State} {c : Context} {p : Profile} {d : Descriptor} {pos : Nat} (loading : (s.bay b).state = .loading)
      (hand : (s.bay b).handCtx = some c) (phase : c.phase = .loading) (profile : s.profileOf c = some p)
      (next : c.nextPosition p = some (d, pos)) :
      LoadMove b s (s.updBay b (fun x => x.updCtx c.addr (fun c => { c with posIndex := pos })))
  /-- With every position confirmed the terminal in hand enters COMMITTING (R19). -/
  | commit {s : State} {c : Context} {p : Profile} (loading : (s.bay b).state = .loading)
      (hand : (s.bay b).handCtx = some c) (phase : c.phase = .loading) (profile : s.profileOf c = some p)
      (next : c.nextPosition p = none) :
      LoadMove b s (s.updBay b (fun x => x.updCtx c.addr (fun c => { c with phase := .committing, attempts := 0, deferrals := 0 })))
  /-- A buffer is reserved for a PREPARE (R23). -/
  | reserve {s : State} (loading : (s.bay b).state = .loading) (a : Addr) (pos : Nat) :
      LoadMove b s (s.updBay b (fun x => { x with buffers := reserveBuffer a pos x.buffers }))
  /-- A cipher request is placed (R99). -/
  | request {s : State} {job : CipherJob} (loading : (s.bay b).state = .loading) (placing : Placing s b job) (urgent : Bool) :
      LoadMove b s { s with cipher := s.cipher.place job urgent }
  /-- A request is raised to URGENT where it stands (R102). -/
  | raise {s : State} (loading : (s.bay b).state = .loading) (t : CipherJob → Bool) :
      LoadMove b s { s with cipher := s.cipher.raise t }

/-- A small change a bay controller makes when it goes on: one of LOADING, a frame sent, or the end of the batch. -/
inductive WorkMove (b : BayId) : State → State → Prop
  | load {s t : State} (h : LoadMove b s t) : WorkMove b s t
  /-- The frame that is due is sent on the free line (R7). -/
  | send {s : State} {f : LineFrame} (ready : (s.bay b).lineReady) (due : s.nextFrame b = some f) :
      WorkMove b s (s.updBay b (Bay.send s.time f))
  /-- The batch ends with every context DONE (R25). -/
  | finish {s : State} (loading : (s.bay b).state = .loading) (done : (s.bay b).allDone = true) : WorkMove b s (s.normalEnd b)

/-- A run of such changes. -/
def WorkPath (b : BayId) : State → State → Prop := Relation.ReflTransGen (WorkMove b)

theorem WorkPath.refl (b : BayId) (s : State) : WorkPath b s s := Relation.ReflTransGen.refl
theorem WorkPath.single {b : BayId} {s t : State} (h : WorkMove b s t) : WorkPath b s t := Relation.ReflTransGen.single h
theorem WorkPath.trans {b : BayId} {s t u : State} (h : WorkPath b s t) (k : WorkPath b t u) : WorkPath b s u :=
  Relation.ReflTransGen.trans h k

theorem WorkPath.keeps {b : BayId} {P : State → Prop} (hP : ∀ s t, WorkMove b s t → P s → P t) {s t : State} (h : WorkPath b s t)
    (hs : P s) : P t := by
  induction h with
  | refl => exact hs
  | tail _ hm ih => exact hP _ _ hm ih

/-! ### The bay once changed -/

theorem ctx_updCtx (x : Bay) (a a' : Addr) {f : Context → Context} (hf : ∀ c, (f c).addr = c.addr) :
    (x.updCtx a f).ctx a' = if a' = a then (x.ctx a').map f else x.ctx a' := by
  have hmap : ∀ l : List Context, (l.map (fun c => if c.addr = a then f c else c)).find? (fun c => c.addr == a') =
      if a' = a then (l.find? (fun c => c.addr == a')).map f else l.find? (fun c => c.addr == a') := fun l => by
    induction l with
    | nil => simp
    | cons c l ih =>
      rw [List.map_cons, List.find?_cons, List.find?_cons, ih]
      by_cases hc : c.addr = a
      · simp only [hc, if_true, hf]
        by_cases ha : a' = a
        · subst ha; simp
        · have hne : (a == a') = false := by simpa using Ne.symm ha
          simp [ha, hne]
      · by_cases ha : a' = a
        · subst ha
          have hne : (c.addr == a') = false := by simpa using hc
          simp [hc, hne]
        · cases hca : c.addr == a' <;> simp [hc, ha, hca]
  exact hmap x.contexts

theorem ctx_updCtx_same {x : Bay} {a : Addr} {c : Context} {f : Context → Context} (hc : x.ctx a = some c)
    (hf : ∀ c, (f c).addr = c.addr) : (x.updCtx a f).ctx a = some (f c) := by
  rw [ctx_updCtx x a a hf, if_pos rfl, hc]; rfl

theorem ctx_updCtx_other {x : Bay} {a a' : Addr} {f : Context → Context} (ha : a' ≠ a) (hf : ∀ c, (f c).addr = c.addr) :
    (x.updCtx a f).ctx a' = x.ctx a' := by
  rw [ctx_updCtx x a a' hf, if_neg ha]

theorem handCtx_eq_some_iff {x : Bay} {c : Context} : x.handCtx = some c ↔ x.batch.hand = some c.addr ∧ x.ctx c.addr = some c := by
  unfold Bay.handCtx
  constructor
  · intro h
    obtain ⟨a, ha, hc⟩ := Option.bind_eq_some_iff.1 h
    obtain rfl := Bay.ctx_addr hc
    exact ⟨ha, hc⟩
  · rintro ⟨ha, hc⟩
    rw [ha]; exact hc

theorem handCtx_updCtx {x : Bay} {c : Context} {f : Context → Context} (h : x.handCtx = some c) (hf : ∀ c, (f c).addr = c.addr) :
    (x.updCtx c.addr f).handCtx = some (f c) := by
  obtain ⟨ha, hc⟩ := handCtx_eq_some_iff.1 h
  rw [handCtx_eq_some_iff, hf]
  exact ⟨ha, ctx_updCtx_same hc hf⟩

/-- The position found is the next one from itself on (R17). -/
theorem nextPosition_index {c : Context} {p : Profile} {d : Descriptor} {pos : Nat} (h : c.nextPosition p = some (d, pos)) :
    ({ c with posIndex := pos } : Context).nextPosition p = some (d, pos) := by
  obtain ⟨hpass, before, after, hlist, hbefore⟩ := List.find?_eq_some_iff_append.1 h
  refine List.find?_eq_some_iff_append.2 ⟨?_, before, after, hlist, fun x hx => ?_⟩
  · simp only [Bool.and_eq_true] at hpass ⊢
    exact ⟨⟨by simp, hpass.1.2⟩, hpass.2⟩
  · have hpw := numbered_pairwise p
    rw [hlist] at hpw
    have hlt : x.2 < pos := (List.pairwise_append.1 hpw).2.2 x hx (d, pos) (by simp)
    simp [Nat.not_le.2 hlt]

theorem setBay_self (s : State) (b : BayId) : s.setBay b (s.bay b) = s := by
  simp [State.setBay, State.bay]

/-! ### The controller's functions as runs of moves -/

/-- A run of moves of LOADING. -/
def LoadPath (b : BayId) : State → State → Prop := Relation.ReflTransGen (LoadMove b)

theorem LoadMove.loading {b : BayId} {s t : State} (h : LoadMove b s t) : (t.bay b).state = .loading := by
  cases h with
  | request loading _ _ => exact loading
  | raise loading _ => exact loading
  | take loading _ _ => rw [bay_updBay_same]; exact loading
  | load loading _ _ _ => rw [bay_updBay_same]; exact loading
  | position loading _ _ _ _ => rw [bay_updBay_same]; exact loading
  | commit loading _ _ _ _ => rw [bay_updBay_same]; exact loading
  | reserve loading _ _ => rw [bay_updBay_same]; exact loading

section Functions
variable {s : State} {b : BayId}

theorem LoadPath.refl (b : BayId) (s : State) : LoadPath b s s := Relation.ReflTransGen.refl
theorem LoadPath.single {t : State} (h : LoadMove b s t) : LoadPath b s t := Relation.ReflTransGen.single h
theorem LoadPath.trans {t u : State} (h : LoadPath b s t) (k : LoadPath b t u) : LoadPath b s u := Relation.ReflTransGen.trans h k

theorem LoadPath.loading {t : State} (h : LoadPath b s t) (hs : (s.bay b).state = .loading) : (t.bay b).state = .loading := by
  induction h with
  | refl => exact hs
  | tail _ hm _ => exact hm.loading

theorem LoadPath.keeps {P : State → Prop} (hP : ∀ s t, LoadMove b s t → P s → P t) {t : State} (h : LoadPath b s t) (hs : P s) : P t := by
  induction h with
  | refl => exact hs
  | tail _ hm ih => exact hP _ _ hm ih

theorem LoadPath.work {t : State} (h : LoadPath b s t) : WorkPath b s t := by
  induction h with
  | refl => exact .refl b s
  | tail _ hm ih => exact ih.trans (.single (.load hm))

theorem takeInHand_moves (h : (s.bay b).state = .loading) : LoadPath b s (s.updBay b Bay.takeInHand) := by
  rw [State.updBay]
  rcases takeInHand_cases (s.bay b) with heq | ⟨c, hhand, hnext, heq⟩ <;> rw [heq]
  · rw [setBay_self]; exact .refl b s
  · exact .single (.take h hhand hnext)

theorem workTransport_moves (h : (s.bay b).state = .loading) : LoadPath b s (s.workTransport b) := by
  unfold State.workTransport
  split
  · exact .refl b s
  next c hc =>
  split
  · exact .refl b s
  next hphase =>
  have hphase := not_not.1 hphase
  split
  · next hholder => exact .single (.load h hc hphase hholder)
  next hholder =>
  split
  · exact .single (.raise h _)
  split
  · next p hp => exact .single (.request h (.transport hc hphase (by simpa using hholder) hp) true)
  · exact .refl b s

/-- A PREPARE placed with its buffer reserved. -/
theorem placePrepare_moves {c : Context} {p : Profile} {d : Descriptor} {pos : Nat} (urgent : Bool) (h : (s.bay b).state = .loading)
    (hplacing : ∀ slot, d.action = .derive slot →
      Placing (s.updBay b (fun x => { x with buffers := reserveBuffer c.addr pos x.buffers })) b
        (.prepare b c.addr pos c.serial d.tag slot p.parity)) : LoadPath b s (s.placePrepare b c p d pos urgent) := by
  unfold State.placePrepare
  split
  · exact .refl b s
  · next slot hslot =>
    have hreserve : LoadMove b s (s.updBay b (fun x => { x with buffers := reserveBuffer c.addr pos x.buffers })) :=
      .reserve h c.addr pos
    exact (LoadPath.single hreserve).trans (.single (.request hreserve.loading (hplacing slot hslot) urgent))

theorem findSome?_reserveBuffer {α : Type} {g : Buffer → Option α} {a : Addr} {pos : Nat} (hfree : g .free = none)
    (hreserved : g (.reserved a pos) = none) (l : List Buffer) : (reserveBuffer a pos l).findSome? g = l.findSome? g := by
  induction l with
  | nil => rfl
  | cons f l ih => cases f <;> simp [reserveBuffer, List.findSome?_cons, hfree, hreserved, ih]

theorem result_reserve (x : Bay) (a a' : Addr) (pos pos' : Nat) :
    ({ x with buffers := reserveBuffer a pos x.buffers } : Bay).result a' pos' = x.result a' pos' :=
  findSome?_reserveBuffer rfl rfl x.buffers

theorem workLoading_moves (h : (s.bay b).state = .loading) : LoadPath b s (s.workLoading b) := by
  unfold State.workLoading
  split
  · exact .refl b s
  next c hc =>
  split
  · exact .refl b s
  next hphase =>
  have hphase := not_not.1 hphase
  split
  · exact .refl b s
  next p hp =>
  split
  · next hnext => exact .single (.commit h hc hphase hp hnext)
  next d pos hnext =>
  dsimp only
  have hset : LoadPath b s (s.updBay b (fun x => x.updCtx c.addr (fun c => { c with posIndex := pos }))) :=
    .single (.position h hc hphase hp hnext)
  split
  · exact hset
  next hresult =>
  split
  · exact hset.trans (.single (.raise (hset.loading h) _))
  split
  · refine hset.trans (placePrepare_moves true (hset.loading h) fun slot hslot => ?_)
    rw [bay_updBay_same] at hresult
    refine Placing.position (c := { c with posIndex := pos }) ?_ hphase hp (nextPosition_index hnext) ?_ hslot
    · rw [bay_updBay_same, bay_updBay_same]
      exact handCtx_updCtx hc fun _ => rfl
    · rw [bay_updBay_same, bay_updBay_same, result_reserve]
      simpa using hresult
  · exact hset

theorem aheadNext_moves {n c : Context} {p : Profile} (h : (s.bay b).state = .loading) (hand : (s.bay b).handCtx = some n)
    (hp : s.profileOf n = some p) (hahead : p.ahead = true) (hnext : (s.bay b).nextAhead n.addr = some c) :
    LoadPath b s (s.aheadNext b c) := by
  unfold State.aheadNext
  split
  · exact .refl b s
  next q hq =>
  split
  · next hholder =>
    split
    · exact .refl b s
    · exact .single (.request h (.aheadTransport hand hp hahead hnext (by simpa using hholder) hq) false)
  next hholder =>
  split
  · exact .refl b s
  split
  · exact .refl b s
  · refine placePrepare_moves false h fun slot hslot => ?_
    refine .aheadPrepare (h := n) (c := c) (p := p) ?_ hp hahead ?_ ?_ hq hslot
    · rw [bay_updBay_same]; exact hand
    · rw [bay_updBay_same]; exact hnext
    · exact Option.isSome_iff_ne_none.2 (by simpa using hholder)

theorem aheadOnce_moves (h : (s.bay b).state = .loading) : LoadPath b s (s.aheadOnce b) := by
  unfold State.aheadOnce
  split
  · exact .refl b s
  next c hc =>
  split
  · exact .refl b s
  next p hp =>
  split
  · next hahead =>
    obtain ⟨hahead, -⟩ := Bool.and_eq_true_iff.1 hahead
    split
    · next d pos hd =>
      split
      · next hholder =>
        obtain ⟨hholder, -⟩ := Bool.and_eq_true_iff.1 hholder
        refine placePrepare_moves false h fun slot hslot => ?_
        refine .aheadSame (c := c) ?_ hp hahead (List.mem_of_find?_eq_some hd) hholder hslot
        rw [bay_updBay_same]; exact hc
      · exact .refl b s
    · split
      · next n hn => exact aheadNext_moves h hc hp hahead hn
      · exact .refl b s
  · exact .refl b s

theorem sendNext_moves (b : BayId) (s : State) : WorkPath b s (s.sendNext b) := by
  unfold State.sendNext
  dsimp only
  split
  · next hready =>
    split
    · next f hf => exact .single (.send hready hf)
    · exact .refl b s
  · exact .refl b s

theorem workHand_moves (h : (s.bay b).state = .loading) : LoadPath b s (s.workHand b) := by
  have h1 := takeInHand_moves h
  have h2 := h1.trans (workTransport_moves (h1.loading h))
  have h3 := h2.trans (workLoading_moves (h2.loading h))
  have h4 := h3.trans (aheadOnce_moves (h3.loading h))
  exact h4.trans (aheadOnce_moves (h4.loading h))

/-- A bay controller goes on by moves of its own. -/
theorem advance_moves (b : BayId) (s : State) : WorkPath b s (s.advance b) := by
  unfold State.advance
  split
  · exact sendNext_moves b s
  · next h =>
    split
    · next hdone => exact .single (.finish h hdone)
    · exact (workHand_moves h).work.trans (sendNext_moves b _)
  · exact .refl b s

end Functions

/-! ### The rule for internal work -/

/-- What holds after internal work: a property that the moves of some bays keep, and the failing of a request at its start, holds
before the engine starts a request or finds none (R103, R104). -/
theorem settle_rule {P : State → Prop} {B : BayId → Prop} (hmove : ∀ b s t, B b → WorkMove b s t → P s → P t)
    (hfail : ∀ s t r reason, s.engineTake = .ended r reason t → P s →
      P (t.failRequest r.job reason).freeEngine ∧ ∀ b ∈ r.job.bay.toList, B b)
    (n : Nat) (l : List BayId) (hl : ∀ b ∈ l, B b) {s : State} (hs : P s) :
    ∃ u, P u ∧ (s.settle n l = u ∨ u.engineTake = .started (s.settle n l)) := by
  induction n generalizing l s with
  | zero => exact ⟨s, hs, .inl rfl⟩
  | succ n ih =>
    cases l with
    | cons b rest =>
      exact ih rest (fun b' hb => hl b' (List.mem_cons_of_mem b hb))
        ((advance_moves b s).keeps (fun s t => hmove b s t (hl b List.mem_cons_self)) hs)
    | nil =>
      simp only [State.settle]
      split
      · exact ⟨s, hs, .inl rfl⟩
      · next t ht => exact ⟨s, hs, .inr ht⟩
      · next r reason t ht =>
        obtain ⟨hP, hB⟩ := hfail s t r reason ht hs
        exact ih _ hB hP


end Sys2Proof.Machine

/-! The decision of an outcome (R6, R20): what it leaves in the bay, the cipher unit and the report queue. -/

namespace Sys2Proof.Machine

/-! ### The cipher unit examined and relieved of requests -/

/-- The jobs queued and waiting. -/
def Cipher.jobs (c : Cipher) : List CipherJob := (c.queue ++ c.waiting).map (·.job)

theorem examineFrom_holders (l : List CipherRequest) (c : Cipher) : (Cipher.examineFrom l c).holders = c.holders := by
  induction l generalizing c with
  | nil => rfl
  | cons r l ih => unfold Cipher.examineFrom; split <;> rw [ih]

@[simp] theorem examine_holders (c : Cipher) : c.examine.holders = c.holders := examineFrom_holders _ _

@[simp] theorem examine_running (c : Cipher) : c.examine.running = c.running := by
  obtain ⟨_, _, _, _, hr, _⟩ := examineFrom_spec c.waiting { c with waiting := [] }
  exact hr

/-- Examining the waiting list brings no request. -/
theorem examine_jobs (c : Cipher) : ∀ j ∈ c.examine.jobs, j ∈ c.jobs := by
  obtain ⟨joined, left, hq, hw, _, hj, hl, _⟩ := examineFrom_spec c.waiting { c with waiting := [] }
  intro j hmem
  unfold Cipher.jobs Cipher.examine at *
  rw [hq, hw] at hmem
  obtain ⟨r, hr, rfl⟩ := List.mem_map.1 hmem
  refine List.mem_map_of_mem (List.mem_append.2 ?_)
  rcases List.mem_append.1 hr with hr | hr
  · exact (List.mem_append.1 hr).imp id (hj.subset ·)
  · exact .inr (hl.subset (by simpa using hr))

@[simp] theorem withdraw_holders (t : CipherJob → Bool) (c : Cipher) : (c.withdraw t).holders = c.holders := examine_holders _

@[simp] theorem withdraw_running (t : CipherJob → Bool) (c : Cipher) :
    (c.withdraw t).running = c.running.map (fun r => if t r.job then { r with withdrawn := true } else r) := examine_running _

/-- Only requests that were there are left after a withdrawal, and none of those withdrawn (R106). -/
theorem withdraw_jobs (t : CipherJob → Bool) (c : Cipher) : ∀ j ∈ (c.withdraw t).jobs, j ∈ c.jobs ∧ t j = false := by
  intro j hj
  have hj := examine_jobs _ j hj
  obtain ⟨r, hr, rfl⟩ := List.mem_map.1 hj
  rcases List.mem_append.1 hr with hr | hr
  · obtain ⟨hr, ht⟩ := List.mem_filter.1 hr
    exact ⟨List.mem_map_of_mem (List.mem_append.2 (.inl hr)), by simpa using ht⟩
  · obtain ⟨hr, ht⟩ := List.mem_filter.1 hr
    exact ⟨List.mem_map_of_mem (List.mem_append.2 (.inr hr)), by simpa using ht⟩

theorem dropContext_jobs (b : BayId) (a : Addr) (c : Cipher) :
    ∀ j ∈ (c.dropContext b a).jobs, j ∈ c.jobs ∧ j.context ≠ some (b, a) := by
  intro j hj
  obtain ⟨hmem, ht⟩ := withdraw_jobs _ (c.setHolder b a none) j hj
  exact ⟨hmem, by simpa using ht⟩

theorem holder_dropContext (c : Cipher) (b : BayId) (a a' : Addr) :
    (c.dropContext b a).holder b a' = if a = a' then none else c.holder b a' := by
  have : (c.dropContext b a).holder b a' = (c.setHolder b a none).holder b a' := by
    simp only [Cipher.holder, Cipher.dropContext, withdraw_holders]
  rw [this, holder_setHolder]
  simp

theorem dropContext_running (c : Cipher) (b : BayId) (a : Addr) : (c.dropContext b a).running =
    c.running.map (fun r => if r.job.context == some (b, a) then { r with withdrawn := true } else r) := withdraw_running _ _

/-! ### A decision -/

/-- Changing a bay without starting or ending its batch leaves the room. -/
theorem room_updBay {s : State} {b : BayId} {f : Bay → Bay} (h : (f (s.bay b)).isRunning = (s.bay b).isRunning) :
    (s.updBay b f).room = s.room := by
  have hrun := running_setBay s b (f (s.bay b))
  rw [h] at hrun
  have hrun : (s.updBay b f).running = s.running := Nat.add_right_cancel hrun
  simp only [State.room, hrun]
  rfl

section Decide
variable {s : State} {b : BayId} {a : Addr} {c : Context} (v : Verdict)

/-- The state with an outcome decided, its record not yet asked for (R6). -/
def State.withOutcome (b : BayId) (a : Addr) (v : Verdict) (s : State) : State :=
  { s.updBay b (Bay.decided a v) with cipher := s.cipher.dropContext b a }

theorem withOutcome_room : (s.withOutcome b a v).room = s.room := by
  have h : (s.updBay b (Bay.decided a v)).room = s.room := room_updBay rfl
  rw [← h]; rfl

theorem decideOutcome_none (h : (s.bay b).ctx a = none) : s.decideOutcome b a v = s := by
  simp only [State.decideOutcome, h]

/-- An outcome is decided once (R6). -/
theorem decideOutcome_decided (h : (s.bay b).ctx a = some c) (ho : c.outcome.isSome = true) : s.decideOutcome b a v = s := by
  simp only [State.decideOutcome, h, ho, if_true]

/-- In STOPPING no record is asked for (R26). -/
theorem decideOutcome_stopping (h : (s.bay b).ctx a = some c) (ho : c.outcome = none) (hst : (s.bay b).state = .stopping) :
    s.decideOutcome b a v = s.withOutcome b a v := by
  simp only [State.decideOutcome, h, ho, Option.isSome_none, Bool.false_eq_true, if_false, hst, if_true]
  rfl

theorem decideOutcome_asks (h : (s.bay b).ctx a = some c) (ho : c.outcome = none) (hst : (s.bay b).state ≠ .stopping) :
    s.decideOutcome b a v = (s.withOutcome b a v).requestAppend b a (s.terminalRecord b c v) := by
  simp only [State.decideOutcome, h, ho, Option.isSome_none, Bool.false_eq_true, if_false, hst]
  rfl

/-- With room and no append waiting the record is appended at once (R154). -/
theorem decideOutcome_appends (h : (s.bay b).ctx a = some c) (ho : c.outcome = none) (hst : (s.bay b).state ≠ .stopping)
    (hroom : s.room = true) (hw : s.report.waiting = []) : s.decideOutcome b a v =
      ((s.withOutcome b a v).appendRecord (.terminal (s.terminalRecord b c v))).markAppended b a := by
  rw [decideOutcome_asks v h ho hst]
  rcases requestAppend_cases b a (s.terminalRecord b c v) (s.withOutcome b a v) with ⟨_, _, heq⟩ | ⟨hno, _⟩
  · exact heq
  · rw [withOutcome_room, hroom] at hno
    exact (hno.resolve_left (by simp) hw).elim

/-- Without room, or behind others, the append waits (R154). -/
theorem decideOutcome_waits (h : (s.bay b).ctx a = some c) (ho : c.outcome = none) (hst : (s.bay b).state ≠ .stopping)
    (hno : s.room = false ∨ s.report.waiting ≠ []) : s.decideOutcome b a v =
      { s.withOutcome b a v with report := { s.report with
          waiting := s.report.waiting ++ [{ bay := b, addr := a, record := s.terminalRecord b c v }] } } := by
  rw [decideOutcome_asks v h ho hst]
  rcases requestAppend_cases b a (s.terminalRecord b c v) (s.withOutcome b a v) with ⟨hroom, hw, _⟩ | ⟨_, heq⟩
  · rw [withOutcome_room] at hroom
    rw [hroom] at hno
    exact (hno.resolve_left (by simp) hw).elim
  · exact heq

/-- What a decision leaves in its bay: the outcome, and the mark where the record was appended. -/
theorem decideOutcome_bay (h : (s.bay b).ctx a = some c) (ho : c.outcome = none) :
    ((s.decideOutcome b a v).bay b = (s.bay b).decided a v ∨
      (s.decideOutcome b a v).bay b = ((s.bay b).decided a v).updCtx a (fun c => { c with recordAppended := true })) ∧
    (s.decideOutcome b a v).cipher = s.cipher.dropContext b a := by
  have hbay : (s.withOutcome b a v).bay b = (s.bay b).decided a v := bay_updBay_same s b _
  by_cases hst : (s.bay b).state = .stopping
  · rw [decideOutcome_stopping v h ho hst]
    exact ⟨.inl hbay, rfl⟩
  · rw [decideOutcome_asks v h ho hst]
    rcases requestAppend_cases b a (s.terminalRecord b c v) (s.withOutcome b a v) with ⟨_, _, heq⟩ | ⟨_, heq⟩ <;> rw [heq]
    · refine ⟨.inr ?_, rfl⟩
      rw [State.markAppended, bay_updBay_same, appendRecord_bay, hbay]
    · exact ⟨.inl hbay, rfl⟩

theorem decided_ctx (x : Bay) (a a' : Addr) (v : Verdict) : (x.decided a v).ctx a' =
    if a' = a then (x.ctx a').map (fun c => { c with phase := .reportWait, outcome := some v }) else x.ctx a' :=
  ctx_updCtx x a a' fun _ => rfl

theorem decided_ctx_same {x : Bay} (h : x.ctx a = some c) :
    (x.decided a v).ctx a = some { c with phase := .reportWait, outcome := some v } := by
  rw [decided_ctx, if_pos rfl, h]; rfl

/-- A context whose record is appended at once is marked (R20). -/
theorem decideOutcome_ctx_appends (h : (s.bay b).ctx a = some c) (ho : c.outcome = none) (hst : (s.bay b).state ≠ .stopping)
    (hroom : s.room = true) (hw : s.report.waiting = []) : ((s.decideOutcome b a v).bay b).ctx a =
      some { c with phase := .reportWait, outcome := some v, recordAppended := true } := by
  rw [decideOutcome_appends v h ho hst hroom hw, State.markAppended, bay_updBay_same, appendRecord_bay]
  have hbay : (s.withOutcome b a v).bay b = (s.bay b).decided a v := bay_updBay_same s b _
  rw [hbay]
  exact ctx_updCtx_same (decided_ctx_same v h) fun _ => rfl

/-- The context whose outcome is decided. -/
theorem decideOutcome_ctx (h : (s.bay b).ctx a = some c) (ho : c.outcome = none) :
    ∃ appended, ((s.decideOutcome b a v).bay b).ctx a =
      some { c with phase := .reportWait, outcome := some v, recordAppended := appended } := by
  have hctx := decided_ctx_same v h
  rcases (decideOutcome_bay v h ho).1 with heq | heq <;> rw [heq]
  · exact ⟨c.recordAppended, hctx⟩
  · exact ⟨true, ctx_updCtx_same hctx fun _ => rfl⟩

end Decide

/-- No buffer of a context whose outcome is decided is bound (R6). -/
theorem decided_owner {x : Bay} {a : Addr} {v : Verdict} {f : Buffer} (hf : f ∈ (x.decided a v).buffers) (pos : Nat) :
    f.owner ≠ some (a, pos) := by
  obtain ⟨g, _, rfl⟩ := List.mem_map.1 hf
  cases g with
  | free => simp [Buffer.owner]
  | reserved a' pos' => by_cases ha : a' = a <;> simp [Buffer.owner, ha]
  | holds a' pos' r => by_cases ha : a' = a <;> simp [Buffer.owner, ha]

theorem decided_batch (x : Bay) (a : Addr) (v : Verdict) :
    (x.decided a v).batch = { x.batch.count v with hand := if x.batch.hand = some a then none else x.batch.hand } := rfl

/-- Settles O53: the decision, and where its record goes. -/
theorem outcomeDecided : Obligations.OutcomeDecided := by
  intro s b c v _ hc
  refine ⟨fun ho => decideOutcome_decided v hc (Option.isSome_iff_ne_none.2 ho), fun ho => ?_⟩
  intro t x
  have hframe : BayFrame b s t := (decideOutcome_path b c.addr v s).frame
  obtain ⟨hbay, hcipher⟩ := decideOutcome_bay v hc ho
  have hcontexts : ∀ d ∈ x.contexts, d.addr ≠ c.addr → d ∈ ((s.bay b).decided c.addr v).contexts := fun d hd hne =>
    List.mem_map.2 ⟨d, hd, if_neg hne⟩
  have hbatch : (t.bay b).batch = (x.decided c.addr v).batch := by rcases hbay with h | h <;> exact h ▸ rfl
  have hbuffers : (t.bay b).buffers = (x.decided c.addr v).buffers := by rcases hbay with h | h <;> exact h ▸ rfl
  refine ⟨hframe.onlyBay, hframe.keys, ?_, fun d hd hne => ?_, ?_, ?_, ?_, ?_, ?_, ?_, fun f hf pos => ?_, fun hst => ?_,
    fun hst hroom hw => ?_, fun hst hno => ?_⟩
  · obtain ⟨appended, hctx⟩ := decideOutcome_ctx v hc ho
    refine ⟨_, hctx, rfl, rfl, rfl, fun hst hroom hw => ?_⟩
    have hmarked := decideOutcome_ctx_appends v hc ho hst hroom hw
    exact congrArg Context.recordAppended (Option.some.inj (hctx.symm.trans hmarked))
  · have hmem := hcontexts d hd hne
    rcases hbay with h | h <;> rw [h]
    · exact hmem
    · exact List.mem_map.2 ⟨d, hmem, if_neg hne⟩
  · rw [hbatch, decided_batch]; cases v <;> rfl
  · rw [hbatch, decided_batch]; cases v <;> rfl
  · rw [hbatch, decided_batch]; cases v <;> rfl
  · rw [hbatch, decided_batch]
    dsimp only
    split <;> simp_all
  · rw [hcipher, holder_dropContext, if_pos rfl]
  · rw [hcipher]; exact lacks_withdrawn _ _
  · exact decided_owner (hbuffers ▸ hf) pos
  · rw [show t = _ from decideOutcome_stopping v hc ho hst]; rfl
  · rw [show t = _ from decideOutcome_appends v hc ho hst hroom hw]
    exact appendRecord_records _ _
  · rw [show t = _ from decideOutcome_waits v hc ho hst hno]

end Sys2Proof.Machine

/-! SUPPORT. Internal work on one bay's account: its steps, what they leave alone, and the rule for what holds after it. -/

namespace Sys2Proof.Machine

/-! ### The steps of one bay's internal work -/

/-- A step of internal work on one bay's account: a move of its controller, or one of its requests failing its start (R21, R104). -/
inductive BayStep (b : BayId) : State → State → Prop
  | move {s t : State} (h : WorkMove b s t) : BayStep b s t
  | fail {s : State} {q : CipherRequest} {r : Running} {reason : FailReason} {a : Addr} (idle : s.cipher.running = none)
      (mem : q ∈ s.cipher.queue) (job : r.job = q.job) (context : q.job.context = some (b, a))
      (check : s.startCheck q.job = .error reason) :
      BayStep b s (({ s with cipher := s.cipher.run q r } : State).decideOutcome b a (.failed reason)).freeEngine

theorem cipher_frame (b : BayId) (s : State) (c : Cipher) : BayFrame b s { s with cipher := c } := by
  constructor <;> intros <;> rfl

theorem LoadMove.frame {b : BayId} {s t : State} (h : LoadMove b s t) : BayFrame b s t := by
  cases h with
  | request _ _ _ => exact cipher_frame b s _
  | raise _ _ => exact cipher_frame b s _
  | _ => exact setBay_frame b _ s

theorem WorkMove.frame {b : BayId} {s t : State} (h : WorkMove b s t) : BayFrame b s t := by
  cases h with
  | load h => exact h.frame
  | finish _ _ => exact (appendRecord_frame b _ s).trans ((setBay_frame b _ _).trans (cipher_frame b _ _))
  | send _ _ => exact setBay_frame b _ s

theorem BayStep.frame {b : BayId} {s t : State} (h : BayStep b s t) : BayFrame b s t := by
  cases h with
  | move h => exact h.frame
  | fail idle mem job context check =>
    exact (cipher_frame b s _).trans ((decideOutcome_path b _ _ _).frame.trans (cipher_frame b _ _))

/-! ### The requests of the cipher unit -/

/-- A request runs, or all that are queued and waiting are one bay's. -/
def Cipher.ownedBy (b : BayId) (c : Cipher) : Prop := c.running.isSome = true ∨ ∀ j ∈ c.jobs, j.bay = some b

theorem Cipher.quiet.ownedBy {c : Cipher} (h : c.quiet) (b : BayId) : c.ownedBy b :=
  h.imp id fun ⟨hq, hw⟩ j hj => by simp [Cipher.jobs, hq, hw] at hj

theorem place_jobs (job : CipherJob) (urgent : Bool) (c : Cipher) : ∀ j ∈ (c.place job urgent).jobs, j = job ∨ j ∈ c.jobs := by
  intro j hj
  unfold Cipher.place at hj
  dsimp only at hj
  unfold Cipher.jobs at *
  split at hj <;> simp only [List.map_append, List.mem_append, List.map_cons, List.map_nil, List.mem_singleton] at hj ⊢ <;> tauto

@[simp] theorem place_running (job : CipherJob) (urgent : Bool) (c : Cipher) : (c.place job urgent).running = c.running := by
  unfold Cipher.place; dsimp only; split <;> rfl

@[simp] theorem place_holders (job : CipherJob) (urgent : Bool) (c : Cipher) : (c.place job urgent).holders = c.holders := by
  unfold Cipher.place; dsimp only; split <;> rfl

theorem raise_jobs (t : CipherJob → Bool) (c : Cipher) : (c.raise t).jobs = c.jobs := by
  have hmap : ∀ l : List CipherRequest,
      (l.map (fun r => if t r.job then { r with urgent := true } else r)).map (·.job) = l.map (·.job) := fun l => by
    rw [List.map_map]
    exact List.map_congr_left fun r _ => by simp only [Function.comp]; split <;> rfl
  simp only [Cipher.jobs, Cipher.raise, List.map_append, hmap]

theorem run_jobs {c : Cipher} {q : CipherRequest} {r : Running} : ∀ j ∈ (c.run q r).jobs, j ∈ c.jobs := by
  intro j hj
  obtain ⟨x, hx, rfl⟩ := List.mem_map.1 hj
  exact List.mem_map_of_mem (List.mem_append.2 ((List.mem_append.1 hx).imp List.mem_of_mem_erase id))

theorem decideOutcome_jobs (s : State) (b : BayId) (a : Addr) (v : Verdict) :
    ∀ j ∈ (s.decideOutcome b a v).cipher.jobs, j ∈ s.cipher.jobs := by
  cases h : (s.bay b).ctx a with
  | none => rw [decideOutcome_none v h]; exact fun _ => id
  | some c =>
    cases ho : c.outcome with
    | none => rw [(decideOutcome_bay v h ho).2]; exact fun j hj => (dropContext_jobs b a _ j hj).1
    | some w => rw [decideOutcome_decided v h (by simp [ho])]; exact fun _ => id

theorem job_mem_of_queue {c : Cipher} {q : CipherRequest} (h : q ∈ c.queue) : q.job ∈ c.jobs :=
  List.mem_map_of_mem (List.mem_append.2 (.inl h))

theorem LoadMove.ownedBy {b : BayId} {s t : State} (h : LoadMove b s t) (hs : s.cipher.ownedBy b) : t.cipher.ownedBy b := by
  cases h with
  | request _ placing urgent =>
    refine hs.imp (fun h => by rw [place_running]; exact h) fun h j hj => ?_
    rcases place_jobs _ urgent _ j hj with rfl | hj
    · exact placing.bay
    · exact h j hj
  | raise _ t => exact hs.imp id fun h j hj => h j (by rw [raise_jobs] at hj; exact hj)
  | _ => exact hs

theorem BayStep.ownedBy {b : BayId} {s t : State} (h : BayStep b s t) (hs : s.cipher.ownedBy b) : t.cipher.ownedBy b := by
  cases h with
  | move h =>
    cases h with
    | load h => exact h.ownedBy hs
    | finish _ _ => exact hs
    | send _ _ => exact hs
  | fail idle mem job context check =>
    refine .inr fun j hj => (hs.resolve_left (by simp [idle])) j ?_
    have hj := examine_jobs _ j hj
    exact run_jobs j (decideOutcome_jobs _ b _ _ j hj)

theorem LoadMove.running {b : BayId} {s t : State} (h : LoadMove b s t) : t.cipher.running = s.cipher.running := by
  cases h with
  | request _ _ _ => exact place_running _ _ _
  | _ => rfl

theorem WorkMove.running {b : BayId} {s t : State} (h : WorkMove b s t) : t.cipher.running = s.cipher.running := by
  cases h with
  | load h => exact h.running
  | _ => rfl

/-! ### The rule -/

theorem ended_cases {s t : State} {r : Running} {reason : FailReason} (h : s.engineTake = .ended r reason t) :
    s.cipher.running = none ∧ ∃ q ∈ s.cipher.queue, r.job = q.job ∧ s.startCheck q.job = .error reason ∧
      t = { s with cipher := s.cipher.run q r } := by
  unfold State.engineTake at h
  split at h
  · next q hrun hq =>
    split at h
    · next reason' hcheck =>
      cases h
      exact ⟨hrun, q, choice_mem hq, rfl, hcheck, rfl⟩
    · cases h
  · cases h

/-- A bay's request is one of its contexts' (R99). -/
theorem context_of_bay {job : CipherJob} {b : BayId} (h : job.bay = some b) : ∃ a, job.context = some (b, a) := by
  cases job <;> simp [CipherJob.bay, CipherJob.context] at h ⊢ <;> exact h

theorem failRequest_of_context {job : CipherJob} {b : BayId} {a : Addr} (h : job.context = some (b, a)) (reason : FailReason) (s : State) :
    s.failRequest job reason = s.decideOutcome b a (.failed reason) := by
  cases job <;> simp only [CipherJob.context, Option.some.injEq, Prod.mk.injEq, reduceCtorEq] at h <;>
    (obtain ⟨rfl, rfl⟩ := h; rfl)

/-- What holds after internal work on one bay's account, before the engine starts a request or finds none (R103, R104). -/
theorem settle_bay {b : BayId} {P : State → Prop} (hstep : ∀ s t, BayStep b s t → P s → P t) (n : Nat) (l : List BayId)
    (hl : ∀ b' ∈ l, b' = b) {s : State} (hown : s.cipher.ownedBy b) (hs : P s) :
    ∃ u, P u ∧ BayFrame b s u ∧ (s.settle n l = u ∨ u.engineTake = .started (s.settle n l)) := by
  have hrule := settle_rule (P := fun u => (P u ∧ BayFrame b s u) ∧ u.cipher.ownedBy b) (B := fun b' => b' = b)
    (fun b' u v hb hm hu => by
      subst hb
      exact ⟨⟨hstep u v (.move hm) hu.1.1, hu.1.2.trans hm.frame⟩, BayStep.ownedBy (.move hm) hu.2⟩)
    (fun u v r reason hended hu => by
      obtain ⟨hidle, q, hq, hjob, hcheck, rfl⟩ := ended_cases hended
      have hbay : q.job.bay = some b := hu.2.resolve_left (by simp [hidle]) _ (job_mem_of_queue hq)
      obtain ⟨a, ha⟩ := context_of_bay hbay
      have hfail := BayStep.fail hidle hq hjob ha hcheck
      rw [failRequest_of_context (hjob ▸ ha)]
      refine ⟨⟨⟨hstep _ _ hfail hu.1.1, hu.1.2.trans hfail.frame⟩, hfail.ownedBy hu.2⟩, fun b' hb => ?_⟩
      rw [hjob, hbay] at hb
      simpa using hb)
    n l hl ⟨⟨hs, .refl b s⟩, hown⟩
  obtain ⟨u, ⟨⟨hP, hframe⟩, -⟩, hend⟩ := hrule
  exact ⟨u, hP, hframe, hend⟩

/-! ### The end of the work -/

/-- Internal work has come to its end: nothing is taken, or the engine has started a request (R103, R104). -/
def Ended (u t : State) : Prop := t = u ∨ u.engineTake = .started t

/-- A start leaves everything but the cipher unit and the use count of the slot read. -/
theorem started_eq {u t : State} (h : u.engineTake = .started t) :
    u.cipher.running = none ∧ ∃ used c, t = { u.countUse used with cipher := c } := by
  unfold State.engineTake at h
  split at h
  · next q hrun hq =>
    split at h
    · cases h
    · cases h
      exact ⟨hrun, _, _, rfl⟩
  · cases h

theorem countUse_slot (s : State) (used : Option SlotId) (k : SlotId) :
    (s.countUse used).slot k = s.slot k ∨ (s.countUse used).slot k = (s.slot k).countUse := by
  cases used with
  | none => exact .inl rfl
  | some j =>
    rw [State.countUse, slot_setSlot]
    split
    · next h => exact .inr (by rw [h])
    · exact .inl rfl

section Ended
variable {u t : State} (h : Ended u t)
include h

theorem Ended.bays : t.bays = u.bays := by
  rcases h with rfl | h
  · rfl
  · obtain ⟨_, used, c, rfl⟩ := started_eq h
    cases used <;> rfl

theorem Ended.bay (b : BayId) : t.bay b = u.bay b := by unfold State.bay; rw [h.bays]

theorem Ended.report : t.report = u.report := by
  rcases h with rfl | h
  · rfl
  · obtain ⟨_, used, c, rfl⟩ := started_eq h
    cases used <;> rfl

theorem Ended.link : t.link = u.link := by
  rcases h with rfl | h
  · rfl
  · obtain ⟨_, used, c, rfl⟩ := started_eq h
    cases used <;> rfl

theorem Ended.notice : t.notice = u.notice := by
  rcases h with rfl | h
  · rfl
  · obtain ⟨_, used, c, rfl⟩ := started_eq h
    cases used <;> rfl

theorem Ended.window : t.window = u.window := by
  rcases h with rfl | h
  · rfl
  · obtain ⟨_, used, c, rfl⟩ := started_eq h
    cases used <;> rfl

/-- While a request runs nothing is started. -/
theorem Ended.eq_of_running (hrun : u.cipher.running.isSome = true) : t = u := by
  rcases h with rfl | h
  · rfl
  · rw [(started_eq h).1] at hrun
    exact absurd hrun (by simp)

/-- After work on one bay's account nothing but that bay and the shared blocks has changed. -/
theorem Ended.onlyBay {b : BayId} {s : State} (hs : BayFrame b s u) : OnlyBay b s t := by
  rcases h with rfl | h
  · exact hs.onlyBay
  · obtain ⟨_, used, c, rfl⟩ := started_eq h
    have hslot : ∀ k, (u.countUse used).slot k = s.slot k ∨ (u.countUse used).slot k = (s.slot k).countUse := fun k => by
      have hsame : u.slot k = s.slot k := by rw [State.slot, hs.keys, State.slot]
      rw [← hsame]
      exact countUse_slot u used k
    cases used with
    | none => exact (hs.trans (cipher_frame b u c)).onlyBay
    | some j =>
      obtain ⟨h1, h2, h3, h4, h5, h6, h7, h8, h9, h10, h11, h12, h13, h14, h15, -, h17, h18⟩ := hs.onlyBay
      exact ⟨h1, h2, h3, h4, h5, h6, h7, h8, h9, h10, h11, h12, h13, h14, h15, hslot, h17, h18⟩

end Ended

/-- The frame begun at the end of an event is no bay's (R172). -/
theorem OnlyBay.beginFrame {b : BayId} {s t : State} (h : OnlyBay b s t) : OnlyBay b s t.beginFrame := by
  obtain ⟨h1, h2, h3, h4, h5, h6, h7, h8, h9, h10, h11, h12, h13, h14, h15, h16, h17, h18⟩ := h
  exact ⟨fun b' hb => by rw [beginFrame_bay]; exact h1 b' hb, by rw [beginFrame_profiles]; exact h2, by rw [beginFrame_portA]; exact h3,
    by rw [beginFrame_portB]; exact h4, by rw [beginFrame_window]; exact h5, by rw [beginFrame_enclosure]; exact h6,
    by rw [beginFrame_checks]; exact h7, by rw [beginFrame_clock]; exact h8, by rw [beginFrame_lastAdvance]; exact h9,
    by rw [beginFrame_time]; exact h10, by rw [beginFrame_powered]; exact h11, by rw [beginFrame_started]; exact h12,
    by rw [beginFrame_pending]; exact h13, by rw [beginFrame_report]; exact h14, by rw [beginFrame_keys]; exact h15,
    fun k => by rw [State.slot, beginFrame_keys]; exact h16 k, by rw [beginFrame_queue]; exact h17,
    by rw [beginFrame_assembler]; exact h18⟩

theorem Ended.event {b : BayId} {s u t : State} (h : Ended u t) (hs : BayFrame b s u) : OnlyBay b s t.beginFrame :=
  (h.onlyBay hs).beginFrame

/-- An event of one bay whose internal work is on that bay's account (R103). -/
theorem work_bay {b : BayId} {P : State → Prop} {s s1 : State} (hstep : ∀ s t, BayStep b s t → P s → P t)
    (hframe : BayFrame b s s1) (hown : s1.cipher.ownedBy b) (hs : P s1) :
    ∃ u, P u ∧ Ended u (s1.work [b]) ∧ OnlyBay b s (s1.work [b]).beginFrame ∧
      (s1.cipher.running.isSome = true → (s1.work [b]).beginFrame.keys = s.keys) := by
  have hkeep : ∀ s t, BayStep b s t → (s.cipher.running.isSome = true → t.cipher.running.isSome = true) := fun s t h hr => by
    cases h with
    | move h => rw [h.running]; exact hr
    | fail idle => simp [idle] at hr
  obtain ⟨u, ⟨hP, hrun⟩, hu, hend⟩ := settle_bay
    (P := fun u => P u ∧ (s1.cipher.running.isSome = true → u.cipher.running.isSome = true))
    (fun s t h hs => ⟨hstep s t h hs.1, fun hr => hkeep s t h (hs.2 hr)⟩) Config.settleBound [b] (by simp) hown ⟨hs, id⟩
  have hended : Ended u (s1.work [b]) := hend
  refine ⟨u, hP, hended, hended.event (hframe.trans hu), fun hr => ?_⟩
  rw [beginFrame_keys, hended.eq_of_running (hrun hr), hu.keys, hframe.keys]

end Sys2Proof.Machine

/-! SUPPORT. What internal work on one bay's account leaves of the bay and of its contexts, while its line is busy or in its gap and
a context is not DONE. -/

namespace Sys2Proof.Machine

/-! ### Steps that send nothing -/

/-- A step of internal work that sends no frame and does not end the batch. -/
inductive QuietStep (b : BayId) : State → State → Prop
  | load {s t : State} (h : LoadMove b s t) : QuietStep b s t
  | fail {s : State} {q : CipherRequest} {r : Running} {reason : FailReason} {a : Addr} (idle : s.cipher.running = none)
      (mem : q ∈ s.cipher.queue) (job : r.job = q.job) (context : q.job.context = some (b, a))
      (check : s.startCheck q.job = .error reason) :
      QuietStep b s (({ s with cipher := s.cipher.run q r } : State).decideOutcome b a (.failed reason)).freeEngine

/-- With the line not ready and a context not DONE every step is of that kind. -/
theorem BayStep.quiet {b : BayId} {s t : State} (h : BayStep b s t) (hline : ¬ (s.bay b).lineReady)
    (hopen : (s.bay b).allDone = false) : QuietStep b s t := by
  cases h with
  | move h =>
    cases h with
    | load h => exact .load h
    | send ready _ => exact absurd ready hline
    | finish _ done => simp [hopen] at done
  | fail idle mem job context check => exact .fail idle mem job context check

/-- The rule of internal work where nothing can be sent. -/
theorem work_quiet {b : BayId} {P : State → Prop} {s s1 : State} (hstep : ∀ s t, QuietStep b s t → P s → P t)
    (hline : ∀ s, P s → ¬ (s.bay b).lineReady) (hopen : ∀ s, P s → (s.bay b).allDone = false) (hframe : BayFrame b s s1)
    (hown : s1.cipher.ownedBy b) (hs : P s1) :
    ∃ u, P u ∧ Ended u (s1.work [b]) ∧ OnlyBay b s (s1.work [b]).beginFrame ∧
      (s1.cipher.running.isSome = true → (s1.work [b]).beginFrame.keys = s.keys) :=
  work_bay (fun u v h hu => hstep u v (h.quiet (hline u hu) (hopen u hu)) hu) hframe hown hs

theorem allDone_false {x : Bay} {a : Addr} {c : Context} (h : x.ctx a = some c) (hc : c.phase ≠ .done) : x.allDone = false := by
  have hmem := Bay.ctx_mem h
  by_contra hall
  have hall : x.allDone = true := by simpa using hall
  exact hc (by simpa using List.all_eq_true.1 hall c hmem)

/-- The bay after one of its requests has failed its start: as it was, or with an outcome decided. -/
theorem fail_bay {b : BayId} {s : State} {q : CipherRequest} {r : Running} {v : Verdict} {a : Addr} {t : State}
    (ht : t = (({ s with cipher := s.cipher.run q r } : State).decideOutcome b a v).freeEngine) :
    (t.bay b = s.bay b ∧ t.cipher = ({ s.cipher.run q r with running := none } : Cipher).examine ∧
        ∀ c, (s.bay b).ctx a = some c → c.outcome.isSome = true) ∨
      ∃ c, (s.bay b).ctx a = some c ∧ c.outcome = none ∧
        (t.bay b = (s.bay b).decided a v ∨
          t.bay b = ((s.bay b).decided a v).updCtx a (fun c => { c with recordAppended := true })) ∧
        t.cipher = ({ (s.cipher.run q r).dropContext b a with running := none } : Cipher).examine := by
  subst ht
  cases h : (s.bay b).ctx a with
  | none =>
    have heq := decideOutcome_none (s := { s with cipher := s.cipher.run q r }) (b := b) (a := a) v h
    rw [heq]
    exact .inl ⟨rfl, rfl, fun c hc => by simp at hc⟩
  | some c =>
    cases ho : c.outcome with
    | some w =>
      have heq := decideOutcome_decided (s := { s with cipher := s.cipher.run q r }) (b := b) (a := a) v h (by simp [ho])
      rw [heq]
      refine .inl ⟨rfl, rfl, fun c' hc => ?_⟩
      obtain rfl := Option.some.inj hc
      simp [ho]
    | none =>
      obtain ⟨hbay, hcipher⟩ := decideOutcome_bay (s := { s with cipher := s.cipher.run q r }) (b := b) (a := a) v h ho
      refine .inr ⟨c, rfl, ho, hbay, ?_⟩
      rw [State.freeEngine, hcipher]

/-! ### Contexts -/

/-- A context as internal work leaves it: it is who it was, an outcome once decided stays, and it is not DONE unless it was. -/
structure Later (c d : Context) : Prop where
  addr : d.addr = c.addr
  serial : d.serial = c.serial
  fastCapable : d.fastCapable = c.fastCapable
  entry : d.entry = c.entry
  confirmed : d.confirmed = c.confirmed
  commitSent : d.commitSent = c.commitSent
  pollMisses : d.pollMisses = c.pollMisses
  lastAddressed : d.lastAddressed = c.lastAddressed
  pollDue : d.pollDue = c.pollDue
  attemptsTotal : d.attemptsTotal = c.attemptsTotal
  outcome : ∀ v, c.outcome = some v → d.outcome = some v
  phase : c.phase ≠ .done → d.phase ≠ .done

theorem Later.refl (c : Context) : Later c c := by constructor <;> simp

theorem Later.trans {c d e : Context} (h : Later c d) (k : Later d e) : Later c e where
  addr := k.addr.trans h.addr
  serial := k.serial.trans h.serial
  fastCapable := k.fastCapable.trans h.fastCapable
  entry := k.entry.trans h.entry
  confirmed := k.confirmed.trans h.confirmed
  commitSent := k.commitSent.trans h.commitSent
  pollMisses := k.pollMisses.trans h.pollMisses
  lastAddressed := k.lastAddressed.trans h.lastAddressed
  pollDue := k.pollDue.trans h.pollDue
  attemptsTotal := k.attemptsTotal.trans h.attemptsTotal
  outcome v hv := k.outcome v (h.outcome v hv)
  phase hp := k.phase (h.phase hp)

/-- A change of the contexts at one address, each of which is left as a later one of itself. -/
theorem updCtx_later {x : Bay} {a a' : Addr} {f : Context → Context} {c : Context} (hc : x.ctx a = some c)
    (hf : ∀ c, Later c (f c)) : ∃ d, (x.updCtx a' f).ctx a = some d ∧ Later c d := by
  rw [ctx_updCtx x a' a fun c => (hf c).addr, hc]
  split
  · exact ⟨_, rfl, hf c⟩
  · exact ⟨c, rfl, .refl c⟩

/-- A decision leaves every context a later one of itself. -/
theorem decided_later {x : Bay} {a a' : Addr} {v : Verdict} {c e : Context} (hc : x.ctx a = some c) (he : x.ctx a' = some e)
    (ho : e.outcome = none) : ∃ d, (x.decided a' v).ctx a = some d ∧ Later c d := by
  rw [decided_ctx]
  split
  · next h =>
    subst h
    obtain rfl : c = e := Option.some.inj (hc.symm.trans he)
    rw [hc]
    refine ⟨_, rfl, ?_⟩
    constructor <;> simp [ho]
  · exact ⟨c, hc, .refl c⟩

theorem QuietStep.ctx {b : BayId} {s t : State} (h : QuietStep b s t) {a : Addr} {c : Context} (hc : (s.bay b).ctx a = some c) :
    ∃ d, (t.bay b).ctx a = some d ∧ Later c d := by
  cases h with
  | load h =>
    have hbay : ∀ (f : Bay → Bay), (∃ d, (f (s.bay b)).ctx a = some d ∧ Later c d) →
        ∃ d, ((s.updBay b f).bay b).ctx a = some d ∧ Later c d := fun f h => by rwa [bay_updBay_same]
    cases h with
    | request _ _ _ => exact ⟨c, hc, .refl c⟩
    | raise _ _ => exact ⟨c, hc, .refl c⟩
    | reserve _ _ _ => exact hbay _ ⟨c, hc, .refl c⟩
    | take _ _ _ => exact hbay _ (updCtx_later hc fun c => by constructor <;> simp)
    | load _ _ _ _ => exact hbay _ (updCtx_later hc fun c => by constructor <;> simp)
    | position _ _ _ _ _ => exact hbay _ (updCtx_later hc fun c => by constructor <;> simp)
    | commit _ _ _ _ _ => exact hbay _ (updCtx_later hc fun c => by constructor <;> simp)
  | fail idle mem job context check =>
    rcases fail_bay (b := b) rfl with ⟨hb, _⟩ | ⟨e, he, ho, hb | hb, _⟩ <;> rw [hb]
    · exact ⟨c, hc, .refl c⟩
    · exact decided_later hc he ho
    · obtain ⟨d, hd, hlater⟩ := decided_later (v := .failed _) hc he ho
      obtain ⟨d', hd', hlater'⟩ := updCtx_later (f := fun c => { c with recordAppended := true }) hd fun c => by constructor <;> simp
      exact ⟨d', hd', hlater.trans hlater'⟩

/-! ### The bay -/

/-- A bay as internal work leaves it while nothing is sent: its counts of failures may have risen, and its contexts have gone on. -/
structure BayLater (x y : Bay) : Prop where
  state : y.state = x.state
  line : y.line = x.line
  roll : y.roll = x.roll
  rollOver : y.rollOver = x.rollOver
  rateOwed : y.rateOwed = x.rateOwed
  requested : y.batch.requested = x.batch.requested
  inUse : y.batch.inUse = x.batch.inUse
  enrolled : y.batch.enrolled = x.batch.enrolled
  loaded : y.batch.loaded = x.batch.loaded
  unknown : y.batch.unknown = x.batch.unknown
  failed : x.batch.failed ≤ y.batch.failed
  serials : y.contexts.map (·.serial) = x.contexts.map (·.serial)

theorem BayLater.refl (x : Bay) : BayLater x x := by constructor <;> simp

theorem BayLater.trans {x y z : Bay} (h : BayLater x y) (k : BayLater y z) : BayLater x z where
  state := k.state.trans h.state
  line := k.line.trans h.line
  roll := k.roll.trans h.roll
  rollOver := k.rollOver.trans h.rollOver
  rateOwed := k.rateOwed.trans h.rateOwed
  requested := k.requested.trans h.requested
  inUse := k.inUse.trans h.inUse
  enrolled := k.enrolled.trans h.enrolled
  loaded := k.loaded.trans h.loaded
  unknown := k.unknown.trans h.unknown
  failed := h.failed.trans k.failed
  serials := k.serials.trans h.serials

theorem updCtx_serials {x : Bay} {a : Addr} {f : Context → Context} (hf : ∀ c, (f c).serial = c.serial) :
    (x.updCtx a f).contexts.map (·.serial) = x.contexts.map (·.serial) := by
  show (x.contexts.map (fun c => if c.addr = a then f c else c)).map (·.serial) = _
  rw [List.map_map]
  exact List.map_congr_left fun c _ => by simp only [Function.comp]; split <;> simp [hf]

theorem updCtx_bayLater {x : Bay} {a : Addr} {f : Context → Context} (hf : ∀ c, (f c).serial = c.serial) :
    BayLater x (x.updCtx a f) := by
  constructor
  case serials => exact updCtx_serials hf
  case failed => exact Nat.le_refl _
  all_goals rfl

theorem decided_bayLater (x : Bay) (a : Addr) (reason : FailReason) : BayLater x (x.decided a (.failed reason)) := by
  constructor
  case serials => exact updCtx_serials (x := x) fun _ => rfl
  case failed => exact Nat.le_succ _
  all_goals rfl

theorem QuietStep.bay {b : BayId} {s t : State} (h : QuietStep b s t) : BayLater (s.bay b) (t.bay b) := by
  cases h with
  | load h =>
    cases h with
    | request _ _ _ => exact .refl _
    | raise _ _ => exact .refl _
    | reserve _ _ _ => rw [bay_updBay_same]; constructor <;> rfl
    | @take c _ _ _ =>
      rw [bay_updBay_same]
      refine (updCtx_bayLater (x := s.bay b) (a := c.addr) (f := fun c => { c with phase := .transport }) fun _ => rfl).trans ?_
      constructor <;> rfl
    | load _ _ _ _ => rw [bay_updBay_same]; exact updCtx_bayLater fun _ => rfl
    | position _ _ _ _ _ => rw [bay_updBay_same]; exact updCtx_bayLater fun _ => rfl
    | commit _ _ _ _ _ => rw [bay_updBay_same]; exact updCtx_bayLater fun _ => rfl
  | fail idle mem job context check =>
    rcases fail_bay (b := b) rfl with ⟨hb, _⟩ | ⟨e, he, ho, hb | hb, _⟩ <;> rw [hb]
    · exact .refl _
    · exact decided_bayLater _ _ _
    · exact (decided_bayLater _ _ _).trans (updCtx_bayLater fun _ => rfl)

end Sys2Proof.Machine

/-! The end of a frame that draws an answer (R37, R39), by the state of the bay; and the outcomes of a roll call (R8, R11 to R13). -/

namespace Sys2Proof.Machine

/-! ### The line after a frame -/

theorem updBay_setBay (s : State) (b : BayId) (x : Bay) (f : Bay → Bay) : (s.setBay b x).updBay b f = s.setBay b (f x) := by
  rw [State.updBay, bay_setBay_same, setBay_setBay]

/-- The bay whose frame has ended, in the gap after it (R55). -/
def Bay.gapped (now : Nat) (rate : Rate) (x : Bay) : Bay := { x with line := x.line.gapFrom now rate }

theorem gapped_not_ready {x : Bay} {now : Nat} {rate : Rate} {l : LineEnd} (h : x.line = l.gapFrom now rate) : ¬ x.lineReady := by
  rintro ⟨_, hfree, _⟩
  rw [h] at hfree
  simp [LineEnd.gapFrom] at hfree

/-- A frame that ends leaves its line in the gap, whether its data end had been reported or not (R39, R55). -/
theorem ended_of_frame {l : LineEnd} {f : LineFrame} {rate : Rate} {sentAt : Nat} {passed : Bool} (h : l.tx = .frame f rate sentAt passed)
    (p : Bool) (now : Nat) : ({ l with tx := .frame f rate sentAt p } : LineEnd).ended now = l.gapFrom now rate := by
  obtain ⟨_, tx⟩ := l
  obtain rfl : tx = _ := h
  simp only [LineEnd.ended, LineEnd.gapFrom, LineEnd.released, LineEnd.driving, Tx.symbols, LineEnd.shows, LineEnd.sentRate,
    LineEnd.armed, reduceCtorEq, false_and, if_false]
  split
  · split <;> rfl
  · rfl

section Over
variable {s : State} {b : BayId} {f : LineFrame} {rate : Rate} {sentAt : Nat} (hf : (s.bay b).hasFrame f rate sentAt)
include hf

/-- The frame over, for a kind whose data end marks nothing (R39). -/
theorem frameOver_eq (hk : f.kind ≠ .commit) :
    (s.updBay b Bay.passDataEnd).frameOver b = s.setBay b ((s.bay b).gapped s.time rate) := by
  obtain ⟨passed, htx⟩ := hf
  have hpass : (s.bay b).passDataEnd = { s.bay b with line := { (s.bay b).line with tx := .frame f rate sentAt true } } := by
    unfold Bay.passDataEnd
    rw [htx]
    dsimp only
    split
    · next h _ => exact absurd h hk
    · rfl
  rw [State.frameOver, updBay_updBay, State.updBay, hpass]
  exact congrArg (fun l => s.setBay b { s.bay b with line := l }) (ended_of_frame htx true s.time)

/-- A COMMIT over: commit sent is yes (R19, R39). -/
theorem frameOver_commit (hk : f.kind = .commit) {a : Addr} (ha : f.to = some a) : (s.updBay b Bay.passDataEnd).frameOver b =
    s.setBay b (((s.bay b).gapped s.time rate).updCtx a (fun c => { c with commitSent := true })) := by
  obtain ⟨passed, htx⟩ := hf
  have hpass : (s.bay b).passDataEnd = ({ s.bay b with line := { (s.bay b).line with tx := .frame f rate sentAt true } } : Bay).updCtx a
      (fun c => { c with commitSent := true }) := by
    simp only [Bay.passDataEnd, htx, hk, ha]
  rw [State.frameOver, updBay_updBay, State.updBay, hpass]
  exact congrArg (fun l => s.setBay b (({ s.bay b with line := l } : Bay).updCtx a (fun c => { c with commitSent := true })))
    (ended_of_frame htx true s.time)

/-- The end of a frame without a line fault: its answer handled, and in STOPPING the stop goes on (R37). -/
theorem frameEnded_eq {len : Nat} {shown : List Nat} (hlen : f.kind.answerLength = some len)
    (hfault : ∀ x, judgeAnswer rate len shown ≠ .fault x) : s.frameEnded f.kind b shown =
      ((((s.updBay b Bay.passDataEnd).frameOver b).frameAnswer b f sentAt (judgeAnswer rate len shown)).continueStop b).work [b] := by
  obtain ⟨passed, htx⟩ := hf
  simp only [State.frameEnded, htx, hlen, if_true]
  congr 1
  unfold State.endAnswered
  split
  · next h => exact absurd h (hfault _)
  · next h => exact absurd h (hfault _)
  · rfl

/-- The answer limit ends a frame with a garbled answer (R38). -/
theorem answerLimit_eq (hd : f.kind.drawsAnswer = true) : s.bayAnswerLimit b =
      ((((s.updBay b Bay.passDataEnd).frameOver b).frameAnswer b f sentAt .garbled).continueStop b).work [b] := by
  obtain ⟨passed, htx⟩ := hf
  simp only [State.bayAnswerLimit, htx, hd, if_true]
  rfl

end Over

/-! ### What follows, by the state of the bay -/

theorem continueStop_of_not {s : State} {b : BayId} (h : (s.bay b).state ≠ .stopping) : s.continueStop b = s := if_neg h

theorem sendNext_of_not_ready {s : State} {b : BayId} (h : ¬ (s.bay b).lineReady) : s.sendNext b = s := if_neg h

/-- In ROLLING with the line not ready there is nothing to go on with. -/
theorem work_rolling {s : State} {b : BayId} (hst : (s.bay b).state = .rolling) (hline : ¬ (s.bay b).lineReady) (hq : EngineQuiet s) :
    s.work [b] = s := by
  have hadvance : s.advance b = s := by
    simp only [State.advance, hst]
    exact sendNext_of_not_ready hline
  rw [work_advance (by rwa [hadvance]), hadvance]

/-- In STOPPING the line reset owed begins at the end of the frame (R26, R27). -/
theorem work_stopping {s : State} {b : BayId} (hst : (s.bay b).state = .stopping) (howes : (s.bay b).owesReset = true)
    (hq : EngineQuiet s) : (s.continueStop b).work [b] = s.updBay b (fun x => { x with line := x.line.startReset s.time }) := by
  rw [State.continueStop, if_pos hst, proceedStop_of_owes howes]
  refine work_still ?_ (hq.congr rfl)
  rw [bay_updBay_same]
  exact not_sends_of_stopping hst

/-- A batch being aborted owes a line reset (R26, R27). -/
theorem aborted_owes {x : Bay} (hcause : x.batch.stopCause = some .aborted) (hf : x.faultReason ≠ some .lineHeldActive) :
    x.owesReset = true := owesReset_of hcause (by simp) (by simp) hf

/-! ### The ENROL that follows a roll call -/

theorem ctx_of_mem {x : Bay} (h : x.tableOk) {c : Context} (hc : c ∈ x.contexts) : x.ctx c.addr = some c := by
  cases hfind : x.ctx c.addr with
  | none => exact absurd (List.find?_eq_none.1 hfind c hc) (by simp)
  | some d => rw [h.addr_inj (Bay.ctx_mem hfind) hc (Bay.ctx_addr hfind)]

/-- A serial not in the table is offered the next address (R5, R9). -/
theorem enrolFor_new {x : Bay} {serial : Serial} {a : Addr} (hnew : ∀ c ∈ x.contexts, c.serial ≠ serial)
    (ha : a.val = x.contexts.length) (fast : Bool) : x.enrolFor serial fast = .enrol serial fast a 0 none := by
  have hfind : x.contexts.find? (fun c => c.serial == serial) = none := List.find?_eq_none.2 fun c hc => by simpa using hnew c hc
  have hoffer : x.offer = some a := by
    unfold Bay.offer
    rw [dif_pos (ha ▸ a.isLt)]
    exact congrArg some (Fin.ext ha.symm)
  simp only [Bay.enrolFor, hfind, hoffer]

/-- A known serial keeps its address and capability (R10; log 38). -/
theorem enrolFor_known {x : Bay} {c : Context} (ht : x.tableOk) (hc : c ∈ x.contexts) (fast : Bool) :
    x.enrolFor c.serial fast = .enrol c.serial c.fastCapable c.addr 0 none := by
  have hfind : x.contexts.find? (fun d => d.serial == c.serial) = some c := by
    cases hfind : x.contexts.find? (fun d => d.serial == c.serial) with
    | none => exact absurd (List.find?_eq_none.1 hfind c hc) (by simp)
    | some d =>
      have hserial : d.serial = c.serial := by simpa using List.find?_some hfind
      rw [List.inj_on_of_nodup_map ht.2.2.1 (List.mem_of_find?_eq_some hfind) hc hserial]
  simp only [Bay.enrolFor, hfind]

/-! ### The outcome of a roll call in ROLLING -/

section Rolling
variable {s : State} {b : BayId} {rate : Rate}

/-- A bay in ROLLING in the gap after its frame, with what the roll phase goes on with. -/
def Bay.rollsOn (now : Nat) (rate : Rate) (next : RollNext) (empty garbles : Nat) (x : Bay) : Bay :=
  { x with line := x.line.gapFrom now rate, roll := next, batch := { x.batch with emptyRolls := empty, garbles := garbles } }

theorem afterRoll_rollsOn (hover : (s.bay b).rollOver = false) (empty garbles : Nat) (next : RollNext) :
    ((s.setBay b ((s.bay b).gapped s.time rate)).updBay b (Bay.setRollCounts empty garbles)).afterRoll b next =
      s.setBay b ((s.bay b).rollsOn s.time rate next empty garbles) := by
  rw [updBay_setBay, State.afterRoll, bay_setBay_same]
  exact (if_neg (by simpa [Bay.setRollCounts, Bay.gapped] using hover)).trans (updBay_setBay s b _ _)

/-- A roll phase that goes on waits for the gap. -/
theorem rollsOn_waits (hst : (s.bay b).state = .rolling) (hq : EngineQuiet s) (next : RollNext) (empty garbles : Nat) :
    ((s.setBay b ((s.bay b).rollsOn s.time rate next empty garbles)).continueStop b).work [b] =
      s.setBay b ((s.bay b).rollsOn s.time rate next empty garbles) := by
  have hstate : ((s.setBay b ((s.bay b).rollsOn s.time rate next empty garbles)).bay b).state = .rolling := by
    rw [bay_setBay_same]; exact hst
  rw [continueStop_of_not (by rw [hstate]; simp)]
  refine work_rolling hstate ?_ (hq.congr rfl)
  rw [bay_setBay_same]
  exact gapped_not_ready rfl

variable (hst : (s.bay b).state = .rolling)
include hst

theorem gapped_rolling : (((s.setBay b ((s.bay b).gapped s.time rate)).bay b).state == BayState.stopping) = false := by
  rw [bay_setBay_same]
  show ((s.bay b).state == _) = false
  rw [hst]; rfl

theorem rollGarbled_goesOn (hover : (s.bay b).rollOver = false) (hlt : (s.bay b).batch.garbles + 1 < 4) :
    (s.setBay b ((s.bay b).gapped s.time rate)).rollGarbled b =
      s.setBay b ((s.bay b).rollsOn s.time rate (.rollCall none) 0 ((s.bay b).batch.garbles + 1)) := by
  have hn : ((s.setBay b ((s.bay b).gapped s.time rate)).bay b).batch.garbles = (s.bay b).batch.garbles := by
    rw [bay_setBay_same]; rfl
  have hstate : ((s.setBay b ((s.bay b).gapped s.time rate)).bay b).state ≠ .stopping := by
    simpa using gapped_rolling (rate := rate) hst
  simp only [State.rollGarbled, hn, if_neg (Nat.not_le.2 hlt), if_neg hstate]
  exact afterRoll_rollsOn hover _ _ _

theorem rollAnswer_clean (hover : (s.bay b).rollOver = false) {bytes : List Byte} {cap : Bool}
    (hcap : capabilityOfCode (bytes.getD 8 0xFF#8) = some cap) :
    (s.setBay b ((s.bay b).gapped s.time rate)).rollAnswer b (.clean bytes) =
      s.setBay b ((s.bay b).rollsOn s.time rate ((s.bay b).enrolFor (beWord 64 (bytes.take 8)) cap) 0 0) := by
  have henrol : ∀ x : Bay, ((x.gapped s.time rate).setRollCounts 0 0).enrolFor (beWord 64 (bytes.take 8)) cap =
      x.enrolFor (beWord 64 (bytes.take 8)) cap := fun _ => rfl
  simp only [State.rollAnswer, hcap, gapped_rolling hst, Bool.false_eq_true, if_false]
  rw [afterRoll_rollsOn hover, bay_updBay_same, bay_setBay_same, henrol]

theorem rollAnswer_garbled (hover : (s.bay b).rollOver = false) (hlt : (s.bay b).batch.garbles + 1 < 4) :
    (s.setBay b ((s.bay b).gapped s.time rate)).rollAnswer b .garbled =
      s.setBay b ((s.bay b).rollsOn s.time rate (.rollCall none) 0 ((s.bay b).batch.garbles + 1)) :=
  rollGarbled_goesOn hst hover hlt

theorem rollAnswer_deferral (hover : (s.bay b).rollOver = false) :
    (s.setBay b ((s.bay b).gapped s.time rate)).rollAnswer b .deferral =
      s.setBay b ((s.bay b).rollsOn s.time rate (.rollCall (some (s.time + 50000))) 0 0) := by
  simp only [State.rollAnswer, gapped_rolling hst, Bool.false_eq_true, if_false]
  exact afterRoll_rollsOn hover _ _ _

/-- The first empty roll call (R8). -/
theorem rollAnswer_absent (hover : (s.bay b).rollOver = false) (hfirst : (s.bay b).batch.emptyRolls = 0) :
    (s.setBay b ((s.bay b).gapped s.time rate)).rollAnswer b .absent =
      s.setBay b ((s.bay b).rollsOn s.time rate (.rollCall (some (s.time + 200000))) 1 0) := by
  have hn : ((s.setBay b ((s.bay b).gapped s.time rate)).bay b).batch.emptyRolls = 0 := by
    rw [bay_setBay_same]; exact hfirst
  simp only [State.rollAnswer, hn, gapped_rolling hst, Bool.false_eq_true, if_false]
  exact afterRoll_rollsOn hover _ _ _

/-- The second empty roll call in a row ends the roll phase (R8, R13). -/
theorem rollAnswer_empty (hagain : 1 ≤ (s.bay b).batch.emptyRolls) :
    (s.setBay b ((s.bay b).gapped s.time rate)).rollAnswer b .absent =
      (s.setBay b (((s.bay b).gapped s.time rate).setRollCounts ((s.bay b).batch.emptyRolls + 1) 0)).rateDecision b := by
  have hn : ((s.setBay b ((s.bay b).gapped s.time rate)).bay b).batch.emptyRolls = (s.bay b).batch.emptyRolls := by
    rw [bay_setBay_same]; rfl
  simp only [State.rollAnswer, hn, gapped_rolling hst, Bool.false_eq_true, if_false, updBay_setBay]
  exact if_pos (by omega)

end Rolling

/-! ### The rate decision -/

/-- The rate the decision gives (R13). -/
def Bay.decidedRate (x : Bay) : Rate :=
  if x.batch.requested == .fast && x.contexts.all (fun c => c.fastCapable) then .fast else .standard

/-- The bay in LOADING after the rate decision (R13). -/
def Bay.loadingFrom (x : Bay) : Bay :=
  { x with
    state := .loading, roll := .none, rollOver := false, rateOwed := x.decidedRate == .fast
    batch := { x.batch with inUse := x.decidedRate } }

theorem rateDecision_loading {s : State} {b : BayId} (hst : (s.bay b).state = .rolling) (hopen : (s.bay b).allDone = false) :
    s.rateDecision b = s.setBay b (s.bay b).loadingFrom := by
  unfold State.rateDecision
  dsimp only
  rw [if_neg (by simp [hst]), hopen, if_neg (by simp)]
  cases h : (s.bay b).batch.requested == Rate.fast && (s.bay b).contexts.all (fun c => c.fastCapable)
  · simp only [Bay.loadingFrom, Bay.decidedRate, h]
    rfl
  · simp only [Bay.loadingFrom, Bay.decidedRate, h]
    rfl

theorem rateDecision_end {s : State} {b : BayId} (hst : (s.bay b).state = .rolling) (hdone : (s.bay b).allDone = true) :
    s.rateDecision b = s.normalEnd b := by
  unfold State.rateDecision
  dsimp only
  rw [if_neg (by simp [hst]), if_pos hdone]

theorem decidedRate_eq (x : Bay) :
    x.decidedRate = if x.batch.requested = .fast ∧ ∀ c ∈ x.contexts, c.fastCapable = true then .fast else .standard := by
  simp [Bay.decidedRate]

/-! ### The normal end -/

/-- The bay after the normal end of its batch (R25). -/
theorem normalEnd_bay (s : State) (b : BayId) : (s.normalEnd b).bay b =
    { (s.bay b).endBatch .ready with batch := { (s.bay b).batch with hand := none, stopCause := some .complete } } := by
  have hbay := bay_updBay_same (s.appendRecord (.batchEnd (batchEndRecord b (s.bay b).batch .complete []))) b
    (fun x => { x.endBatch .ready with batch := { x.batch with hand := none, stopCause := some .complete } })
  rw [appendRecord_bay] at hbay
  exact hbay

theorem normalEnd_records (s : State) (b : BayId) : (s.normalEnd b).report.records = s.report.records ++
    [{ number := nextNumber s.report.recordCounter, time := s.clock
       body := .batchEnd (batchEndRecord b (s.bay b).batch .complete []) }] := appendRecord_records _ s

theorem normalEnd_frame (s : State) (b : BayId) : BayFrame b s (s.normalEnd b) :=
  (appendRecord_frame b _ s).trans ((setBay_frame b _ _).trans (cipher_frame b _ _))

/-- After the normal end the bay does not go on. -/
theorem work_normalEnd {s : State} (b : BayId) (hq : EngineQuiet s) : ((s.normalEnd b).continueStop b).work [b] = s.normalEnd b := by
  have hstate : ((s.normalEnd b).bay b).state = .ready := by rw [normalEnd_bay]; rfl
  rw [continueStop_of_not (by rw [hstate]; simp)]
  exact work_still (by rw [hstate]; rfl) (Cipher.quiet.emptyHolders (c := s.cipher) hq b)

/-- Internal work after the rate decision has taken a bay with a context not DONE to LOADING, its line in the gap (R13, R15). -/
theorem work_loadingFrom {s s1 : State} {b : BayId} {x : Bay} {c : Context} (hbay : s1.bay b = x.loadingFrom)
    (hline : ¬ x.lineReady) (hc : x.ctx c.addr = some c) (hnd : c.phase ≠ .done) (hq : EngineQuiet s1) (hframe : BayFrame b s s1) :
    ∃ t, (s1.continueStop b).work [b] = t ∧ OnlyBay b s t.beginFrame ∧ BayLater x.loadingFrom (t.bay b) ∧
      ∀ a d, x.ctx a = some d → ∃ e, (t.bay b).ctx a = some e ∧ Later d e := by
  rw [continueStop_of_not (by rw [hbay]; simp [Bay.loadingFrom])]
  obtain ⟨u, ⟨hlater, hctx⟩, hended, honly, -⟩ := work_quiet (b := b) (s := s) (s1 := s1)
    (P := fun u => BayLater x.loadingFrom (u.bay b) ∧ ∀ a d, x.ctx a = some d → ∃ e, (u.bay b).ctx a = some e ∧ Later d e)
    (fun u v h hu => ⟨hu.1.trans h.bay, fun a d hd => by
      obtain ⟨e, he, hde⟩ := hu.2 a d hd
      obtain ⟨e', he', hee⟩ := h.ctx he
      exact ⟨e', he', hde.trans hee⟩⟩)
    (fun u hu hready => hline ⟨by rw [← hready.1, hu.1.line]; rfl, by rw [← hready.2.1, hu.1.line]; rfl,
      by rw [← hready.2.2, hu.1.line]; rfl⟩)
    (fun u hu => by
      obtain ⟨e, he, hce⟩ := hu.2 c.addr c hc
      exact allDone_false he (hce.phase hnd))
    hframe (Cipher.quiet.ownedBy hq b) ⟨by rw [hbay]; exact .refl _, fun a d hd => ⟨d, by rw [hbay]; exact hd, .refl d⟩⟩
  refine ⟨_, rfl, honly, ?_, fun a d hd => ?_⟩
  · rw [hended.bay]; exact hlater
  · rw [hended.bay]; exact hctx a d hd

/-! ### A garbled roll call -/

/-- Garbled is what no clean answer with a defined capability is (R8; log 20). -/
theorem rollAnswer_unclear {t : State} {b : BayId} {ans : Answer}
    (h : ans = .garbled ∨ ∃ bytes, ans = .clean bytes ∧ capabilityOfCode (bytes.getD 8 0xFF#8) = none) :
    t.rollAnswer b ans = t.rollGarbled b := by
  rcases h with rfl | ⟨bytes, rfl, hcap⟩
  · rfl
  · simp only [State.rollAnswer, hcap]

theorem unclear_not_fault {ans : Answer}
    (h : ans = .garbled ∨ ∃ bytes, ans = .clean bytes ∧ capabilityOfCode (bytes.getD 8 0xFF#8) = none) (y : LineFault) :
    ans ≠ .fault y := by
  rcases h with rfl | ⟨bytes, rfl, _⟩ <;> simp

/-- The fourth garble in a row stops the batch as a line fault (R11, R29). -/
theorem garbleLimit_stops {s : State} {b : BayId} {rate : Rate} (hst : (s.bay b).state = .rolling)
    (hge : 4 ≤ (s.bay b).batch.garbles + 1) (hfr : (s.bay b).faultReason = none) (hq : EngineQuiet s) :
    ∃ t, (((s.setBay b ((s.bay b).gapped s.time rate)).rollGarbled b).continueStop b).work [b] = t ∧ BayFrame b s t ∧
      (t.bay b).state = .stopping ∧ (t.bay b).batch.stopCause = some .lineFault ∧ (t.bay b).faultReason = some .echoMismatch ∧
      (t.bay b).line.tx = .reset s.time := by
  obtain ⟨y, hy⟩ : ∃ y, y = ((s.bay b).gapped s.time rate).setRollCounts 0 ((s.bay b).batch.garbles + 1) := ⟨_, rfl⟩
  have hystate : y.state = .rolling := by rw [hy]; exact hst
  have hyfault : y.faultReason = none := by rw [hy]; exact hfr
  have hgarbled : (s.setBay b ((s.bay b).gapped s.time rate)).rollGarbled b =
      ((s.setBay b y).beginStop b .lineFault (some .echoMismatch)).proceedStop b := by
    have hn : ((s.setBay b ((s.bay b).gapped s.time rate)).bay b).batch.garbles = (s.bay b).batch.garbles := by
      rw [bay_setBay_same]; rfl
    simp only [State.rollGarbled, hn, if_pos hge, updBay_setBay, State.garbleLimit]
    rw [bay_setBay_same, ← hy, hystate]
  obtain ⟨v, hv⟩ : ∃ v, v = (s.setBay b y).beginStop b .lineFault (some .echoMismatch) := ⟨_, rfl⟩
  have hvbay : v.bay b = y.stopping .lineFault (some .echoMismatch) := by rw [hv, beginStop_bay, bay_setBay_same]
  have hvfault : (v.bay b).faultReason = some .echoMismatch := by
    rw [hvbay]
    show y.faultReason.or _ = _
    rw [hyfault]; rfl
  have howes : ∀ z : Bay, z.batch.stopCause = some .lineFault → z.faultReason = some .echoMismatch → z.owesReset = true :=
    fun z h1 h2 => owesReset_of h1 (by simp) (by simp) (by rw [h2]; simp)
  have hvq : EngineQuiet v := by rw [hv]; exact EngineQuiet.beginStop b _ _ (hq.congr rfl)
  have hfirst : v.proceedStop b = v.updBay b (fun x => { x with line := x.line.startReset v.time }) :=
    proceedStop_of_owes (howes _ (by rw [hvbay]; rfl) hvfault)
  have hframe : BayFrame b s v := by
    rw [hv]
    exact (setBay_frame b _ s).trans (beginStop_onlyBay_frame b _ _ (by rw [bay_setBay_same]; simp [Bay.isRunning, hystate]))
  obtain ⟨w, hw⟩ : ∃ w, w = v.updBay b (fun x => { x with line := x.line.startReset v.time }) := ⟨_, rfl⟩
  have hwbay : w.bay b = { y.stopping .lineFault (some .echoMismatch) with
      line := (y.stopping .lineFault (some .echoMismatch)).line.startReset v.time } := by rw [hw, bay_updBay_same, hvbay]
  have hwfault : (w.bay b).faultReason = some .echoMismatch := by rw [hwbay]; exact hvbay ▸ hvfault
  have hwork : (w.continueStop b).work [b] = w.updBay b (fun x => { x with line := x.line.startReset w.time }) :=
    work_stopping (by rw [hwbay]; rfl) (howes _ (by rw [hwbay]; rfl) hwfault) (hw ▸ hvq.congr rfl)
  have hwtime : w.time = s.time := by rw [hw, ← hframe.time]; rfl
  refine ⟨_, rfl, ?_⟩
  rw [hgarbled, ← hv, hfirst, ← hw, hwork]
  refine ⟨hframe.trans ((hw ▸ setBay_frame b _ v : BayFrame b v w).trans (setBay_frame b _ w)), ?_⟩
  rw [bay_updBay_same, hwbay]
  refine ⟨rfl, rfl, hvbay ▸ hvfault, ?_⟩
  show Tx.reset w.time = _
  rw [hwtime]

/-! ### In STOPPING -/

/-- A frame that ends in STOPPING: what its answer has left in the bay, and the line reset (R26, R27; log 16). -/
theorem work_stopped {s : State} {b : BayId} {y : Bay} (hst : y.state = .stopping) (howes : y.owesReset = true) (hq : EngineQuiet s) :
    ((s.setBay b y).continueStop b).work [b] = s.setBay b { y with line := y.line.startReset s.time } := by
  have hwork := work_stopping (s := s.setBay b y) (b := b) (by rw [bay_setBay_same]; exact hst)
    (by rw [bay_setBay_same]; exact howes) (hq.congr rfl)
  rw [updBay_setBay] at hwork
  exact hwork

/-! ### The obligation -/

/-- Settles O46: each outcome of the roll call, in ROLLING and in STOPPING. -/
theorem rollCallEnded : Obligations.RollCallEnded := by
  refine ⟨fun s b rate sentAt shown hp hq htables hst hover hf => ?_, fun s b rate sentAt shown habort => ?_⟩
  · intro x ans goesOn
    have htable : x.tableOk := htables b
    have hbase := frameOver_eq hf (by simp [rollCallFrame])
    have hends : ∀ {t : State}, (∀ y, ans ≠ .fault y) →
        (((s.setBay b (x.gapped s.time rate)).rollAnswer b ans).continueStop b).work [b] = t →
        exec (.rollCallEnded b shown) s = .next t.beginFrame := fun hfault ht => by
      refine (event_powered _ hp).trans (congrArg (fun t : State => Host.Outcome.next t.beginFrame) ?_)
      exact (frameEnded_eq hf (len := 9) rfl hfault).trans (by rw [hbase]; exact ht)
    have hgoes : ∀ {next empty garbles}, (∀ y, ans ≠ .fault y) →
        (s.setBay b (x.gapped s.time rate)).rollAnswer b ans = s.setBay b (x.rollsOn s.time rate next empty garbles) →
        goesOn (.rollCallEnded b shown) next empty garbles := fun hfault h =>
      hends hfault ((congrArg (fun t : State => (t.continueStop b).work [b]) h).trans (rollsOn_waits hst hq _ _ _))
    refine ⟨fun bytes cap hans hcap => ⟨fun hnew a ha => ?_, fun c hc hserial => ?_⟩, fun hgarbled => ⟨fun hlt => ?_, fun hge hfr => ?_⟩,
      fun hlt => ?_, fun hans => ?_, fun hans => ⟨fun hfirst => ?_, fun hagain => ⟨fun hempty => ?_, fun hopen => ?_⟩⟩⟩
    · refine hgoes (by simp [hans]) ?_
      rw [hans, rollAnswer_clean hst hover hcap, enrolFor_new hnew ha]
    · refine hgoes (by simp [hans]) ?_
      rw [hans, rollAnswer_clean hst hover hcap, ← hserial, enrolFor_known htable hc]
    · exact hgoes (unclear_not_fault hgarbled) ((rollAnswer_unclear hgarbled).trans (rollGarbled_goesOn hst hover hlt))
    · obtain ⟨t, ht, hframe, hstate, hcause, hreason, htx⟩ := garbleLimit_stops (rate := rate) hst hge hfr hq
      refine ⟨_, hends (t := t) (unclear_not_fault hgarbled) (by rw [rollAnswer_unclear hgarbled]; exact ht), hframe.event.1,
        hframe.event.2, ?_⟩
      rw [beginFrame_bay]
      exact ⟨hstate, hcause, hreason, htx⟩
    · refine (event_powered _ hp).trans (congrArg (fun t : State => Host.Outcome.next t.beginFrame) ?_)
      refine (answerLimit_eq hf rfl).trans ?_
      rw [hbase]
      exact (congrArg (fun t : State => (t.continueStop b).work [b]) (rollAnswer_garbled hst hover hlt)).trans (rollsOn_waits hst hq _ _ _)
    · exact hgoes (by simp [hans]) (by rw [hans]; exact rollAnswer_deferral hst hover)
    · exact hgoes (by simp [hans]) (by rw [hans]; exact rollAnswer_absent hst hover hfirst)
    · obtain ⟨y, hy⟩ : ∃ y, y = (x.gapped s.time rate).setRollCounts (x.batch.emptyRolls + 1) 0 := ⟨_, rfl⟩
      have hdone : y.allDone = true := by rw [hy]; show x.allDone = true; simp [Bay.allDone, hempty]
      have hlast : (s.setBay b (x.gapped s.time rate)).rollAnswer b ans = (s.setBay b y).normalEnd b := by
        rw [hans, rollAnswer_empty hst hagain, ← hy]
        exact rateDecision_end (by rw [bay_setBay_same, hy]; exact hst) (by rw [bay_setBay_same]; exact hdone)
      have hframe : BayFrame b s ((s.setBay b y).normalEnd b) := (setBay_frame b y s).trans (normalEnd_frame _ b)
      refine ⟨_, hends (by simp [hans]) ((congrArg (fun t : State => (t.continueStop b).work [b]) hlast).trans
        (work_normalEnd b (hq.congr rfl))), hframe.event.1, hframe.event.2, ?_, ?_, ?_⟩
      · rw [beginFrame_bay, normalEnd_bay]; rfl
      · rw [beginFrame_bay, normalEnd_bay]
      · rw [beginFrame_report, normalEnd_records, bay_setBay_same, hy]
        simp only [List.map_append, List.map_cons, List.map_nil]
        rfl
    · obtain ⟨c, hc, hnd⟩ := hopen
      obtain ⟨y, hy⟩ : ∃ y, y = (x.gapped s.time rate).setRollCounts (x.batch.emptyRolls + 1) 0 := ⟨_, rfl⟩
      have hctx : y.ctx c.addr = some c := by rw [hy]; exact ctx_of_mem htable hc
      have hlast : (s.setBay b (x.gapped s.time rate)).rollAnswer b ans = s.setBay b y.loadingFrom := by
        rw [hans, rollAnswer_empty hst hagain, ← hy,
          rateDecision_loading (by rw [bay_setBay_same, hy]; exact hst) (by rw [bay_setBay_same]; exact allDone_false hctx hnd),
          bay_setBay_same, setBay_setBay]
      obtain ⟨t, ht, honly, hlater, -⟩ := work_loadingFrom (s := s) (s1 := s.setBay b y.loadingFrom) (bay_setBay_same s b _)
        (gapped_not_ready (by rw [hy]; rfl)) hctx hnd (hq.congr rfl) (setBay_frame b _ s)
      refine ⟨_, hends (t := t) (by simp [hans]) (by rw [hlast]; exact ht), honly, ?_, ?_⟩
      · rw [beginFrame_bay, hlater.state]; rfl
      · rw [beginFrame_bay, hlater.inUse]
        have hrate : y.loadingFrom.batch.inUse = x.decidedRate := by rw [hy]; rfl
        rw [hrate, decidedRate_eq]
  · intro x ans stops
    obtain ⟨hp, hq, hst, hcause, hfr, hf⟩ := habort
    have hbase := frameOver_eq hf (by simp [rollCallFrame])
    have hstopping : (((s.setBay b (x.gapped s.time rate)).bay b).state == BayState.stopping) = true := by
      rw [bay_setBay_same]; exact beq_iff_eq.2 hst
    have hstops : ∀ {empty garbles reason}, (∀ y, ans ≠ .fault y) → reason ≠ some .lineHeldActive →
        (s.setBay b (x.gapped s.time rate)).rollAnswer b ans =
          s.setBay b { (x.gapped s.time rate).setRollCounts empty garbles with faultReason := reason } →
        stops empty garbles reason := fun {empty garbles reason} hfault hreason h => by
      refine (event_powered _ hp).trans (congrArg (fun t : State => Host.Outcome.next t.beginFrame) ?_)
      refine (frameEnded_eq hf (len := 9) rfl hfault).trans ?_
      rw [hbase]
      refine (congrArg (fun t : State => (t.continueStop b).work [b]) h).trans ?_
      exact work_stopped (y := { (x.gapped s.time rate).setRollCounts empty garbles with faultReason := reason }) hst
        (aborted_owes hcause hreason) hq
    have hkeep : ∀ empty garbles, { (x.gapped s.time rate).setRollCounts empty garbles with faultReason := none } =
        (x.gapped s.time rate).setRollCounts empty garbles := fun empty garbles => by
      have hfr : x.faultReason = none := hfr
      simp only [Bay.setRollCounts, Bay.gapped, hfr]
    refine ⟨fun bytes cap hans hcap => ?_, fun hgarbled => ?_, fun hans => ?_, fun hans => ?_⟩
    · refine hstops (by simp [hans]) (by simp) ?_
      rw [hkeep, hans]
      simp only [State.rollAnswer, hcap, hstopping, if_true, updBay_setBay]
    · have hn : ((s.setBay b (x.gapped s.time rate)).bay b).batch.garbles = x.batch.garbles := by rw [bay_setBay_same]; rfl
      have hst' : ((s.setBay b (x.gapped s.time rate)).bay b).state = .stopping := by rw [bay_setBay_same]; exact hst
      have hst1 : ((x.gapped s.time rate).setRollCounts 0 (x.batch.garbles + 1)).state = .stopping := hst
      have hfr1 : ((x.gapped s.time rate).setRollCounts 0 (x.batch.garbles + 1)).faultReason = none := hfr
      by_cases hge : 4 ≤ x.batch.garbles + 1
      · rw [if_pos hge]
        refine hstops (unclear_not_fault hgarbled) (by simp) ((rollAnswer_unclear hgarbled).trans ?_)
        simp only [State.rollGarbled, hn, if_pos hge, updBay_setBay, State.garbleLimit]
        rw [bay_setBay_same, hst1]
        dsimp only
        rw [hfr1]
        rfl
      · rw [if_neg hge]
        refine hstops (unclear_not_fault hgarbled) (by simp) ((rollAnswer_unclear hgarbled).trans ?_)
        rw [hkeep]
        simp only [State.rollGarbled, hn, if_neg hge, hst', if_true, updBay_setBay]
    · refine hstops (by simp [hans]) (by simp) ?_
      rw [hkeep, hans]
      simp only [State.rollAnswer, hstopping, if_true, updBay_setBay]
    · refine hstops (by simp [hans]) (by simp) ?_
      rw [hkeep, hans]
      have hn : ((s.setBay b (x.gapped s.time rate)).bay b).batch.emptyRolls = x.batch.emptyRolls := by rw [bay_setBay_same]; rfl
      simp only [State.rollAnswer, hstopping, hn, if_true, updBay_setBay]

end Sys2Proof.Machine

/-! The end of an ENROL (R9, R10, R13, R14, R27). -/

namespace Sys2Proof.Machine

section Enrol
variable {t : State} {b : BayId} {serial : Serial} {cap : Bool} {a : Addr} {failures : Nat} {wait : Option Nat} (sentAt : Nat)

/-! ### What an answer to ENROL does -/

theorem enrolAnswer_accept (hroll : (t.bay b).roll = .enrol serial cap a failures wait) (hst : (t.bay b).state ≠ .stopping) :
    t.enrolAnswer b sentAt (.clean [0x01#8]) =
      if 4 ≤ ((t.enrolAccepted b a serial cap sentAt).bay b).contexts.length then (t.enrolAccepted b a serial cap sentAt).rateDecision b
      else (t.enrolAccepted b a serial cap sentAt).afterRoll b (.rollCall none) := by
  have hstopping : ((t.bay b).state == BayState.stopping) = false := by simpa using hst
  simp only [State.enrolAnswer, hroll, hstopping]
  rfl

/-- In STOPPING an ACCEPT is noted and nothing follows (R27; log 16). -/
theorem enrolAnswer_accept_stopping (hroll : (t.bay b).roll = .enrol serial cap a failures wait) (hst : (t.bay b).state = .stopping) :
    t.enrolAnswer b sentAt (.clean [0x01#8]) = t.enrolAccepted b a serial cap sentAt := by
  have hstopping : ((t.bay b).state == BayState.stopping) = true := by simpa using hst
  simp only [State.enrolAnswer, hroll, hstopping]
  rfl

theorem enrolAnswer_other_stopping (hroll : (t.bay b).roll = .enrol serial cap a failures wait) (hst : (t.bay b).state = .stopping)
    {ans : Answer} (hans : ans ≠ .clean [0x01#8]) : t.enrolAnswer b sentAt ans = t := by
  have hstopping : ((t.bay b).state == BayState.stopping) = true := by simpa using hst
  simp only [State.enrolAnswer, hroll, hstopping]
  exact if_neg hans

/-- A failed attempt: a second ENROL after the first, a hold-back after the second (R9). -/
theorem enrolAnswer_failed (hroll : (t.bay b).roll = .enrol serial cap a failures wait) (hst : (t.bay b).state ≠ .stopping)
    {ans : Answer} (hans : ans ≠ .clean [0x01#8]) : t.enrolAnswer b sentAt ans =
      t.afterRoll b (if failures = 0 then .enrol serial cap a 1 (if ans = .deferral then some (t.time + 50000) else none)
        else .rollCall (some (t.time + 2100000))) := by
  have hstopping : ((t.bay b).state == BayState.stopping) = false := by simpa using hst
  simp only [State.enrolAnswer, hroll, hstopping, Bool.false_eq_true, if_false]
  refine (if_neg hans).trans ?_
  by_cases hf : failures = 0 <;> simp only [hf, if_true, if_false] <;> rfl

/-- The context an accepted ENROL creates, its profile entry looked up (R5, R14). -/
def Bay.withContext (c : Context) (x : Bay) : Bay :=
  { x with contexts := x.contexts ++ [c], batch := { x.batch with enrolled := x.batch.enrolled + 1 } }

theorem enrolAccepted_known (h : ∃ c ∈ (t.bay b).contexts, c.serial = serial) : t.enrolAccepted b a serial cap sentAt =
    t.updBay b (fun x => x.updCtx a (fun c => { c with pollMisses := 0, lastAddressed := sentAt, pollDue := false })) := by
  refine if_pos ?_
  obtain ⟨c, hc, hs⟩ := h
  exact List.any_eq_true.2 ⟨c, hc, by simpa using hs⟩

theorem enrolAccepted_new (h : ∀ c ∈ (t.bay b).contexts, c.serial ≠ serial) : t.enrolAccepted b a serial cap sentAt =
    t.createContext b a serial cap sentAt := by
  refine if_neg ?_
  rw [List.any_eq_true]
  rintro ⟨c, hc, hs⟩
  exact h c hc (by simpa using hs)

theorem createContext_found (hst : (t.bay b).state ≠ .stopping) {e : EntryId} {p : Profile} {on : Bool} (he : t.lookup serial = some e)
    (hp : t.entry e = .stored on p) : t.createContext b a serial cap sentAt =
      t.updBay b (Bay.withContext (newContext a serial cap (some e) p.keySet.length sentAt)) := by
  have hstopping : ((t.bay b).state == BayState.stopping) = false := by simpa using hst
  have hprofile : (t.entry e).profile = some p := by rw [hp]; rfl
  simp only [State.createContext, hstopping, he, Bool.false_eq_true, if_false, Option.bind_some, hprofile]
  rfl

theorem createContext_unknown (hst : (t.bay b).state ≠ .stopping) (he : t.lookup serial = none) : t.createContext b a serial cap sentAt =
    (t.updBay b (Bay.withContext (newContext a serial cap none 0 sentAt))).decideOutcome b a .unknown := by
  have hstopping : ((t.bay b).state == BayState.stopping) = false := by simpa using hst
  simp only [State.createContext, hstopping, he, Bool.false_eq_true, if_false]
  rfl

theorem createContext_stopping (hst : (t.bay b).state = .stopping) : t.createContext b a serial cap sentAt =
    t.updBay b (Bay.withContext (newContext a serial cap none 0 sentAt)) := by
  have hstopping : ((t.bay b).state == BayState.stopping) = true := by simpa using hst
  simp only [State.createContext, hstopping]
  rfl

end Enrol

/-! ### The new context in the table -/

/-- With the table in order no context holds the next address (R5). -/
theorem tableOk_fresh {x : Bay} (h : x.tableOk) {a : Addr} (ha : a.val = x.contexts.length) : ∀ c ∈ x.contexts, c.addr ≠ a := by
  intro c hc hca
  have hmem : c.addr.val ∈ x.contexts.map (fun c => c.addr.val) := List.mem_map_of_mem hc
  rw [h.2.1, List.mem_range, hca, ha] at hmem
  exact Nat.lt_irrefl _ hmem

theorem ctx_withContext {x : Bay} {c : Context} (h : ∀ d ∈ x.contexts, d.addr ≠ c.addr) : (x.withContext c).ctx c.addr = some c := by
  have hnone : x.contexts.find? (fun d => d.addr == c.addr) = none := List.find?_eq_none.2 fun d hd => by simpa using h d hd
  show (x.contexts ++ [c]).find? _ = _
  rw [List.find?_append, hnone]
  simp

/-- A change at the address of the last context, which no other has. -/
theorem updCtx_append {x : Bay} {l : List Context} {c : Context} (hx : x.contexts = l ++ [c]) (hl : ∀ d ∈ l, d.addr ≠ c.addr)
    (f : Context → Context) : (x.updCtx c.addr f).contexts = l ++ [f c] := by
  show x.contexts.map (fun d => if d.addr = c.addr then f d else d) = _
  rw [hx, List.map_append]
  congr 1
  · exact (List.map_congr_left fun d hd => if_neg (hl d hd)).trans (List.map_id _)
  · simp

/-- What the creation of a context leaves in the bay: the context at the end of the table, known or UNKNOWN (R9, R14). -/
structure Enrolled (x y : Bay) (c : Context) : Prop where
  contexts : y.contexts = x.contexts ++ [c]
  state : y.state = x.state
  line : y.line = x.line
  roll : y.roll = x.roll
  rollOver : y.rollOver = x.rollOver
  requested : y.batch.requested = x.batch.requested
  enrolled : y.batch.enrolled = x.batch.enrolled + 1
  open_ : c.phase ≠ .done

theorem createContext_known {t : State} {b : BayId} {serial : Serial} {cap : Bool} {a : Addr} (sentAt : Nat)
    (hst : (t.bay b).state ≠ .stopping) {e : EntryId} (he : t.lookup serial = some e) :
    ∃ n, t.createContext b a serial cap sentAt = t.updBay b (Bay.withContext (newContext a serial cap (some e) n sentAt)) := by
  have hstopping : ((t.bay b).state == BayState.stopping) = false := by simpa using hst
  refine ⟨((t.entry e).profile.map (fun p => p.keySet.length)).getD 0, ?_⟩
  simp only [State.createContext, hstopping, he, Bool.false_eq_true, if_false, Option.bind_some]
  rfl

/-- A serial with no entry is UNKNOWN at once (R14). -/
theorem unknown_enrolled {t : State} {b : BayId} {serial : Serial} {cap : Bool} {a : Addr} (sentAt : Nat)
    (hfresh : ∀ d ∈ (t.bay b).contexts, d.addr ≠ a) :
    let u := (t.updBay b (Bay.withContext (newContext a serial cap none 0 sentAt))).decideOutcome b a .unknown
    ∃ c, Enrolled (t.bay b) (u.bay b) c ∧ c.addr = a ∧ c.serial = serial ∧ c.fastCapable = cap ∧ c.entry = none ∧
      c.phase = .reportWait ∧ c.outcome = some .unknown ∧ (u.bay b).batch.unknown = (t.bay b).batch.unknown + 1 ∧
      u.cipher = t.cipher.dropContext b a := by
  intro u
  obtain ⟨nc, hnc⟩ : ∃ nc, nc = newContext a serial cap none 0 sentAt := ⟨_, rfl⟩
  have haddr : nc.addr = a := by rw [hnc]; rfl
  subst haddr
  have hbay : (t.updBay b (Bay.withContext (newContext nc.addr serial cap none 0 sentAt))).bay b = (t.bay b).withContext nc := by
    rw [bay_updBay_same, ← hnc]
  have hctx : ((t.updBay b (Bay.withContext (newContext nc.addr serial cap none 0 sentAt))).bay b).ctx nc.addr = some nc := by
    rw [hbay]; exact ctx_withContext hfresh
  obtain ⟨hdecided, hcipher⟩ := decideOutcome_bay .unknown hctx (by rw [hnc]; rfl)
  rw [hbay] at hdecided
  have hcontexts : (((t.bay b).withContext nc).decided nc.addr .unknown).contexts =
      (t.bay b).contexts ++ [{ nc with phase := .reportWait, outcome := some .unknown }] := updCtx_append rfl hfresh _
  have hmarked := updCtx_append hcontexts hfresh (fun c => { c with recordAppended := true })
  have hserial : nc.serial = serial := by rw [hnc]; rfl
  have hfast : nc.fastCapable = cap := by rw [hnc]; rfl
  have hentry : nc.entry = none := by rw [hnc]; rfl
  rcases hdecided with h | h
  · exact ⟨_, ⟨(congrArg Bay.contexts h).trans hcontexts, by rw [h]; rfl, by rw [h]; rfl, by rw [h]; rfl, by rw [h]; rfl,
      by rw [h]; rfl, by rw [h]; rfl, by simp⟩, rfl, hserial, hfast, hentry, rfl, rfl, by rw [h]; rfl, hcipher⟩
  · exact ⟨_, ⟨(congrArg Bay.contexts h).trans hmarked, by rw [h]; rfl, by rw [h]; rfl, by rw [h]; rfl, by rw [h]; rfl,
      by rw [h]; rfl, by rw [h]; rfl, by simp⟩, rfl, hserial, hfast, hentry, rfl, rfl, by rw [h]; rfl, hcipher⟩

/-- The context created by an ENROL accepted in ROLLING, whatever the lookup says. -/
theorem createContext_enrolled {t : State} {b : BayId} {serial : Serial} {cap : Bool} {a : Addr} (sentAt : Nat)
    (hst : (t.bay b).state ≠ .stopping) (hfresh : ∀ d ∈ (t.bay b).contexts, d.addr ≠ a) (hq : EngineQuiet t) :
    ∃ u c, t.createContext b a serial cap sentAt = u ∧ Enrolled (t.bay b) (u.bay b) c ∧ c.addr = a ∧ c.serial = serial ∧
      c.fastCapable = cap ∧ c.entry = t.lookup serial ∧ BayFrame b t u ∧ EngineQuiet u := by
  cases he : t.lookup serial with
  | some e =>
    obtain ⟨n, hn⟩ := createContext_known (a := a) (cap := cap) sentAt hst he
    refine ⟨_, newContext a serial cap (some e) n sentAt, hn, ?_, rfl, rfl, rfl, rfl, setBay_frame b _ t, hq.congr rfl⟩
    rw [bay_updBay_same]
    exact ⟨rfl, rfl, rfl, rfl, rfl, rfl, rfl, by simp [newContext]⟩
  | none =>
    obtain ⟨c, henrolled, haddr, hserial, hfast, hentry, -, -, -, hcipher⟩ := unknown_enrolled (serial := serial) (cap := cap) sentAt hfresh
    refine ⟨_, c, createContext_unknown sentAt hst he, henrolled, haddr, hserial, hfast, hentry,
      (setBay_frame b _ t).trans (decideOutcome_path b a _ _).frame, ?_⟩
    rw [engineQuiet_iff, hcipher]
    exact Cipher.quiet.dropContext hq b a

/-- Where the ENROL of a serial under way has its address (R5, R9, R10). -/
theorem tableOk_offer {x : Bay} (h : x.tableOk) {serial : Serial} {cap : Bool} {a : Addr} {failures : Nat} {wait : Option Nat}
    (hroll : x.roll = .enrol serial cap a failures wait) :
    (∃ c ∈ x.contexts, c.serial = serial ∧ c.addr = a) ∨ ((∀ c ∈ x.contexts, c.serial ≠ serial) ∧ a.val = x.contexts.length) :=
  (offerFits_iff x).1 h.2.2.2 serial a (by rw [hroll]; rfl)

/-! ### The obligation -/

/-- Settles O47: each outcome of an ENROL, in ROLLING, at the end of the roll phase, and in STOPPING. -/
theorem enrolEnded : Obligations.EnrolEnded := by
  refine ⟨fun s b rate sentAt shown serial cap a failures wait hp hq htables hst hover hroll hf => ?_,
    fun s b rate sentAt shown serial cap a failures wait hp hq htables hst hroll hf hans hnew hlast => ?_,
    fun s b rate sentAt shown serial cap a failures wait habort hroll hfault => ?_⟩
  · intro x ans line goesOn
    have htable : x.tableOk := htables b
    have hbase := frameOver_eq hf (by simp [enrolFrame])
    obtain ⟨y, hy⟩ : ∃ y, y = x.gapped s.time rate := ⟨_, rfl⟩
    have hyst : y.state = .rolling := by rw [hy]; exact hst
    have hst0 : ((s.setBay b y).bay b).state ≠ .stopping := by rw [bay_setBay_same, hyst]; simp
    have hroll0 : ((s.setBay b y).bay b).roll = .enrol serial cap a failures wait := by rw [bay_setBay_same, hy]; exact hroll
    have hends : ∀ {t : State}, (∀ y, ans ≠ .fault y) → (((s.setBay b y).enrolAnswer b sentAt ans).continueStop b).work [b] = t →
        exec (.enrolEnded b shown) s = .next t.beginFrame := fun hfault ht => by
      refine (event_powered _ hp).trans (congrArg (fun t : State => Host.Outcome.next t.beginFrame) ?_)
      exact (frameEnded_eq hf (len := 1) rfl hfault).trans (by rw [hbase, ← hy]; exact ht)
    have hwaits : ∀ {u : State}, (u.bay b).state = .rolling → (u.bay b).line = x.line.gapFrom s.time rate → EngineQuiet u →
        (u.continueStop b).work [b] = u := fun hu hl huq => by
      rw [continueStop_of_not (by rw [hu]; simp)]
      exact work_rolling hu (gapped_not_ready hl) huq
    have hset : ∀ z : Bay, z.state = .rolling → z.line = x.line.gapFrom s.time rate →
        ((s.setBay b z).continueStop b).work [b] = s.setBay b z := fun z h1 h2 =>
      hwaits (by rw [bay_setBay_same]; exact h1) (by rw [bay_setBay_same]; exact h2) (hq.congr rfl)
    have hafter : ∀ {u : State} (next : RollNext), (u.bay b).rollOver = false → u.afterRoll b next = u.updBay b (Bay.setRoll next) :=
      fun next h => if_neg (by simpa using h)
    refine ⟨fun hans hnew hlen => ⟨fun e p on he hentry => ?_, fun he => ?_⟩, fun hans hlen c hc hserial => ?_, fun hans hfault =>
      ⟨fun hfail => ?_, fun hfail => ?_⟩⟩
    · obtain ⟨nc, hnc⟩ : ∃ nc, nc = newContext a serial cap (some e) p.keySet.length sentAt := ⟨_, rfl⟩
      have hacc : (s.setBay b y).enrolAccepted b a serial cap sentAt = s.setBay b (y.withContext nc) := by
        rw [enrolAccepted_new sentAt (by rw [bay_setBay_same, hy]; exact hnew), createContext_found sentAt hst0 he hentry, updBay_setBay, hnc]
      have hshort : ¬ 4 ≤ (y.withContext nc).contexts.length := by
        have hlen' : y.contexts.length < 3 := by rw [hy]; exact hlen
        simp only [Bay.withContext, List.length_append, List.length_cons, List.length_nil]
        omega
      have hlast : (s.setBay b y).enrolAnswer b sentAt ans = s.setBay b ((y.withContext nc).setRoll (.rollCall none)) := by
        rw [hans, enrolAnswer_accept sentAt hroll0 hst0, hacc, bay_setBay_same, if_neg hshort,
          hafter _ (by rw [bay_setBay_same, hy]; exact hover), updBay_setBay]
      refine hends (by simp [hans]) ?_
      rw [hlast, hset ((y.withContext nc).setRoll (.rollCall none)) hyst (by rw [hy]; rfl), hy, hnc]
      rfl
    · have ha : a.val = x.contexts.length := by
        rcases tableOk_offer htable hroll with ⟨c, hc, hs, _⟩ | ⟨_, ha⟩
        · exact absurd hs (hnew c hc)
        · exact ha
      have hycontexts : ((s.setBay b y).bay b).contexts = x.contexts := by rw [bay_setBay_same, hy]; rfl
      obtain ⟨c, henrolled, haddr, hserial, -, hentry, hphase, houtcome, hunknown, hcipher⟩ :=
        unknown_enrolled (t := s.setBay b y) (serial := serial) (cap := cap) sentAt (by rw [hycontexts]; exact tableOk_fresh htable ha)
      obtain ⟨u, hu⟩ : ∃ u, u = ((s.setBay b y).updBay b (Bay.withContext (newContext a serial cap none 0 sentAt))).decideOutcome b a
        .unknown := ⟨_, rfl⟩
      rw [← hu] at henrolled hunknown hcipher
      have hacc : (s.setBay b y).enrolAccepted b a serial cap sentAt = u := by
        rw [enrolAccepted_new sentAt (by rw [hycontexts]; exact hnew), createContext_unknown sentAt hst0 he, hu]
      have hshort : ¬ 4 ≤ (u.bay b).contexts.length := by
        rw [henrolled.contexts, hycontexts, List.length_append, List.length_singleton]
        have hlen' : x.contexts.length < 3 := hlen
        omega
      have hlast : (s.setBay b y).enrolAnswer b sentAt ans = u.updBay b (Bay.setRoll (.rollCall none)) := by
        rw [hans, enrolAnswer_accept sentAt hroll0 hst0, hacc, if_neg hshort,
          hafter _ (by rw [henrolled.rollOver, bay_setBay_same, hy]; exact hover)]
      have hframe : BayFrame b s (u.updBay b (Bay.setRoll (.rollCall none))) := by
        rw [hu]
        exact (setBay_frame b _ s).trans ((setBay_frame b _ _).trans ((decideOutcome_path b a _ _).frame.trans (setBay_frame b _ _)))
      have hquiet : EngineQuiet (u.updBay b (Bay.setRoll (.rollCall none))) := by
        refine EngineQuiet.congr (s := u) ?_ rfl
        rw [engineQuiet_iff, hcipher]
        exact Cipher.quiet.dropContext hq b a
      refine ⟨_, c, hends (by simp [hans]) (by
        rw [hlast]
        exact hwaits (by rw [bay_updBay_same]; exact henrolled.state.trans (by rw [bay_setBay_same]; exact hyst))
          (by rw [bay_updBay_same]; exact henrolled.line.trans (by rw [bay_setBay_same, hy]; rfl)) hquiet),
        hframe.event.1, hframe.event.2, ?_, haddr, hserial, hentry, hphase, houtcome, ?_, ?_, ?_⟩
      · rw [beginFrame_bay, bay_updBay_same]
        exact henrolled.contexts.trans (by rw [hycontexts])
      · rw [beginFrame_bay, bay_updBay_same]
        exact henrolled.enrolled.trans (by rw [bay_setBay_same, hy]; rfl)
      · rw [beginFrame_bay, bay_updBay_same]
        exact hunknown.trans (by rw [bay_setBay_same, hy]; rfl)
      · rw [beginFrame_bay, bay_updBay_same]
        rfl
    · have ha : a = c.addr := by
        rcases tableOk_offer htable hroll with ⟨d, hd, hs, hda⟩ | ⟨hnew, _⟩
        · rw [← hda, List.inj_on_of_nodup_map htable.2.2.1 hd hc (hs.trans hserial.symm)]
        · exact absurd hserial (hnew c hc)
      subst ha
      have hacc : (s.setBay b y).enrolAccepted b c.addr serial cap sentAt = s.setBay b (y.updCtx c.addr
          (fun c => { c with pollMisses := 0, lastAddressed := sentAt, pollDue := false })) := by
        rw [enrolAccepted_known sentAt ⟨c, by rw [bay_setBay_same, hy]; exact hc, hserial⟩, updBay_setBay]
      have hshort : ¬ 4 ≤ (y.updCtx c.addr
          (fun c => { c with pollMisses := 0, lastAddressed := sentAt, pollDue := false })).contexts.length := by
        have hlen' : y.contexts.length < 4 := by rw [hy]; exact hlen
        simp only [Bay.updCtx, List.length_map]
        omega
      have hlast : (s.setBay b y).enrolAnswer b sentAt ans = s.setBay b ((y.updCtx c.addr
          (fun c => { c with pollMisses := 0, lastAddressed := sentAt, pollDue := false })).setRoll (.rollCall none)) := by
        rw [hans, enrolAnswer_accept sentAt hroll0 hst0, hacc, bay_setBay_same, if_neg hshort,
          hafter _ (by rw [bay_setBay_same, hy]; exact hover), updBay_setBay]
      refine hends (by simp [hans]) ?_
      rw [hlast, hset ((y.updCtx c.addr
          (fun c => { c with pollMisses := 0, lastAddressed := sentAt, pollDue := false })).setRoll (.rollCall none)) hyst (by rw [hy]; rfl), hy]
      rfl
    · refine hends hfault ?_
      rw [enrolAnswer_failed sentAt hroll0 hst0 hans, hafter _ (by rw [bay_setBay_same, hy]; exact hover), updBay_setBay, if_pos hfail]
      refine (hset _ (by rw [hy]; exact hst) (by rw [hy]; rfl)).trans ?_
      rw [hy]
      rfl
    · refine hends hfault ?_
      rw [enrolAnswer_failed sentAt hroll0 hst0 hans, hafter _ (by rw [bay_setBay_same, hy]; exact hover), updBay_setBay, if_neg hfail]
      refine (hset _ (by rw [hy]; exact hst) (by rw [hy]; rfl)).trans ?_
      rw [hy]
      rfl
  · obtain ⟨x, hx⟩ : ∃ x, x = s.bay b := ⟨_, rfl⟩
    rw [← hx] at hst hroll hnew hlast ⊢
    have htable : x.tableOk := hx ▸ htables b
    have hbase := frameOver_eq hf (by simp [enrolFrame])
    rw [← hx] at hbase
    obtain ⟨y, hy⟩ : ∃ y, y = x.gapped s.time rate := ⟨_, rfl⟩
    rw [← hy] at hbase
    have hyst : y.state = .rolling := by rw [hy]; exact hst
    have hst0 : ((s.setBay b y).bay b).state ≠ .stopping := by rw [bay_setBay_same, hyst]; simp
    have hroll0 : ((s.setBay b y).bay b).roll = .enrol serial cap a failures wait := by rw [bay_setBay_same, hy]; exact hroll
    have hycontexts : ((s.setBay b y).bay b).contexts = x.contexts := by rw [bay_setBay_same, hy]; rfl
    have ha : a.val = x.contexts.length := by
      rcases tableOk_offer htable hroll with ⟨c, hc, hs, _⟩ | ⟨_, ha⟩
      · exact absurd hs (hnew c hc)
      · exact ha
    have hfresh := tableOk_fresh htable ha
    obtain ⟨u, c, hu, henrolled, haddr, hserial, hfast, hentry, hframe, huq⟩ := createContext_enrolled (t := s.setBay b y)
      (serial := serial) (cap := cap) sentAt hst0 (by rw [hycontexts]; exact hfresh) (hq.congr rfl)
    have hacc : (s.setBay b y).enrolAccepted b a serial cap sentAt = u := by
      rw [enrolAccepted_new sentAt (by rw [hycontexts]; exact hnew), hu]
    obtain ⟨z, hz⟩ : ∃ z, z = u.bay b := ⟨_, rfl⟩
    rw [← hz] at henrolled
    have hzcontexts : z.contexts = x.contexts ++ [c] := by rw [henrolled.contexts, hycontexts]
    have hzctx : z.ctx c.addr = some c := by
      have h := ctx_withContext (x := x) (c := c) (by rw [haddr]; exact hfresh)
      rw [← h]
      unfold Bay.ctx
      rw [hzcontexts]
      rfl
    have hdecision : (s.setBay b y).enrolAnswer b sentAt (.clean [0x01#8]) = u.setBay b z.loadingFrom := by
      have hrate : u.rateDecision b = u.setBay b z.loadingFrom := by
        rw [rateDecision_loading (by rw [← hz, henrolled.state, bay_setBay_same]; exact hyst)
          (by rw [← hz]; exact allDone_false hzctx henrolled.open_), hz]
      rw [enrolAnswer_accept sentAt hroll0 hst0, hacc]
      by_cases hfull : 4 ≤ (u.bay b).contexts.length
      · rw [if_pos hfull, hrate]
      · rw [if_neg hfull, ← hrate]
        have hshort : x.contexts.length ≠ 3 := fun h3 => hfull (by rw [← hz, hzcontexts]; simp [h3])
        refine if_pos ?_
        rw [← hz, henrolled.rollOver, bay_setBay_same, hy]
        exact hlast.resolve_left hshort
    obtain ⟨t, ht, honly, hlater, hctxs⟩ := work_loadingFrom (s := s) (s1 := u.setBay b z.loadingFrom) (bay_setBay_same u b _)
      (gapped_not_ready (by rw [henrolled.line, bay_setBay_same, hy]; rfl)) hzctx henrolled.open_ (huq.congr rfl)
      ((setBay_frame b _ s).trans (hframe.trans (setBay_frame b _ u)))
    obtain ⟨d, hd, hcd⟩ := hctxs c.addr c hzctx
    have hexec : exec (.enrolEnded b shown) s = .next t.beginFrame := by
      refine (event_powered _ hp).trans (congrArg (fun t : State => Host.Outcome.next t.beginFrame) ?_)
      refine (frameEnded_eq hf (len := 1) rfl (by rw [hans]; simp)).trans ?_
      rw [hbase, hans, ← ht]
      exact congrArg (fun t : State => (t.continueStop b).work [b]) hdecision
    refine ⟨t.beginFrame, d, hexec, honly, ?_⟩
    rw [beginFrame_bay]
    refine ⟨hlater.state.trans rfl, hlater.roll.trans rfl, hlater.enrolled.trans ?_, hlater.serials.trans ?_, haddr ▸ hd,
      hcd.serial.trans hserial, hcd.fastCapable.trans hfast, hcd.entry.trans hentry, hlater.inUse.trans ?_⟩
    · exact henrolled.enrolled.trans (by rw [bay_setBay_same, hy]; rfl)
    · show z.contexts.map _ = _
      rw [hzcontexts, List.map_append, List.map_cons, List.map_nil, hserial]
    · show z.decidedRate = _
      have hrequested : z.batch.requested = x.batch.requested := henrolled.requested.trans (by rw [bay_setBay_same, hy]; rfl)
      rw [decidedRate_eq, hrequested, hzcontexts]
      congr 1
      simp only [List.mem_append, List.mem_singleton, eq_iff_iff]
      constructor
      · rintro ⟨h1, h2⟩
        exact ⟨h1, hfast ▸ h2 c (.inr rfl), fun e he => h2 e (.inl he)⟩
      · rintro ⟨h1, h2, h3⟩
        refine ⟨h1, fun e he => ?_⟩
        rcases he with he | rfl
        · exact h3 e he
        · rw [hfast]; exact h2
  · intro x line
    obtain ⟨hp, hq, hst, hcause, hfr, hf⟩ := habort
    have hbase := frameOver_eq hf (by simp [enrolFrame])
    obtain ⟨y, hy⟩ : ∃ y, y = x.gapped s.time rate := ⟨_, rfl⟩
    have hst0 : ((s.setBay b y).bay b).state = .stopping := by rw [bay_setBay_same, hy]; exact hst
    have hroll0 : ((s.setBay b y).bay b).roll = .enrol serial cap a failures wait := by rw [bay_setBay_same, hy]; exact hroll
    have hycontexts : ((s.setBay b y).bay b).contexts = x.contexts := by rw [bay_setBay_same, hy]; rfl
    have hstops : ∀ {z : Bay}, (s.setBay b y).enrolAnswer b sentAt (judgeAnswer rate 1 shown) = s.setBay b z →
        z.state = .stopping → z.batch.stopCause = some .aborted → z.faultReason = none →
        exec (.enrolEnded b shown) s = .next (s.setBay b { z with line := z.line.startReset s.time }).beginFrame :=
      fun {z} h h1 h2 h3 => by
        refine (event_powered _ hp).trans (congrArg (fun t : State => Host.Outcome.next t.beginFrame) ?_)
        refine (frameEnded_eq hf (len := 1) rfl hfault).trans ?_
        rw [hbase, ← hy]
        exact (congrArg (fun t : State => (t.continueStop b).work [b]) h).trans
          (work_stopped h1 (aborted_owes h2 (by rw [h3]; simp)) hq)
    refine ⟨fun hans hnew => ?_, fun hans hknown => ?_, fun hans => ?_⟩
    · have hacc : (s.setBay b y).enrolAnswer b sentAt (judgeAnswer rate 1 shown) =
          s.setBay b (y.withContext (newContext a serial cap none 0 sentAt)) := by
        rw [hans, enrolAnswer_accept_stopping sentAt hroll0 hst0, enrolAccepted_new sentAt (by rw [hycontexts]; exact hnew),
          createContext_stopping sentAt hst0, updBay_setBay]
      rw [hstops hacc (by rw [hy]; exact hst) (by rw [hy]; exact hcause) (by rw [hy]; exact hfr), hy]
      rfl
    · have hacc : (s.setBay b y).enrolAnswer b sentAt (judgeAnswer rate 1 shown) = s.setBay b (y.updCtx a
          (fun c => { c with pollMisses := 0, lastAddressed := sentAt, pollDue := false })) := by
        rw [hans, enrolAnswer_accept_stopping sentAt hroll0 hst0, enrolAccepted_known sentAt (by rw [hycontexts]; exact hknown),
          updBay_setBay]
      rw [hstops hacc (by rw [hy]; exact hst) (by rw [hy]; exact hcause) (by rw [hy]; exact hfr), hy]
      rfl
    · rw [hstops (enrolAnswer_other_stopping sentAt hroll0 hst0 hans) (by rw [hy]; exact hst) (by rw [hy]; exact hcause)
        (by rw [hy]; exact hfr), hy]
      rfl

end Sys2Proof.Machine

/-! The batch's own frame on the free line (R7), and BATCH_START with its first ROLL_CALL (R3, R4). -/

namespace Sys2Proof.Machine

/-! ### The batch's own frame sent -/

/-- With no POLL due and no DISMISS owed the batch's own frame is next (R7). -/
theorem nextFrame_of_onlyBatch {s : State} {b : BayId} (h : (s.bay b).state = .rolling ∨ (s.bay b).state = .loading)
    (honly : (s.bay b).onlyBatchFrame) : s.nextFrame b = s.batchFrame b := by
  have hpoll : (s.bay b).pollFrame = none :=
    Option.map_eq_none_iff.2 (List.find?_eq_none.2 fun c hc => by simpa using (honly c hc).1)
  have hdismiss : (s.bay b).dismissFrame = none :=
    Option.map_eq_none_iff.2 (List.find?_eq_none.2 fun c hc => by simpa using (honly c hc).2)
  rw [nextFrame_of_sends h, hpoll, hdismiss]; rfl

theorem sendNext_of_ready {s : State} {b : BayId} {f : LineFrame} (hready : (s.bay b).lineReady) (hdue : s.nextFrame b = some f) :
    s.sendNext b = s.updBay b (Bay.send s.time f) := by
  have hready : (s.bay b).line.tx = .idle ∧ (s.bay b).line.free = true ∧ (s.bay b).line.loopback = false := hready
  simp only [State.sendNext, if_pos hready, hdue]

/-- A bay that begins a frame to no context (R33). -/
def Bay.begins (now : Nat) (f : LineFrame) (x : Bay) : Bay :=
  { x with line := x.line.begins now (.frame f x.line.rate now false) }

/-- A frame of the roll phase is addressed to no context: it changes nothing but the line (R33). -/
theorem send_to_none {f : LineFrame} (hto : f.to = none) (hk : f.kind ≠ .rate) (now : Nat) (x : Bay) :
    x.send now f = x.begins now f := by
  simp only [Bay.send, hto, if_neg hk]
  rfl

theorem enrolFrame_to (serial : Serial) (a : Addr) : (enrolFrame serial a).to = none := rfl

/-- In ROLLING the frame due goes out on the free line (R7, R8, R9). -/
theorem work_rolling_sends {s : State} {b : BayId} {f : LineFrame} (hst : (s.bay b).state = .rolling) (hover : (s.bay b).rollOver = false)
    (honly : (s.bay b).onlyBatchFrame) (hready : (s.bay b).lineReady) (hq : EngineQuiet s)
    (hroll : (s.bay b).roll = .rollCall none ∧ f = rollCallFrame ∨
      ∃ serial cap a n, (s.bay b).roll = .enrol serial cap a n none ∧ f = enrolFrame serial a) :
    s.work [b] = s.updBay b (Bay.begins s.time f) := by
  have hdue : s.nextFrame b = some f := by
    rw [nextFrame_of_onlyBatch (.inl hst) honly]
    simp only [State.batchFrame, hst, hover]
    rcases hroll with ⟨hr, rfl⟩ | ⟨serial, cap, a, n, hr, rfl⟩ <;> rw [hr] <;> rfl
  have hsend : Bay.send s.time f = Bay.begins s.time f := funext fun x => by
    rcases hroll with ⟨-, rfl⟩ | ⟨serial, cap, a, n, -, rfl⟩
    · exact send_to_none rfl (by simp [rollCallFrame]) _ x
    · exact send_to_none (enrolFrame_to serial a) (by simp [enrolFrame]) _ x
  have hadvance : s.advance b = s.updBay b (Bay.begins s.time f) := by
    simp only [State.advance, hst]
    rw [sendNext_of_ready hready hdue, hsend]
  rw [work_advance (by rw [hadvance]; exact hq.congr rfl), hadvance]

/-! ### BATCH_START -/

/-- Settles O34: the conditions in their order, and the batch with its first ROLL_CALL on the free line. -/
theorem batchStarted : Obligations.BatchStarted := by
  intro s tag args h refused
  refine ⟨fun ha => request_answers h (by simp [State.takeRequest, State.takeBatchStart, ha]), fun b rate expected ha =>
    ⟨fun hl => request_answers h (by simp [State.takeRequest, State.takeBatchStart, ha, hl]), fun hl =>
    ⟨fun hst => request_answers h (by simp [State.takeRequest, State.takeBatchStart, ha, hl, hst]), fun hst =>
    ⟨fun hw => request_answers h (by simp [State.takeRequest, State.takeBatchStart, ha, hl, hst, hw]), fun hw =>
    ⟨fun hfull => ?_, fun hroom hready hempty hq => ?_⟩⟩⟩⟩⟩
  · have hroom : s.room = false := by
      rw [Bool.eq_false_iff, ne_eq, room_iff]
      omega
    exact request_answers h (by simp [State.takeRequest, State.takeBatchStart, ha, hl, hst, hw, hroom])
  · intro n x t
    have hroom : s.room = true := (room_iff s).2 hroom
    obtain ⟨u, hu⟩ : ∃ u, u = (s.setCounters { record := s.report.recordCounter, batch := n }).setBay b (x.startBatch n rate expected) :=
      ⟨_, rfl⟩
    have hubay : u.bay b = x.startBatch n rate expected := by rw [hu, bay_setBay_same]
    obtain ⟨v, hv⟩ : ∃ v, v = (u.holding .batchStart tag args).answer .ok (wordBytes 4 n) := ⟨_, rfl⟩
    have hvbay : v.bay b = x.startBatch n rate expected := by rw [hv, answer_bay, holding_bay, hubay]
    have htake : (s.holding .batchStart tag args).takeRequest .batchStart args = v.work [b] := by
      rw [hv, hu]
      simp only [State.takeRequest, State.takeBatchStart, ha, holding_latched, hl, holding_bay, hst, holding_window,
        Option.isNone_iff_eq_none, hw, holding_room, hroom]
      rfl
    refine request_answers h ?_
    rw [htake, work_rolling_sends (f := rollCallFrame) (by rw [hvbay]; rfl) (by rw [hvbay]; rfl)
      (by rw [hvbay]; intro c hc; exact absurd (hempty ▸ hc : c ∈ []) (by simp)) (by rw [hvbay]; exact hready)
      (hv ▸ hu ▸ hq.congr (by simp)) (.inl ⟨by rw [hvbay]; rfl, rfl⟩)]
    rw [hv, updBay_answer, updBay_holding, hu, updBay_setBay]
    rfl

end Sys2Proof.Machine

/-! SUPPORT. The terminal in hand at its key set during internal work in which nothing is sent: what keeps its attempts and deferrals,
and when nothing can fail it (R16 to R19, R21, R23). -/

namespace Sys2Proof.Machine

/-! ### The moves of LOADING, again -/

theorem LoadMove.loading_before {b : BayId} {s t : State} (h : LoadMove b s t) : (s.bay b).state = .loading := by
  cases h <;> assumption

theorem QuietStep.frame {b : BayId} {s t : State} (h : QuietStep b s t) : BayFrame b s t := by
  cases h with
  | load h => exact h.frame
  | fail idle mem job context check => exact BayStep.frame (.fail idle mem job context check)

/-- What a change of the contexts at one address keeps of each context. -/
theorem updCtx_keeps {α : Type} (g : Context → α) {x : Bay} {a a' : Addr} {f : Context → Context} {c : Context}
    (haddr : ∀ c, (f c).addr = c.addr) (hf : ∀ c, g (f c) = g c) (hc : x.ctx a = some c) :
    ∃ d, (x.updCtx a' f).ctx a = some d ∧ g d = g c := by
  rw [ctx_updCtx x a' a haddr, hc]
  split
  · exact ⟨_, rfl, hf c⟩
  · exact ⟨c, rfl, rfl⟩

/-- A move of LOADING decides nothing. -/
theorem LoadMove.outcome {b : BayId} {s t : State} (h : LoadMove b s t) {a : Addr} {c : Context} (hc : (s.bay b).ctx a = some c) :
    ∃ d, (t.bay b).ctx a = some d ∧ d.outcome = c.outcome := by
  cases h with
  | request _ _ _ => exact ⟨c, hc, rfl⟩
  | raise _ _ => exact ⟨c, hc, rfl⟩
  | reserve _ _ _ => rw [bay_updBay_same]; exact ⟨c, hc, rfl⟩
  | take _ _ _ => rw [bay_updBay_same]; exact updCtx_keeps (·.outcome) (fun _ => rfl) (fun _ => rfl) hc
  | load _ _ _ _ => rw [bay_updBay_same]; exact updCtx_keeps (·.outcome) (fun _ => rfl) (fun _ => rfl) hc
  | position _ _ _ _ _ => rw [bay_updBay_same]; exact updCtx_keeps (·.outcome) (fun _ => rfl) (fun _ => rfl) hc
  | commit _ _ _ _ _ => rw [bay_updBay_same]; exact updCtx_keeps (·.outcome) (fun _ => rfl) (fun _ => rfl) hc

/-- A move of LOADING leaves the results held and the deferral's wait. -/
theorem LoadMove.results {b : BayId} {s t : State} (h : LoadMove b s t) :
    (t.bay b).resendAt = (s.bay b).resendAt ∧ ∀ a pos, (t.bay b).result a pos = (s.bay b).result a pos := by
  cases h with
  | request _ _ _ => exact ⟨rfl, fun _ _ => rfl⟩
  | raise _ _ => exact ⟨rfl, fun _ _ => rfl⟩
  | reserve _ _ _ => rw [bay_updBay_same]; exact ⟨rfl, fun _ _ => result_reserve _ _ _ _ _⟩
  | take _ _ _ => rw [bay_updBay_same]; exact ⟨rfl, fun _ _ => rfl⟩
  | load _ _ _ _ => rw [bay_updBay_same]; exact ⟨rfl, fun _ _ => rfl⟩
  | position _ _ _ _ _ => rw [bay_updBay_same]; exact ⟨rfl, fun _ _ => rfl⟩
  | commit _ _ _ _ _ => rw [bay_updBay_same]; exact ⟨rfl, fun _ _ => rfl⟩

theorem Placing.hand {s : State} {b : BayId} {job : CipherJob} (h : Placing s b job) : ∃ c, (s.bay b).handCtx = some c := by
  cases h <;> exact ⟨_, by assumption⟩

theorem handCtx_of_hand {x : Bay} (h : x.batch.hand = none) : x.handCtx = none := by
  simp [Bay.handCtx, h]

theorem mem_of_nextPosition {c : Context} {p : Profile} {d : Descriptor} {pos : Nat} (h : c.nextPosition p = some (d, pos)) :
    (d, pos) ∈ p.numbered := List.mem_of_find?_eq_some h

theorem keySet_of_numbered {p : Profile} {x : Descriptor × Nat} (h : x ∈ p.numbered) : x.1 ∈ p.keySet := List.fst_mem_of_mem_zipIdx h

/-! ### A bay that places nothing -/

/-- A terminal in hand that is served stays so. -/
theorem LoadMove.handServed {b : BayId} {s t : State} (h : LoadMove b s t) (hs : HandServed s b) :
    HandServed t b ∧ ((s.cipher.queue = [] ∧ s.cipher.waiting = []) → t.cipher.queue = [] ∧ t.cipher.waiting = []) := by
  obtain ⟨c, p, d, hand, hp, hahead, hphase⟩ := hs
  cases h with
  | take _ hnone _ => rw [handCtx_of_hand hnone] at hand; simp at hand
  | @load c' _ hand' phase _ =>
    obtain rfl := Option.some.inj (hand.symm.trans hand')
    rcases hphase with hphase | ⟨hphase, _⟩ <;> rw [phase] at hphase <;> simp at hphase
  | @position c' p' d' pos _ hand' phase profile next =>
    obtain rfl := Option.some.inj (hand.symm.trans hand')
    obtain rfl := Option.some.inj (hp.symm.trans profile)
    rcases hphase with hphase | ⟨_, hnext, hresult⟩
    · rw [phase] at hphase; simp at hphase
    obtain ⟨rfl, rfl⟩ := Prod.mk.inj (Option.some.inj (hnext.symm.trans next))
    refine ⟨⟨c, p, d, ?_, hp, hahead, .inr ⟨phase, hnext, ?_⟩⟩, id⟩
    · rw [bay_updBay_same]; exact handCtx_updCtx hand fun _ => rfl
    · rw [bay_updBay_same]; exact hresult
  | commit _ hand' phase profile next =>
    obtain rfl := Option.some.inj (hand.symm.trans hand')
    obtain rfl := Option.some.inj (hp.symm.trans profile)
    rcases hphase with hphase | ⟨_, hnext, _⟩
    · rw [phase] at hphase; simp at hphase
    · rw [next] at hnext; simp at hnext
  | reserve _ a pos =>
    refine ⟨⟨c, p, d, by rw [bay_updBay_same]; exact hand, hp, hahead, hphase.imp id fun ⟨h1, h2, h3⟩ => ⟨h1, h2, ?_⟩⟩, id⟩
    rw [bay_updBay_same, result_reserve]
    exact h3
  | request _ placing _ =>
    exfalso
    cases placing with
    | transport hand' phase _ _ =>
      obtain rfl := Option.some.inj (hand.symm.trans hand')
      rcases hphase with hphase | ⟨hphase, _⟩ <;> rw [phase] at hphase <;> simp at hphase
    | position hand' phase profile next result _ =>
      obtain rfl := Option.some.inj (hand.symm.trans hand')
      rcases hphase with hphase | ⟨_, _, hresult⟩
      · rw [phase] at hphase; simp at hphase
      · rw [result] at hresult; simp at hresult
    | aheadSame hand' profile ahead _ _ _ =>
      obtain rfl := Option.some.inj (hand.symm.trans hand')
      obtain rfl := Option.some.inj (hp.symm.trans profile)
      simp [hahead] at ahead
    | aheadTransport hand' profile ahead _ _ _ =>
      obtain rfl := Option.some.inj (hand.symm.trans hand')
      obtain rfl := Option.some.inj (hp.symm.trans profile)
      simp [hahead] at ahead
    | aheadPrepare hand' profile ahead _ _ _ _ =>
      obtain rfl := Option.some.inj (hand.symm.trans hand')
      obtain rfl := Option.some.inj (hp.symm.trans profile)
      simp [hahead] at ahead
  | raise _ test => exact ⟨⟨c, p, d, hand, hp, hahead, hphase⟩, fun ⟨hq, hw⟩ => ⟨by simp [Cipher.raise, hq], by simp [Cipher.raise, hw]⟩⟩

/-- A bay whose going on places no request goes on so. -/
theorem LoadMove.served {b : BayId} {s t : State} (h : LoadMove b s t) (hs : BayServed s b) :
    BayServed t b ∧ ((s.cipher.queue = [] ∧ s.cipher.waiting = []) → t.cipher.queue = [] ∧ t.cipher.waiting = []) := by
  rcases hs with hs | hs | ⟨hnone, hnext⟩
  · exact absurd h.loading_before hs
  · exact ⟨.inr (.inl (h.handServed hs).1), (h.handServed hs).2⟩
  · have hctx := handCtx_of_hand hnone
    cases h with
    | take _ _ next => simp [hnext] at next
    | load _ hand _ _ => simp [hctx] at hand
    | position _ hand _ _ _ => simp [hctx] at hand
    | commit _ hand _ _ _ => simp [hctx] at hand
    | reserve _ _ _ => exact ⟨.inr (.inr (by rw [bay_updBay_same]; exact ⟨hnone, hnext⟩)), id⟩
    | request _ placing _ =>
      obtain ⟨c, hc⟩ := placing.hand
      simp [hctx] at hc
    | raise _ _ => exact ⟨.inr (.inr ⟨hnone, hnext⟩), fun ⟨hq, hw⟩ => ⟨by simp [Cipher.raise, hq], by simp [Cipher.raise, hw]⟩⟩

/-- The engine is busy, or it has no request and a bay's going on places none. -/
def Spared (s : State) (b : BayId) : Prop :=
  s.cipher.running.isSome = true ∨ (s.cipher.queue = [] ∧ s.cipher.waiting = []) ∧ BayServed s b

/-- So nothing fails its start, and no outcome is decided. -/
theorem QuietStep.spared {b : BayId} {s t : State} (h : QuietStep b s t) (hs : Spared s b) : LoadMove b s t ∧ Spared t b := by
  cases h with
  | load h =>
    refine ⟨h, hs.imp (fun hr => by rw [h.running]; exact hr) fun ⟨hempty, hserved⟩ => ?_⟩
    exact ⟨(h.served hserved).2 hempty, (h.served hserved).1⟩
  | fail idle mem _ _ _ =>
    exfalso
    rcases hs with hr | ⟨⟨hq, -⟩, -⟩
    · simp [idle] at hr
    · simp [hq] at mem

/-! ### A context failed -/

/-- A bay one of whose contexts has been decided, its record appended or not. -/
structure FailedAt (a : Addr) (x y : Bay) : Prop where
  other : ∀ a', a' ≠ a → y.ctx a' = x.ctx a'
  hand : y.batch.hand = if x.batch.hand = some a then none else x.batch.hand
  resendAt : x.batch.hand ≠ some a → y.resendAt = x.resendAt
  result : ∀ a', a' ≠ a → ∀ pos, y.result a' pos = x.result a' pos
  counts : ∀ c, x.ctx a = some c → ∃ d, y.ctx a = some d ∧ d.attempts = c.attempts ∧ d.deferrals = c.deferrals
  phase : ∀ e ∈ y.contexts, e.addr = a → e.phase = .reportWait
  mem : ∀ e ∈ y.contexts, e.addr ≠ a → e ∈ x.contexts

theorem mem_updCtx {x : Bay} {a : Addr} {f : Context → Context} {e : Context}
    (he : e ∈ (x.updCtx a f).contexts) : (e.addr ≠ a ∧ e ∈ x.contexts) ∨ ∃ d ∈ x.contexts, d.addr = a ∧ e = f d := by
  obtain ⟨d, hd, hde⟩ := List.mem_map.1 (show e ∈ x.contexts.map (fun c => if c.addr = a then f c else c) from he)
  split at hde
  · next h => exact .inr ⟨d, hd, h, hde.symm⟩
  · next h => exact .inl ⟨hde ▸ h, hde ▸ hd⟩

theorem result_freeBuffers (x : Bay) {a a' : Addr} (h : a' ≠ a) (pos : Nat) :
    (x.freeBuffers (fun o => o.1 == a)).result a' pos = x.result a' pos := by
  simp only [Bay.result, Bay.freeBuffers, List.findSome?_map]
  congr 1
  funext f
  cases f with
  | free => rfl
  | reserved a'' pos' =>
    simp only [Function.comp, Buffer.owner]
    split
    · next heq => split at heq <;> simp_all
    · rfl
  | holds a'' pos' r =>
    simp only [Function.comp, Buffer.owner]
    by_cases ha : a'' = a
    · subst ha; simp [Ne.symm h]
    · simp [ha]

theorem FailedAt.of_decided (x : Bay) (a : Addr) (v : Verdict) : FailedAt a x (x.decided a v) where
  other a' h := by rw [decided_ctx, if_neg h]
  hand := rfl
  resendAt h := if_neg h
  result a' h pos := result_freeBuffers (x.updCtx a _) h pos
  counts c hc := ⟨_, decided_ctx_same v hc, rfl, rfl⟩
  phase e he ha := by
    rcases mem_updCtx (x := x) (f := fun c => { c with phase := .reportWait, outcome := some v }) he with ⟨h, _⟩ | ⟨d, _, _, rfl⟩
    · exact absurd ha h
    · rfl
  mem e he ha := by
    rcases mem_updCtx (x := x) (f := fun c => { c with phase := .reportWait, outcome := some v }) he with ⟨_, h⟩ | ⟨d, _, h, rfl⟩
    · exact h
    · exact absurd h ha

/-- The mark of an appended record changes nothing of that. -/
theorem FailedAt.marked {x y : Bay} {a : Addr} (h : FailedAt a x y) :
    FailedAt a x (y.updCtx a (fun c => { c with recordAppended := true })) where
  other a' ha := by rw [ctx_updCtx_other (f := fun c => { c with recordAppended := true }) ha fun _ => rfl]; exact h.other a' ha
  hand := h.hand
  resendAt := h.resendAt
  result := h.result
  counts c hc := by
    obtain ⟨d, hd, hcounts⟩ := h.counts c hc
    exact ⟨_, ctx_updCtx_same (f := fun c => { c with recordAppended := true }) hd fun _ => rfl, hcounts⟩
  phase e he ha := by
    rcases mem_updCtx he with ⟨hne, _⟩ | ⟨d, hd, hda, rfl⟩
    · exact absurd ha hne
    · exact h.phase d hd hda
  mem e he ha := by
    rcases mem_updCtx he with ⟨_, hmem⟩ | ⟨d, _, hda, rfl⟩
    · exact h.mem e hmem ha
    · exact absurd hda ha

/-- The bay after a failed start: as it was, or with that context decided. -/
theorem failedAt_of_fail {b : BayId} {s t : State} {q : CipherRequest} {r : Running} {v : Verdict} {a : Addr}
    (ht : t = (({ s with cipher := s.cipher.run q r } : State).decideOutcome b a v).freeEngine) :
    t.bay b = s.bay b ∨ FailedAt a (s.bay b) (t.bay b) := by
  rcases fail_bay ht with ⟨hb, _⟩ | ⟨_, _, _, hb | hb, _⟩ <;> rw [hb]
  · exact .inl rfl
  · exact .inr (.of_decided _ a v)
  · exact .inr (FailedAt.marked (.of_decided _ a v))

/-! ### The counts of the terminal in hand -/

/-- An undecided terminal in hand at its key set, with its attempts and deferrals; where they are not both 0 it is at an unconfirmed
position, or in COMMITTING. -/
def Working (s : State) (b : BayId) (a : Addr) (p : Profile) (m n : Nat) : Prop :=
  (s.bay b).batch.hand = some a ∧ ∃ c, (s.bay b).ctx a = some c ∧ s.profileOf c = some p ∧ c.outcome = none ∧ c.attempts = m ∧
    c.deferrals = n ∧
    (c.phase = .committing ∨ c.phase = .loading ∧ ((∃ d, c.nextPosition p = some (d, c.posIndex)) ∨ m = 0 ∧ n = 0))

/-- A terminal that waits for its record, with its attempts and deferrals. -/
def Concluded (s : State) (b : BayId) (a : Addr) (m n : Nat) : Prop :=
  (∃ c, (s.bay b).ctx a = some c ∧ c.attempts = m ∧ c.deferrals = n) ∧ ∀ e ∈ (s.bay b).contexts, e.addr = a → e.phase = .reportWait

theorem Working.handCtx {s : State} {b : BayId} {a : Addr} {p : Profile} {m n : Nat} (h : Working s b a p m n) {c : Context}
    (hc : (s.bay b).handCtx = some c) : (s.bay b).ctx a = some c ∧ c.addr = a := by
  obtain ⟨hand, hctx⟩ := handCtx_eq_some_iff.1 hc
  obtain rfl := Option.some.inj (hand.symm.trans h.1)
  exact ⟨hctx, rfl⟩

theorem LoadMove.working {b : BayId} {s t : State} (h : LoadMove b s t) {a : Addr} {p : Profile} {m n : Nat}
    (hs : Working s b a p m n) : Working t b a p m n := by
  have hhand := fun c => hs.handCtx (c := c)
  obtain ⟨hand, c, hc, hp, ho, hm, hn, hphase⟩ := hs
  cases h with
  | take _ hnone _ => simp [hnone] at hand
  | @load c' _ hand' phase _ =>
    obtain rfl := Option.some.inj (hc.symm.trans (hhand c' hand').1)
    rcases hphase with hphase | ⟨hphase, _⟩ <;> rw [phase] at hphase <;> simp at hphase
  | @position c' p' d pos _ hand' phase profile next =>
    obtain ⟨hc', haddr⟩ := hhand c' hand'
    obtain rfl := Option.some.inj (hc.symm.trans hc')
    obtain rfl := Option.some.inj (hp.symm.trans profile)
    rw [haddr]
    refine ⟨by rw [bay_updBay_same]; exact hand, { c with posIndex := pos }, ?_, hp, ho, hm, hn, .inr ⟨phase, .inl ⟨d, nextPosition_index next⟩⟩⟩
    rw [bay_updBay_same]
    exact ctx_updCtx_same (f := fun c => { c with posIndex := pos }) hc fun _ => rfl
  | @commit c' p' _ hand' phase profile next =>
    obtain ⟨hc', haddr⟩ := hhand c' hand'
    obtain rfl := Option.some.inj (hc.symm.trans hc')
    obtain rfl := Option.some.inj (hp.symm.trans profile)
    obtain ⟨hm0, hn0⟩ : m = 0 ∧ n = 0 := by
      rcases hphase with hphase | ⟨-, ⟨d, hd⟩ | h0⟩
      · rw [phase] at hphase; simp at hphase
      · simp [next] at hd
      · exact h0
    rw [haddr]
    refine ⟨by rw [bay_updBay_same]; exact hand, { c with phase := .committing, attempts := 0, deferrals := 0 }, ?_, hp, ho, hm0.symm,
      hn0.symm, .inl rfl⟩
    rw [bay_updBay_same]
    exact ctx_updCtx_same (f := fun c => { c with phase := .committing, attempts := 0, deferrals := 0 }) hc fun _ => rfl
  | reserve _ _ _ =>
    refine ⟨by rw [bay_updBay_same]; exact hand, c, ?_, hp, ho, hm, hn, hphase⟩
    rw [bay_updBay_same]; exact hc
  | request _ _ _ => exact ⟨hand, c, hc, hp, ho, hm, hn, hphase⟩
  | raise _ _ => exact ⟨hand, c, hc, hp, ho, hm, hn, hphase⟩

/-- A move works on a context that is ENROLLED, in TRANSPORT or in LOADING: the others stay as they are (R15 to R19). -/
theorem LoadMove.elsewhere {b : BayId} {s t : State} (h : LoadMove b s t) {a : Addr}
    (hs : ∀ e ∈ (s.bay b).contexts, e.addr = a → e.phase ≠ .enrolled ∧ e.phase ≠ .transport ∧ e.phase ≠ .loading) :
    (t.bay b).ctx a = (s.bay b).ctx a ∧ ∀ e ∈ (t.bay b).contexts, e.addr = a → e ∈ (s.bay b).contexts := by
  have hupd : ∀ {x : Bay} {c' : Context} {f : Context → Context}, x.contexts = (s.bay b).contexts → c' ∈ (s.bay b).contexts →
      (c'.phase = .enrolled ∨ c'.phase = .transport ∨ c'.phase = .loading) → (∀ c, (f c).addr = c.addr) →
      (x.updCtx c'.addr f).ctx a = (s.bay b).ctx a ∧
        ∀ e ∈ (x.updCtx c'.addr f).contexts, e.addr = a → e ∈ (s.bay b).contexts := fun {x c' f} hx hmem hphase hf => by
    have hne : a ≠ c'.addr := fun heq => by
      obtain ⟨h1, h2, h3⟩ := hs c' hmem heq.symm
      rcases hphase with h | h | h
      · exact h1 h
      · exact h2 h
      · exact h3 h
    refine ⟨?_, fun e he ha => ?_⟩
    · rw [ctx_updCtx_other hne hf, Bay.ctx, hx, Bay.ctx]
    · rcases mem_updCtx he with ⟨_, h⟩ | ⟨d, _, hd, rfl⟩
      · exact hx ▸ h
      · exact absurd ((hf d).symm.trans ha |>.symm.trans hd) hne
  cases h with
  | request _ _ _ => exact ⟨rfl, fun e he _ => he⟩
  | raise _ _ => exact ⟨rfl, fun e he _ => he⟩
  | reserve _ _ _ => rw [bay_updBay_same]; exact ⟨rfl, fun e he _ => he⟩
  | @take c' _ _ next =>
    have henrolled : c'.phase = .enrolled := by
      have h := List.find?_some next
      simp only [Bool.and_eq_true, beq_iff_eq] at h
      exact h.1
    rw [bay_updBay_same]
    exact hupd (x := s.bay b) rfl (List.mem_of_find?_eq_some next) (.inl henrolled) fun _ => rfl
  | load _ hand phase _ => rw [bay_updBay_same]; exact hupd rfl (Bay.handCtx_mem hand) (.inr (.inl phase)) fun _ => rfl
  | position _ hand phase _ _ => rw [bay_updBay_same]; exact hupd rfl (Bay.handCtx_mem hand) (.inr (.inr phase)) fun _ => rfl
  | commit _ hand phase _ _ => rw [bay_updBay_same]; exact hupd rfl (Bay.handCtx_mem hand) (.inr (.inr phase)) fun _ => rfl

theorem LoadMove.concluded {b : BayId} {s t : State} (h : LoadMove b s t) {a : Addr} {m n : Nat} (hs : Concluded s b a m n) :
    Concluded t b a m n := by
  obtain ⟨⟨c, hc, hcounts⟩, hall⟩ := hs
  obtain ⟨hctx, hmem⟩ := h.elsewhere (a := a) fun e he ha => by simp [hall e he ha]
  exact ⟨⟨c, hctx.trans hc, hcounts⟩, fun e he ha => hall e (hmem e he ha) ha⟩

/-- The counts stand while nothing is sent. -/
theorem QuietStep.counts {b : BayId} {s t : State} (h : QuietStep b s t) {a : Addr} {p : Profile} {m n : Nat}
    (hs : Working s b a p m n ∨ Concluded s b a m n) : Working t b a p m n ∨ Concluded t b a m n := by
  have hframe := h.frame
  cases h with
  | load h => exact hs.imp h.working h.concluded
  | @fail q r reason a' idle mem job context check =>
    obtain ⟨u, hu⟩ : ∃ u, u = (({ s with cipher := s.cipher.run q r } : State).decideOutcome b a' (.failed reason)).freeEngine := ⟨_, rfl⟩
    rw [← hu] at hframe ⊢
    have hprofile : ∀ c, u.profileOf c = s.profileOf c := fun c => by
      unfold State.profileOf State.entry; rw [hframe.profiles]
    rcases failedAt_of_fail hu with hsame | hfail
    · simp only [Working, Concluded, hsame, hprofile]; exact hs
    by_cases ha : a = a'
    · subst ha
      obtain ⟨c, hc, hcounts⟩ : ∃ c, (s.bay b).ctx a = some c ∧ c.attempts = m ∧ c.deferrals = n := by
        rcases hs with ⟨_, c, hc, _, _, hm, hn, _⟩ | ⟨h, _⟩
        · exact ⟨c, hc, hm, hn⟩
        · exact h
      obtain ⟨d, hd, hm, hn⟩ := hfail.counts c hc
      exact .inr ⟨⟨d, hd, hm.trans hcounts.1, hn.trans hcounts.2⟩, hfail.phase⟩
    · refine hs.imp (fun ⟨hand, c, hc, hp, hrest⟩ => ⟨?_, c, ?_, ?_, hrest⟩) fun ⟨⟨c, hc, hcounts⟩, hall⟩ => ⟨⟨c, ?_, hcounts⟩, ?_⟩
      · rw [hfail.hand, hand, if_neg (by simpa using ha)]
      · rw [hfail.other a ha]; exact hc
      · rw [hprofile]; exact hp
      · rw [hfail.other a ha]; exact hc
      · exact fun e he hea => hall e (hfail.mem e he (hea.trans_ne ha)) hea

/-! ### A terminal whose PREPAREs start -/

/-- Every request queued or waiting for a terminal would pass its start checks (R104). -/
def Startable (s : State) (b : BayId) (a : Addr) (p : Profile) : Prop :=
  s.window ≠ none ∧ s.latched = false ∧ (s.cipher.holder b a).isSome = true ∧
    (∀ d ∈ p.keySet, ∀ slot, d.action = .derive slot → ((s.slot slot).available .base).isSome = true) ∧
    ∀ j ∈ s.cipher.jobs, j.context = some (b, a) →
      ∃ pos serial d slot, d ∈ p.keySet ∧ d.action = .derive slot ∧ j = .prepare b a pos serial d.tag slot p.parity

theorem Startable.check {s : State} {b : BayId} {a : Addr} {p : Profile} (h : Startable s b a p) {j : CipherJob}
    (hj : j ∈ s.cipher.jobs) (hc : j.context = some (b, a)) (reason : FailReason) : s.startCheck j ≠ .error reason := by
  obtain ⟨hw, hl, hh, hslots, hjobs⟩ := h
  obtain ⟨pos, serial, d, slot, hd, haction, rfl⟩ := hjobs j hj hc
  obtain ⟨w, hw⟩ := Option.ne_none_iff_exists'.1 hw
  obtain ⟨k, hk⟩ := Option.isSome_iff_exists.1 hh
  obtain ⟨x, hx⟩ := Option.isSome_iff_exists.1 (hslots d hd slot haction)
  simp [State.startCheck, hw, hl, hk, hx]

/-- The requests that internal work places for the terminal in hand are PREPAREs of its DERIVE positions. -/
theorem Placing.startable {s : State} {b : BayId} {a : Addr} {p : Profile} {m n : Nat} {job : CipherJob} (h : Placing s b job)
    (hw : Working s b a p m n) (hjob : job.context = some (b, a)) :
    ∃ pos serial d slot, d ∈ p.keySet ∧ d.action = .derive slot ∧ job = .prepare b a pos serial d.tag slot p.parity := by
  have hhand := fun c => hw.handCtx (c := c)
  obtain ⟨-, c, hc, hp, -, -, -, hphase⟩ := hw
  have hahead : ∀ {h' c' : Context}, (s.bay b).handCtx = some h' → (s.bay b).nextAhead h'.addr = some c' → c'.addr ≠ a :=
    fun {h' c'} hand next => by
      obtain ⟨_, rfl⟩ := hhand h' hand
      have h := List.find?_some next
      simp only [Bool.and_eq_true, decide_eq_true_eq] at h
      exact (Fin.ne_of_lt h.1.1).symm
  cases h with
  | @transport c' p' hand phase _ _ =>
    obtain rfl := Option.some.inj (hc.symm.trans (hhand c' hand).1)
    rcases hphase with hphase | ⟨hphase, _⟩ <;> rw [phase] at hphase <;> simp at hphase
  | @position c' p' d slot hand _ profile next _ action =>
    obtain ⟨hc', rfl⟩ := hhand c' hand
    obtain rfl := Option.some.inj (hc.symm.trans hc')
    obtain rfl := Option.some.inj (hp.symm.trans profile)
    exact ⟨_, _, d, slot, keySet_of_numbered (mem_of_nextPosition next), action, rfl⟩
  | @aheadSame c' p' d pos slot hand profile _ mem _ action =>
    obtain ⟨hc', rfl⟩ := hhand c' hand
    obtain rfl := Option.some.inj (hc.symm.trans hc')
    obtain rfl := Option.some.inj (hp.symm.trans profile)
    exact ⟨_, _, d, slot, keySet_of_numbered mem, action, rfl⟩
  | aheadTransport hand _ _ next _ _ =>
    simp only [CipherJob.context, Option.some.injEq, Prod.mk.injEq, true_and] at hjob
    exact absurd hjob (hahead hand next)
  | aheadPrepare hand _ _ next _ _ _ =>
    simp only [CipherJob.context, Option.some.injEq, Prod.mk.injEq, true_and] at hjob
    exact absurd hjob (hahead hand next)

theorem LoadMove.startable {b : BayId} {s t : State} (h : LoadMove b s t) {a : Addr} {p : Profile} {m n : Nat}
    (hw : Working s b a p m n) (hs : Startable s b a p) : Startable t b a p := by
  cases h with
  | request _ placing urgent =>
    obtain ⟨hwin, hl, hh, hslots, hjobs⟩ := hs
    refine ⟨hwin, hl, ?_, hslots, fun j hj hctx => ?_⟩
    · show ((s.cipher.place _ urgent).holder b a).isSome = true
      rw [Cipher.holder, place_holders]; exact hh
    · rcases place_jobs _ urgent _ j hj with rfl | hj
      · exact placing.startable hw hctx
      · exact hjobs j hj hctx
  | raise _ test =>
    obtain ⟨hwin, hl, hh, hslots, hjobs⟩ := hs
    exact ⟨hwin, hl, hh, hslots, fun j hj => hjobs j (by rw [raise_jobs] at hj; exact hj)⟩
  | _ => exact hs

/-- The terminal in hand undisturbed: nothing can fail it while nothing is sent. -/
def Undisturbed (s : State) (b : BayId) (a : Addr) (p : Profile) (m n : Nat) : Prop :=
  Working s b a p m n ∧ (Spared s b ∨ Startable s b a p)

theorem QuietStep.undisturbed {b : BayId} {s t : State} (h : QuietStep b s t) {a : Addr} {p : Profile} {m n : Nat}
    (hs : Undisturbed s b a p m n) : Undisturbed t b a p m n ∧ (t.bay b).resendAt = (s.bay b).resendAt ∧
      ∀ pos, (t.bay b).result a pos = (s.bay b).result a pos := by
  obtain ⟨hw, hspared | hstart⟩ := hs
  · obtain ⟨hload, hspared⟩ := h.spared hspared
    exact ⟨⟨hload.working hw, .inl hspared⟩, hload.results.1, hload.results.2 a⟩
  have hframe := h.frame
  have hcounts := h.counts (.inl hw)
  cases h with
  | load h => exact ⟨⟨h.working hw, .inr (h.startable hw hstart)⟩, h.results.1, h.results.2 a⟩
  | @fail q r reason a' idle mem job context check =>
    have ha : a ≠ a' := fun heq => hstart.check (job_mem_of_queue mem) (heq ▸ context) reason check
    obtain ⟨u, hu⟩ : ∃ u, u = (({ s with cipher := s.cipher.run q r } : State).decideOutcome b a' (.failed reason)).freeEngine := ⟨_, rfl⟩
    rw [← hu] at hframe hcounts ⊢
    obtain ⟨hwin, hl, hh, hslots, hjobs⟩ := hstart
    have hnew : Startable u b a p := by
      have hslot : ∀ k, u.slot k = s.slot k := fun k => by rw [State.slot, hframe.keys, State.slot]
      refine ⟨by rw [hframe.window]; exact hwin, by rw [State.latched, hframe.enclosure]; exact hl, ?_,
        fun d hd slot hslot' => by rw [hslot]; exact hslots d hd slot hslot', fun j hj => ?_⟩
      · rcases fail_bay hu with ⟨_, hcipher, _⟩ | ⟨_, _, _, _, hcipher⟩ <;> rw [hcipher, Cipher.holder, examine_holders]
        · exact hh
        · show (((s.cipher.run q r).dropContext b a').holder b a).isSome = true
          rw [holder_dropContext, if_neg (Ne.symm ha)]; exact hh
      · rcases fail_bay hu with ⟨_, hcipher, _⟩ | ⟨_, _, _, _, hcipher⟩ <;> rw [hcipher] at hj
        · have hj := examine_jobs _ j hj
          exact hjobs j (run_jobs (q := q) (r := r) j hj)
        · have hj := examine_jobs _ j hj
          exact hjobs j (run_jobs (q := q) (r := r) j (dropContext_jobs b a' _ j hj).1)
    have hkept : Working u b a p m n ∧ (u.bay b).resendAt = (s.bay b).resendAt ∧
        ∀ pos, (u.bay b).result a pos = (s.bay b).result a pos := by
      have hworking : Working u b a p m n := hcounts.resolve_right fun ⟨_, hall⟩ => by
        obtain ⟨-, c, hc, -, -, -, -, hphase⟩ := hw
        have hcu : (u.bay b).ctx a = some c := by
          rcases failedAt_of_fail hu with hsame | hfail
          · rw [hsame]; exact hc
          · rw [hfail.other a ha]; exact hc
        have := hall c (Bay.ctx_mem hcu) (Bay.ctx_addr hcu)
        rcases hphase with hphase | ⟨hphase, _⟩ <;> simp [hphase] at this
      refine ⟨hworking, ?_⟩
      rcases failedAt_of_fail hu with hsame | hfail
      · rw [hsame]; exact ⟨rfl, fun _ => rfl⟩
      · exact ⟨hfail.resendAt (by rw [hw.1]; simpa using ha), hfail.result a ha⟩
    exact ⟨⟨hkept.1, .inr hnew⟩, hkept.2⟩

end Sys2Proof.Machine

/-! The frames that fall due (R7 to R9, R17, R18, R55): in LOADING the KEY of the position worked. -/

namespace Sys2Proof.Machine

/-! ### The KEY of the position worked -/

/-- The KEY of the position worked is the frame due: its result is held, and nothing comes before it (R7, R17). -/
structure KeyDue (s : State) (b : BayId) (c : Context) (p : Profile) (d : Descriptor) (r : Prepared) (line : LineEnd) : Prop where
  loading : (s.bay b).state = .loading
  hand : (s.bay b).batch.hand = some c.addr
  ctx : (s.bay b).ctx c.addr = some c
  phase : c.phase = .loading
  profile : s.profileOf c = some p
  next : c.nextPosition p = some (d, c.posIndex)
  result : (s.bay b).result c.addr c.posIndex = some r
  resendAt : (s.bay b).resendAt = none
  rateOwed : (s.bay b).rateOwed = false
  onlyBatch : (s.bay b).onlyBatchFrame
  line : (s.bay b).line = line

section KeyDue
variable {s t : State} {b : BayId} {c : Context} {p : Profile} {d : Descriptor} {r : Prepared} {line : LineEnd}

theorem KeyDue.handCtx (h : KeyDue s b c p d r line) : (s.bay b).handCtx = some c := handCtx_eq_some_iff.2 ⟨h.hand, h.ctx⟩

/-- Working the terminal in hand leaves its KEY due (R17, R23). -/
theorem LoadMove.keyDue (h : LoadMove b s t) (hs : KeyDue s b c p d r line) : KeyDue t b c p d r line := by
  have hhand := hs.handCtx
  cases h with
  | take _ hnone _ => have := hs.hand; simp [hnone] at this
  | load _ hand phase _ =>
    obtain rfl := Option.some.inj (hhand.symm.trans hand)
    have := hs.phase; simp [phase] at this
  | @position c' p' d' pos _ hand _ profile next =>
    obtain rfl := Option.some.inj (hhand.symm.trans hand)
    obtain rfl := Option.some.inj (hs.profile.symm.trans profile)
    obtain ⟨rfl, rfl⟩ := Prod.mk.inj (Option.some.inj (hs.next.symm.trans next))
    constructor
    case ctx => rw [bay_updBay_same]; exact ctx_updCtx_same (f := fun e => { e with posIndex := c.posIndex }) hs.ctx fun _ => rfl
    case onlyBatch =>
      rw [bay_updBay_same]
      intro e he
      rcases mem_updCtx he with ⟨_, hmem⟩ | ⟨e', hmem, _, rfl⟩
      · exact hs.onlyBatch e hmem
      · exact hs.onlyBatch e' hmem
    case loading => rw [bay_updBay_same]; exact hs.loading
    case hand => rw [bay_updBay_same]; exact hs.hand
    case result => rw [bay_updBay_same]; exact hs.result
    case resendAt => rw [bay_updBay_same]; exact hs.resendAt
    case rateOwed => rw [bay_updBay_same]; exact hs.rateOwed
    case line => rw [bay_updBay_same]; exact hs.line
    case phase => exact hs.phase
    case profile => exact hs.profile
    case next => exact hs.next
  | commit _ hand _ profile next =>
    obtain rfl := Option.some.inj (hhand.symm.trans hand)
    obtain rfl := Option.some.inj (hs.profile.symm.trans profile)
    have := hs.next; simp [next] at this
  | reserve _ a pos =>
    have hbay : ∀ {P : Bay → Prop}, P { s.bay b with buffers := reserveBuffer a pos (s.bay b).buffers } →
        P ((s.updBay b (fun x => { x with buffers := reserveBuffer a pos x.buffers })).bay b) := fun {P} h => by
      rw [bay_updBay_same]; exact h
    exact { loading := hbay (P := fun x => x.state = _) hs.loading
            hand := hbay (P := fun x => x.batch.hand = _) hs.hand
            ctx := hbay (P := fun x => x.ctx _ = _) hs.ctx
            phase := hs.phase
            profile := hs.profile
            next := hs.next
            result := hbay (P := fun x => x.result _ _ = _) (by rw [result_reserve]; exact hs.result)
            resendAt := hbay (P := fun x => x.resendAt = _) hs.resendAt
            rateOwed := hbay (P := fun x => x.rateOwed = _) hs.rateOwed
            onlyBatch := hbay (P := Bay.onlyBatchFrame) hs.onlyBatch
            line := hbay (P := fun x => x.line = _) hs.line }
  | request _ _ _ => exact ⟨hs.loading, hs.hand, hs.ctx, hs.phase, hs.profile, hs.next, hs.result, hs.resendAt, hs.rateOwed, hs.onlyBatch, hs.line⟩
  | raise _ _ => exact ⟨hs.loading, hs.hand, hs.ctx, hs.phase, hs.profile, hs.next, hs.result, hs.resendAt, hs.rateOwed, hs.onlyBatch, hs.line⟩

theorem KeyDue.nextFrame (h : KeyDue s b c p d r line) : s.nextFrame b = some (keyFrame c.addr r) := by
  rw [nextFrame_of_onlyBatch (.inr h.loading) h.onlyBatch]
  simp only [State.batchFrame, h.loading, h.rateOwed, h.handCtx, h.resendAt, h.phase, h.result]
  rfl

theorem to_of_addr {f : LineFrame} {a : Addr} (h : f.addr = a.val + 1) : f.to = some a := by
  have ha := a.isLt
  have hrange : 1 ≤ f.addr ∧ f.addr ≤ 4 := by omega
  unfold LineFrame.to
  rw [dif_pos hrange]
  exact congrArg some (Fin.ext (by simp [h]))

theorem keyFrame_to (a : Addr) (r : Prepared) : (keyFrame a r).to = some a := to_of_addr rfl

/-- The bay that has begun a KEY frame (R17, R33). -/
theorem send_key (now : Nat) (a : Addr) (x : Bay) : x.send now (keyFrame a r) =
    (x.begins now (keyFrame a r)).updCtx a (Context.addressed now .key) := by
  simp only [Bay.send, keyFrame_to]
  rfl

end KeyDue

/-- Internal work of a bay: it goes on, then the engine takes what it can (R103). -/
theorem work_eq_settle (s : State) (b : BayId) : s.work [b] = (s.advance b).settle 159 [] := by
  unfold State.work Config.settleBound
  rw [State.settle]

theorem Spared.quiet {s : State} {b : BayId} (h : Spared s b) : EngineQuiet s := h.imp id (·.1)

theorem LoadPath.frame {b : BayId} {s t : State} (h : LoadPath b s t) : BayFrame b s t :=
  h.keeps (P := fun t => BayFrame b s t) (fun _ _ hm ht => ht.trans hm.frame) (.refl b s)

theorem LoadPath.ownedBy {b : BayId} {s t : State} (h : LoadPath b s t) (hs : s.cipher.ownedBy b) : t.cipher.ownedBy b :=
  h.keeps (P := fun t => t.cipher.ownedBy b) (fun _ _ hm ht => hm.ownedBy ht) hs

theorem LoadPath.running {b : BayId} {s t : State} (h : LoadPath b s t) : t.cipher.running = s.cipher.running :=
  h.keeps (P := fun t => t.cipher.running = s.cipher.running) (fun _ _ hm ht => hm.running.trans ht) rfl

theorem LoadPath.spared {b : BayId} {s t : State} (h : LoadPath b s t) (hs : Spared s b) : Spared t b :=
  h.keeps (P := fun t => Spared t b) (fun _ _ hm ht => (QuietStep.load hm).spared ht |>.2) hs

theorem LoadPath.keyDue {b : BayId} {s t : State} {c : Context} {p : Profile} {d : Descriptor} {r : Prepared} {line : LineEnd}
    (h : LoadPath b s t) (hs : KeyDue s b c p d r line) : KeyDue t b c p d r line :=
  h.keeps (P := fun t => KeyDue t b c p d r line) (fun _ _ hm ht => hm.keyDue ht) hs

/-- A KEY due on a free line goes out at once, whatever prepare-ahead then asks of the cipher unit (R7, R17, R23). -/
theorem work_keyDue {s s1 : State} {b : BayId} {c : Context} {p : Profile} {d : Descriptor} {r : Prepared} {line : LineEnd}
    (hdue : KeyDue s1 b c p d r line) (ho : c.outcome = none)
    (hready : line.tx = .idle ∧ line.free = true ∧ line.loopback = false) (hframe : BayFrame b s s1) (hown : s1.cipher.ownedBy b) :
    ∃ u c', Ended u (s1.work [b]) ∧ BayFrame b s u ∧
      (u.bay b).line.tx = .frame (keyFrame c.addr r) line.rate s.time false ∧ (u.bay b).ctx c.addr = some c' ∧
      Later (c.addressed s.time .key) c' ∧ c'.attempts = c.attempts ∧ c'.deferrals = c.deferrals ∧
      (Spared s1 b → Spared u b ∧ u.cipher.running = s1.cipher.running) ∧
      (s1.cipher.running.isSome = true → u.cipher.running.isSome = true) := by
  have hpath := workHand_moves hdue.loading
  obtain ⟨w, hw⟩ : ∃ w, w = s1.workHand b := ⟨_, rfl⟩
  rw [← hw] at hpath
  have hwdue := hpath.keyDue hdue
  have hwtime : w.time = s.time := (hframe.trans hpath.frame).time
  obtain ⟨v, hv⟩ : ∃ v, v = w.updBay b (Bay.send w.time (keyFrame c.addr r)) := ⟨_, rfl⟩
  have hadvance : s1.advance b = v := by
    have hopen := allDone_false hdue.ctx (by simp [hdue.phase])
    have hstep : s1.advance b = w.sendNext b := by
      simp only [State.advance, hdue.loading, hopen, hw]
      rfl
    rw [hstep, sendNext_of_ready (f := keyFrame c.addr r) (by rw [Bay.lineReady, hwdue.line]; exact hready) hwdue.nextFrame, hv]
  have hvbay : v.bay b = ((w.bay b).begins s.time (keyFrame c.addr r)).updCtx c.addr (Context.addressed s.time .key) := by
    rw [hv, bay_updBay_same, send_key, hwtime]
  have hvctx : (v.bay b).ctx c.addr = some (c.addressed s.time .key) := by
    rw [hvbay]
    exact ctx_updCtx_same (x := (w.bay b).begins s.time (keyFrame c.addr r)) hwdue.ctx fun _ => rfl
  have hvline : (v.bay b).line.tx = .frame (keyFrame c.addr r) line.rate s.time false := by
    rw [hvbay, ← hwdue.line]; rfl
  have hvprofile : v.profileOf (c.addressed s.time .key) = some p := by rw [hv]; exact hwdue.profile
  have hvhand : (v.bay b).batch.hand = some c.addr := by rw [hvbay]; exact hwdue.hand
  have hworking : Working v b c.addr p c.attempts c.deferrals :=
    ⟨hvhand, _, hvctx, hvprofile, ho, rfl, rfl, .inr ⟨hdue.phase, .inl ⟨d, hdue.next⟩⟩⟩
  have hvspared : Spared s1 b → Spared v b := fun h => (hpath.spared h).imp (fun h => by rw [hv]; exact h) fun ⟨hempty, hserved⟩ => by
    refine ⟨by rw [hv]; exact hempty, .inr (.inl ⟨c.addressed s.time .key, p, d, handCtx_eq_some_iff.2 ⟨hvhand, hvctx⟩, hvprofile, ?_,
      .inr ⟨hdue.phase, hdue.next, ?_⟩⟩)⟩
    · rcases hserved with hst | ⟨c', p', _, hand, hp', hahead, _⟩ | ⟨hnone, _⟩
      · exact absurd hwdue.loading hst
      · obtain rfl := Option.some.inj (hand.symm.trans hwdue.handCtx)
        obtain rfl := Option.some.inj (hp'.symm.trans hwdue.profile)
        exact hahead
      · rw [hwdue.hand] at hnone; simp at hnone
    · rw [hvbay]
      exact Option.isSome_iff_exists.2 ⟨r, hwdue.result⟩
  have hvframe : BayFrame b s v := (hframe.trans hpath.frame).trans (hv ▸ setBay_frame b _ w)
  have hvrunning : v.cipher.running = s1.cipher.running := by rw [hv]; exact hpath.running
  obtain ⟨u, ⟨hline, ⟨c', hc', hlater⟩, hcounts, hspared, hrunning⟩, huframe, hend⟩ := settle_bay (b := b)
    (P := fun u => (u.bay b).line.tx = .frame (keyFrame c.addr r) line.rate s.time false ∧
      (∃ c', (u.bay b).ctx c.addr = some c' ∧ Later (c.addressed s.time .key) c') ∧
      (Working u b c.addr p c.attempts c.deferrals ∨ Concluded u b c.addr c.attempts c.deferrals) ∧
      (Spared s1 b → Spared u b ∧ u.cipher.running = s1.cipher.running) ∧
      (s1.cipher.running.isSome = true → u.cipher.running.isSome = true))
    (fun u u' h ⟨hline, ⟨c', hc', hlater⟩, hcounts, hspared, hrunning⟩ => by
      have hquiet := h.quiet (fun hr => by rw [hr.1] at hline; simp at hline)
        (allDone_false hc' (hlater.phase (by simp [Context.addressed, hdue.phase])))
      obtain ⟨c'', hc'', hlater'⟩ := hquiet.ctx hc'
      refine ⟨by rw [hquiet.bay.line]; exact hline, ⟨c'', hc'', hlater.trans hlater'⟩, hquiet.counts hcounts, fun hfree => ?_, fun hbusy => ?_⟩
      · obtain ⟨hs, hr⟩ := hspared hfree
        obtain ⟨hload, hs'⟩ := hquiet.spared hs
        exact ⟨hs', hload.running.trans hr⟩
      · cases hquiet with
        | load hl => rw [hl.running]; exact hrunning hbusy
        | fail idle => have := hrunning hbusy; simp [idle] at this)
    159 [] (by simp) (by rw [hv]; exact hpath.ownedBy hown)
    ⟨hvline, ⟨_, hvctx, .refl _⟩, .inl hworking, fun h => ⟨hvspared h, hvrunning⟩, fun h => by rw [hvrunning]; exact h⟩
  have hended : Ended u (s1.work [b]) := by rw [work_eq_settle, hadvance]; exact hend
  refine ⟨u, c', hended, hvframe.trans huframe, hline, hc', hlater, ?_, ?_, hspared, hrunning⟩
  all_goals
    rcases hcounts with ⟨_, e, he, _, _, hm, hn, _⟩ | ⟨⟨e, he, hm, hn⟩, _⟩ <;>
      obtain rfl := Option.some.inj (hc'.symm.trans he)
  · exact hm
  · exact hm
  · exact hn
  · exact hn

/-! ### The obligation -/

/-- Settles O48: the roll-phase frames, a line that is freed outside a batch, and the KEY sent again. -/
theorem framesFallDue : Obligations.FramesFallDue := by
  intro s b hp hq x sends
  have hsends : ∀ {i : Instr} {roll : RollNext} {f : LineFrame} {y : Bay} {g : State → State},
      exec i s = event g s → g s = (s.setBay b y).work [b] → y.state = .rolling → y.rollOver = false → y.onlyBatchFrame → y.lineReady →
      (y.roll = .rollCall none ∧ f = rollCallFrame ∨ ∃ serial cap a n, y.roll = .enrol serial cap a n none ∧ f = enrolFrame serial a) →
      y.begins s.time f = { x with roll := roll, line := x.line.begins s.time (.frame f x.line.rate s.time false) } →
      sends i roll f := fun {i roll f y g} hi hg hst hover honly hready hroll hy => by
    refine hi.trans ((event_powered _ hp).trans (congrArg (fun t : State => Host.Outcome.next t.beginFrame) ?_))
    have hwork := work_rolling_sends (s := s.setBay b y) (b := b) (f := f) (by rw [bay_setBay_same]; exact hst)
      (by rw [bay_setBay_same]; exact hover) (by rw [bay_setBay_same]; exact honly) (by rw [bay_setBay_same]; exact hready)
      (hq.congr rfl) (by rw [bay_setBay_same]; exact hroll)
    rw [hg, hwork, updBay_setBay, ← hy]
    rfl
  refine ⟨fun hst hover honly => ⟨fun wait hroll hready => ?_, fun hroll htx hfree hloop => ?_, fun serial cap a n wait hroll hready => ?_⟩,
    fun hrun htx hfree => ?_, fun c p d r hworked hresult honly hready hrate => ?_⟩
  · have hroll' : (s.bay b).roll = .rollCall wait := hroll
    refine hsends (y := { x with roll := .rollCall none }) (g := State.rollFallsDue b) rfl ?_ hst hover honly hready (.inl ⟨rfl, rfl⟩) rfl
    rw [State.rollFallsDue, if_pos ⟨hst, by rw [hroll']; rfl⟩, State.updBay, hroll']
    rfl
  · refine hsends (y := { x with line := { x.line with free := true } }) (g := State.bayLineFree b) rfl ?_ hst hover honly
      ⟨htx, rfl, hloop⟩ (.inl ⟨hroll, rfl⟩) ?_
    · exact if_pos ⟨htx, hfree⟩
    · rw [← hroll]; rfl
  · have hroll' : (s.bay b).roll = .enrol serial cap a n wait := hroll
    have hst' : (s.bay b).state = .rolling := hst
    refine hsends (y := { x with roll := .enrol serial cap a n none }) (g := State.resendFallsDue b) rfl ?_ hst hover honly hready
      (.inr ⟨serial, cap, a, n, rfl, rfl⟩) rfl
    have hfalls : s.resendFallsDue b = (s.updBay b (fun x => { x with roll := x.roll.due })).work [b] := by
      unfold State.resendFallsDue
      rw [hst']
      exact if_neg (by rw [hroll']; simp [RollNext.isRollCall])
    rw [hfalls, State.updBay, hroll']
    rfl
  · refine (event_powered _ hp).trans (congrArg (fun t : State => Host.Outcome.next t.beginFrame) ?_)
    have hfreed : s.bayLineFree b = (s.setBay b { x with line := { x.line with free := true } }).work [b] := if_pos ⟨htx, hfree⟩
    have hstays : x.state.sends = false := by
      have hrun : x.isRunning = false := hrun
      unfold Bay.isRunning at hrun
      cases hx : x.state <;> simp_all [BayState.sends]
    exact hfreed.trans (work_still (by rw [bay_setBay_same]; exact hstays) (hq.congr rfl))
  · obtain ⟨-, hst, hhand, hc, hphase, ho, hp', hnext⟩ := hworked
    obtain ⟨y, hy⟩ : ∃ y : Bay, y = { x with resendAt := none } := ⟨_, rfl⟩
    have hdue : KeyDue (s.setBay b y) b c p d r x.line := by
      constructor
      case phase => exact hphase
      case profile => exact hp'
      case next => exact hnext
      all_goals rw [bay_setBay_same, hy]
      · exact hst
      · exact hhand
      · exact hc
      · exact hresult
      · exact hrate
      · exact honly
    obtain ⟨u, c', hended, hframe, htx, hc', hlater, hm, hn, hspared, hrun⟩ := work_keyDue (s := s) hdue ho hready (setBay_frame b y s)
      (Cipher.quiet.ownedBy hq b)
    have hexec : exec (.resendDelayExpired b) s = .next ((s.setBay b y).work [b]).beginFrame := by
      refine (event_powered _ hp).trans (congrArg (fun t : State => Host.Outcome.next t.beginFrame) ?_)
      simp only [State.resendFallsDue, hst, hy]
      rfl
    refine ⟨_, c', hexec, hended.event hframe, fun h => ?_, ?_, ?_, hlater.attemptsTotal, hlater.lastAddressed, hm, hn⟩
    · have hquiet : EngineQuiet u := by
        by_cases hr : s.cipher.running.isSome = true
        · exact .inl (hrun hr)
        · refine (hspared (.inr ⟨hq.resolve_left hr, .inr (.inl ⟨c, p, d, hdue.handCtx, hp', h.resolve_left hr, .inr ⟨hphase, hnext, ?_⟩⟩)⟩)).1.quiet
          exact Option.isSome_iff_exists.2 ⟨r, hdue.result⟩
      have heq : (s.setBay b y).work [b] = u := by
        rcases hended with h | h
        · exact h
        · rw [engineTake_quiet hquiet] at h; simp at h
      rw [beginFrame_keys, heq, hframe.keys]
    · rw [beginFrame_bay, hended.bay]; exact htx
    · rw [beginFrame_bay, hended.bay]; exact hc'

end Sys2Proof.Machine

/-! SUPPORT. What an event leaves of one context when its bay then goes on with its line busy or in its gap (R6, R16 to R23). -/

namespace Sys2Proof.Machine

/-! ### Contexts not DONE, and contexts DONE -/

theorem updCtx_open {x : Bay} {a : Addr} {f : Context → Context} (h : x.allDone = false)
    (hf : ∀ c, c.phase ≠ .done → (f c).phase ≠ .done) : (x.updCtx a f).allDone = false := by
  obtain ⟨c, hc, hnd⟩ : ∃ c ∈ x.contexts, c.phase ≠ .done := by simpa [Bay.allDone] using h
  have hmem : (if c.addr = a then f c else c) ∈ (x.updCtx a f).contexts := List.mem_map_of_mem hc
  have hnd' : (if c.addr = a then f c else c).phase ≠ .done := by
    split
    · exact hf c hnd
    · exact hnd
  by_contra hall
  exact hnd' (by simpa using List.all_eq_true.1 (by simpa using hall : (x.updCtx a f).allDone = true) _ hmem)

theorem QuietStep.open {b : BayId} {s t : State} (h : QuietStep b s t) (hs : (s.bay b).allDone = false) : (t.bay b).allDone = false := by
  cases h with
  | load h =>
    cases h with
    | request _ _ _ => exact hs
    | raise _ _ => exact hs
    | reserve _ _ _ => rw [bay_updBay_same]; exact hs
    | take _ _ _ => rw [bay_updBay_same]; exact updCtx_open hs fun c h => by simp
    | load _ _ _ _ => rw [bay_updBay_same]; exact updCtx_open hs fun c h => by simp
    | position _ _ _ _ _ => rw [bay_updBay_same]; exact updCtx_open hs fun c h => h
    | commit _ _ _ _ _ => rw [bay_updBay_same]; exact updCtx_open hs fun c h => by simp
  | fail idle mem job context check =>
    have hdecided : ∀ a v, ((s.bay b).decided a v).allDone = false := fun a v =>
      updCtx_open (f := fun c => { c with phase := .reportWait, outcome := some v }) hs fun c h => by simp
    rcases fail_bay (b := b) rfl with ⟨hb, _⟩ | ⟨_, _, _, hb | hb, _⟩ <;> rw [hb]
    · exact hs
    · exact hdecided _ _
    · exact updCtx_open (f := fun c => { c with recordAppended := true }) (hdecided _ _) fun c h => h

/-- A context that is DONE, and that nothing can decide: it has its outcome, or the engine is busy. -/
def Dismissed (s : State) (b : BayId) (a : Addr) : Prop :=
  (∀ e ∈ (s.bay b).contexts, e.addr = a → e.phase = .done) ∧
    ((∃ c, (s.bay b).ctx a = some c ∧ c.outcome.isSome = true) ∨ s.cipher.running.isSome = true)

theorem QuietStep.dismissed {b : BayId} {s t : State} (h : QuietStep b s t) {a : Addr} (hs : Dismissed s b a) :
    Dismissed t b a ∧ (t.bay b).ctx a = (s.bay b).ctx a := by
  obtain ⟨hall, hkept⟩ := hs
  cases h with
  | load h =>
    obtain ⟨hctx, hmem⟩ := h.elsewhere (a := a) fun e he ha => by simp [hall e he ha]
    exact ⟨⟨fun e he ha => hall e (hmem e he ha) ha, hkept.imp (by rw [hctx]; exact id) (by rw [h.running]; exact id)⟩, hctx⟩
  | @fail q r reason a' idle mem job context check =>
    obtain ⟨c, hc, ho⟩ := hkept.resolve_right (by simp [idle])
    obtain ⟨u, hu⟩ : ∃ u, u = (({ s with cipher := s.cipher.run q r } : State).decideOutcome b a' (.failed reason)).freeEngine := ⟨_, rfl⟩
    rw [← hu]
    by_cases hsame : u.bay b = s.bay b
    · rw [Dismissed, hsame]
      exact ⟨⟨hall, .inl ⟨c, hc, ho⟩⟩, rfl⟩
    have hfail := (failedAt_of_fail hu).resolve_left hsame
    have ha : a ≠ a' := fun heq => by
      subst heq
      rcases fail_bay hu with ⟨hb, _⟩ | ⟨e, he, heo, _⟩
      · exact hsame hb
      · obtain rfl := Option.some.inj (hc.symm.trans he)
        simp [heo] at ho
    refine ⟨⟨fun e he hea => hall e (hfail.mem e he (hea.trans_ne ha)) hea, .inl ⟨c, ?_, ho⟩⟩, hfail.other a ha⟩
    rw [hfail.other a ha]; exact hc

/-! ### A context followed through internal work -/

theorem LoadMove.failed {b : BayId} {s t : State} (h : LoadMove b s t) : (t.bay b).batch.failed = (s.bay b).batch.failed := by
  cases h with
  | request _ _ _ => rfl
  | raise _ _ => rfl
  | _ => exact congrArg (·.batch.failed) (bay_updBay_same s b _)

/-- What internal work that sends nothing keeps of a bay and of its first context at an address. -/
structure Followed (b : BayId) (a : Addr) (c : Context) (s u : State) : Prop where
  bay : BayLater (s.bay b) (u.bay b)
  opened : (u.bay b).allDone = false
  ctx : ∃ d, (u.bay b).ctx a = some d ∧ Later c d
  counts : ∀ p m n, Working s b a p m n ∨ Concluded s b a m n → Working u b a p m n ∨ Concluded u b a m n
  undisturbed : ∀ p m n, Undisturbed s b a p m n → Undisturbed u b a p m n ∧ (u.bay b).resendAt = (s.bay b).resendAt ∧
    ∀ pos, (u.bay b).result a pos = (s.bay b).result a pos
  spared : Spared s b → Spared u b ∧ (u.bay b).batch.failed = (s.bay b).batch.failed ∧
    ∃ d, (u.bay b).ctx a = some d ∧ d.outcome = c.outcome
  dismissed : Dismissed s b a → Dismissed u b a ∧ (u.bay b).ctx a = (s.bay b).ctx a

theorem Followed.refl {b : BayId} {a : Addr} {c : Context} {s : State} (hopen : (s.bay b).allDone = false)
    (hc : (s.bay b).ctx a = some c) : Followed b a c s s where
  bay := .refl _
  opened := hopen
  ctx := ⟨c, hc, .refl c⟩
  counts _ _ _ h := h
  undisturbed _ _ _ h := ⟨h, rfl, fun _ => rfl⟩
  spared h := ⟨h, rfl, c, hc, rfl⟩
  dismissed h := ⟨h, rfl⟩

theorem Followed.step {b : BayId} {a : Addr} {c : Context} {s u v : State} (h : Followed b a c s u) (k : QuietStep b u v) :
    Followed b a c s v where
  bay := h.bay.trans k.bay
  opened := k.open h.opened
  ctx := by
    obtain ⟨d, hd, hlater⟩ := h.ctx
    obtain ⟨e, he, hlater'⟩ := k.ctx hd
    exact ⟨e, he, hlater.trans hlater'⟩
  counts p m n hs := k.counts (h.counts p m n hs)
  undisturbed p m n hs := by
    obtain ⟨hu, hresend, hresult⟩ := h.undisturbed p m n hs
    obtain ⟨hv, hresend', hresult'⟩ := k.undisturbed hu
    exact ⟨hv, hresend'.trans hresend, fun pos => (hresult' pos).trans (hresult pos)⟩
  spared hs := by
    obtain ⟨hu, hfailed, d, hd, ho⟩ := h.spared hs
    obtain ⟨hload, hv⟩ := k.spared hu
    obtain ⟨e, he, ho'⟩ := hload.outcome hd
    exact ⟨hv, hload.failed.trans hfailed, e, he, ho'.trans ho⟩
  dismissed hs := by
    obtain ⟨hu, hctx⟩ := h.dismissed hs
    obtain ⟨hv, hctx'⟩ := k.dismissed hu
    exact ⟨hv, hctx'.trans hctx⟩

/-- What is said of the context after the work. -/
structure WorkedOn (b : BayId) (a : Addr) (c : Context) (s t : State) (c' : Context) : Prop where
  ctx : (t.bay b).ctx a = some c'
  bay : BayLater (s.bay b) (t.bay b)
  later : Later c c'
  counts : ∀ p m n, Working s b a p m n ∨ Concluded s b a m n → c'.attempts = m ∧ c'.deferrals = n
  undisturbed : ∀ p m n, Undisturbed s b a p m n → c'.outcome = none ∧ (t.bay b).resendAt = (s.bay b).resendAt ∧
    ∀ pos, (t.bay b).result a pos = (s.bay b).result a pos
  spared : Spared s b → c'.outcome = c.outcome ∧ (t.bay b).batch.failed = (s.bay b).batch.failed
  dismissed : Dismissed s b a → some c' = (s.bay b).ctx a

theorem Followed.workedOn {b : BayId} {a : Addr} {c : Context} {s u : State} (h : Followed b a c s u) :
    ∃ c', WorkedOn b a c s u c' := by
  obtain ⟨c', hc', hlater⟩ := h.ctx
  refine ⟨c', hc', h.bay, hlater, fun p m n hs => ?_, fun p m n hs => ?_, fun hs => ?_, fun hs => ?_⟩
  · rcases h.counts p m n hs with ⟨_, d, hd, _, _, hm, hn, _⟩ | ⟨⟨d, hd, hm, hn⟩, _⟩ <;>
      obtain rfl := Option.some.inj (hc'.symm.trans hd)
    · exact ⟨hm, hn⟩
    · exact ⟨hm, hn⟩
  · obtain ⟨⟨⟨_, d, hd, _, ho, _⟩, _⟩, hrest⟩ := h.undisturbed p m n hs
    obtain rfl := Option.some.inj (hc'.symm.trans hd)
    exact ⟨ho, hrest⟩
  · obtain ⟨_, hfailed, d, hd, ho⟩ := h.spared hs
    obtain rfl := Option.some.inj (hc'.symm.trans hd)
    exact ⟨ho, hfailed⟩
  · rw [← hc']; exact (h.dismissed hs).2

/-- An event of one bay whose line is then busy or in its gap: its internal work, and what that leaves of a context (R103). -/
theorem work_followed {s s1 : State} {b : BayId} {a : Addr} {c : Context} (hframe : BayFrame b s s1) (hq : EngineQuiet s1)
    (hline : ¬ (s1.bay b).lineReady) (hopen : (s1.bay b).allDone = false) (hc : (s1.bay b).ctx a = some c) :
    ∃ c', WorkedOn b a c s1 (s1.work [b]).beginFrame c' ∧ OnlyBay b s (s1.work [b]).beginFrame ∧
      (s1.cipher.running.isSome = true → (s1.work [b]).beginFrame.keys = s.keys) := by
  obtain ⟨u, hu, hended, honly, hkeys⟩ := work_quiet (b := b) (P := Followed b a c s1) (fun u v h hu => hu.step h)
    (fun u hu hready => hline ⟨by rw [← hready.1, hu.bay.line], by rw [← hready.2.1, hu.bay.line], by rw [← hready.2.2, hu.bay.line]⟩)
    (fun u hu => hu.opened) hframe (Cipher.quiet.ownedBy hq b) (.refl hopen hc)
  have hbay : (s1.work [b]).beginFrame.bay b = u.bay b := by rw [beginFrame_bay, hended.bay]
  obtain ⟨c', h⟩ := hu.workedOn
  exact ⟨c', ⟨by rw [hbay]; exact h.ctx, by rw [hbay]; exact h.bay, h.later, h.counts, by rw [hbay]; exact h.undisturbed,
    by rw [hbay]; exact h.spared, h.dismissed⟩, honly, hkeys⟩

end Sys2Proof.Machine

/-! The end of a KEY frame (R18), in LOADING and in STOPPING after BATCH_ABORT (R27). -/

namespace Sys2Proof.Machine

/-! ### An answer noted -/

/-- A context whose frame has been answered, or not (R18, R22). -/
def Context.noted (ans : Answer) (c : Context) : Context := if ans.answers then { c with pollMisses := 0 } else c

/-- The bay with the answer noted at one address. -/
def Bay.noted (a : Addr) (ans : Answer) (x : Bay) : Bay := x.updCtx a (Context.noted ans)

theorem noted_cases (ans : Answer) (c : Context) :
    (ans.answers = true ∧ c.noted ans = { c with pollMisses := 0 }) ∨ (ans.answers = false ∧ c.noted ans = c) := by
  unfold Context.noted
  cases ans.answers
  · exact .inr ⟨rfl, rfl⟩
  · exact .inl ⟨rfl, rfl⟩

@[simp] theorem noted_addr (ans : Answer) (c : Context) : (c.noted ans).addr = c.addr := by
  rcases noted_cases ans c with ⟨_, h⟩ | ⟨_, h⟩ <;> rw [h]
@[simp] theorem noted_phase (ans : Answer) (c : Context) : (c.noted ans).phase = c.phase := by
  rcases noted_cases ans c with ⟨_, h⟩ | ⟨_, h⟩ <;> rw [h]
@[simp] theorem noted_outcome (ans : Answer) (c : Context) : (c.noted ans).outcome = c.outcome := by
  rcases noted_cases ans c with ⟨_, h⟩ | ⟨_, h⟩ <;> rw [h]
@[simp] theorem noted_entry (ans : Answer) (c : Context) : (c.noted ans).entry = c.entry := by
  rcases noted_cases ans c with ⟨_, h⟩ | ⟨_, h⟩ <;> rw [h]
@[simp] theorem noted_posIndex (ans : Answer) (c : Context) : (c.noted ans).posIndex = c.posIndex := by
  rcases noted_cases ans c with ⟨_, h⟩ | ⟨_, h⟩ <;> rw [h]
@[simp] theorem noted_confirmed (ans : Answer) (c : Context) : (c.noted ans).confirmed = c.confirmed := by
  rcases noted_cases ans c with ⟨_, h⟩ | ⟨_, h⟩ <;> rw [h]
@[simp] theorem noted_attempts (ans : Answer) (c : Context) : (c.noted ans).attempts = c.attempts := by
  rcases noted_cases ans c with ⟨_, h⟩ | ⟨_, h⟩ <;> rw [h]
@[simp] theorem noted_deferrals (ans : Answer) (c : Context) : (c.noted ans).deferrals = c.deferrals := by
  rcases noted_cases ans c with ⟨_, h⟩ | ⟨_, h⟩ <;> rw [h]
@[simp] theorem noted_attemptsTotal (ans : Answer) (c : Context) : (c.noted ans).attemptsTotal = c.attemptsTotal := by
  rcases noted_cases ans c with ⟨_, h⟩ | ⟨_, h⟩ <;> rw [h]
@[simp] theorem noted_commitSent (ans : Answer) (c : Context) : (c.noted ans).commitSent = c.commitSent := by
  rcases noted_cases ans c with ⟨_, h⟩ | ⟨_, h⟩ <;> rw [h]
@[simp] theorem noted_nextPosition (ans : Answer) (c : Context) (p : Profile) : (c.noted ans).nextPosition p = c.nextPosition p := by
  rcases noted_cases ans c with ⟨_, h⟩ | ⟨_, h⟩
  · rw [h]; rfl
  · rw [h]

theorem noted_pollMisses {ans : Answer} (h : ans.answers = true) (c : Context) : (c.noted ans).pollMisses = 0 := by
  rcases noted_cases ans c with ⟨_, hc⟩ | ⟨hno, _⟩
  · rw [hc]
  · simp [h] at hno

theorem updCtx_id (x : Bay) (a : Addr) : x.updCtx a (fun c => c) = x := by
  simp [Bay.updCtx]

theorem noteAnswer_setBay (s : State) (b : BayId) (y : Bay) (a : Addr) (ans : Answer) :
    (s.setBay b y).noteAnswer b a ans = s.setBay b (y.noted a ans) := by
  unfold State.noteAnswer Bay.noted Context.noted
  split
  · rw [updBay_setBay]
  · rw [updCtx_id]

theorem ctx_noted {x : Bay} {a : Addr} {c : Context} (ans : Answer) (h : x.ctx a = some c) :
    (x.noted a ans).ctx a = some (c.noted ans) := ctx_updCtx_same h (noted_addr ans)

/-! ### What an answer does to the terminal in hand -/

section Answers
variable {s : State} {b : BayId} {z : Bay} {c : Context} {r : Prepared} {ans : Answer}

/-- The terminal in hand with one more deferral, its frame due again after 50 ms (R18, R19). -/
def Bay.deferring (now : Nat) (a : Addr) (x : Bay) : Bay :=
  { x.updCtx a (fun c => { c with deferrals := c.deferrals + 1 }) with resendAt := some (now + 50000) }

theorem deferred_again (hlt : c.deferrals + 1 < 6) : (s.setBay b z).deferred b c = s.setBay b (z.deferring s.time c.addr) := by
  simp only [State.deferred, updBay_setBay, if_neg (Nat.not_le.2 hlt)]
  rfl

theorem deferred_fails (hge : 6 ≤ c.deferrals + 1) : (s.setBay b z).deferred b c =
    (s.setBay b (z.updCtx c.addr (fun c => { c with deferrals := c.deferrals + 1 }))).decideOutcome b c.addr (.failed .noAnswer) := by
  simp only [State.deferred, updBay_setBay, if_pos hge]

theorem attemptFailed_again (reason : FailReason) (hlt : c.attempts + 1 < 3) : (s.setBay b z).attemptFailed b c reason =
    s.setBay b (z.updCtx c.addr (fun c => { c with attempts := c.attempts + 1 })) := by
  simp only [State.attemptFailed, updBay_setBay, if_neg (Nat.not_le.2 hlt)]

theorem attemptFailed_fails (reason : FailReason) (hge : 3 ≤ c.attempts + 1) : (s.setBay b z).attemptFailed b c reason =
    (s.setBay b (z.updCtx c.addr (fun c => { c with attempts := c.attempts + 1 }))).decideOutcome b c.addr (.failed reason) := by
  simp only [State.attemptFailed, updBay_setBay, if_pos hge]

variable (hc : z.ctx c.addr = some c) (hhand : z.batch.hand = some c.addr) (hphase : c.phase = .loading)
  (hr : z.result c.addr c.posIndex = some r)
include hc hhand hphase hr

theorem keyAnswer_confirmed (hv : judgeKey r ans = .confirmed) : (s.setBay b z).keyAnswer b c.addr ans = s.setBay b (z.confirm c r) := by
  simp only [State.keyAnswer, bay_setBay_same, hc, hr, hhand, hphase, hv, and_self, if_true, updBay_setBay]

/-- In STOPPING a KEY not confirmed changes nothing (R27). -/
theorem keyAnswer_stopping (hst : z.state = .stopping) (hv : judgeKey r ans ≠ .confirmed) :
    (s.setBay b z).keyAnswer b c.addr ans = s.setBay b z := by
  simp only [State.keyAnswer, bay_setBay_same, hc, hr, hhand, hphase, hst, and_self, if_true, if_neg hv]

variable (hst : z.state ≠ .stopping)
include hst

theorem keyAnswer_deferral (hv : judgeKey r ans = .deferral) :
    (s.setBay b z).keyAnswer b c.addr ans = (s.setBay b z).deferred b c := by
  simp [State.keyAnswer, hc, hr, hhand, hphase, hst, hv]

theorem keyAnswer_failure {mismatch : Bool} (hv : judgeKey r ans = .failure mismatch) : (s.setBay b z).keyAnswer b c.addr ans =
    (s.setBay b z).attemptFailed b c (if mismatch then .checkMismatch else .noAnswer) := by
  simp [State.keyAnswer, hc, hr, hhand, hphase, hst, hv]

theorem keyAnswer_refused (hv : judgeKey r ans = .refused) :
    (s.setBay b z).keyAnswer b c.addr ans = (s.setBay b z).decideOutcome b c.addr (.failed .refused) := by
  simp [State.keyAnswer, hc, hr, hhand, hphase, hst, hv]

end Answers

/-! ### What follows an answer -/

/-- An answer that decides nothing: the bay changed, then internal work. -/
theorem goesOn_changed {s : State} {b : BayId} {a : Addr} {y : Bay} {c : Context} (hq : EngineQuiet s) (hst : y.state ≠ .stopping)
    (hline : ¬ y.lineReady) (hc : y.ctx a = some c) (hnd : c.phase ≠ .done) :
    ∃ c', WorkedOn b a c (s.setBay b y) ((((s.setBay b y).continueStop b).work [b]).beginFrame) c' ∧
      OnlyBay b s (((s.setBay b y).continueStop b).work [b]).beginFrame ∧
      (s.cipher.running.isSome = true → (((s.setBay b y).continueStop b).work [b]).beginFrame.keys = s.keys) := by
  rw [continueStop_of_not (by rw [bay_setBay_same]; exact hst)]
  exact work_followed (s := s) (setBay_frame b y s) (hq.congr rfl) (by rw [bay_setBay_same]; exact hline)
    (by rw [bay_setBay_same]; exact allDone_false hc hnd) (by rw [bay_setBay_same]; exact hc)

/-- A context decided is not DONE, and is otherwise who it was. -/
theorem decideOutcome_ctx_later {s : State} {b : BayId} {a : Addr} {c : Context} (v : Verdict) (hc : (s.bay b).ctx a = some c)
    (ho : c.outcome = none) :
    ∃ d, ((s.decideOutcome b a v).bay b).ctx a = some d ∧ Later c d ∧ d.outcome = some v ∧ d.phase = .reportWait := by
  have hlater : Later c { c with phase := .reportWait, outcome := some v } := by constructor <;> simp [ho]
  rcases (decideOutcome_bay v hc ho).1 with hbay | hbay <;> rw [hbay]
  · exact ⟨_, decided_ctx_same v hc, hlater, rfl, rfl⟩
  · exact ⟨_, ctx_updCtx_same (f := fun c => { c with recordAppended := true }) (decided_ctx_same v hc) fun _ => rfl,
      hlater.trans (by constructor <;> simp), rfl, rfl⟩

/-- An answer that decides the outcome, then internal work. -/
theorem goesOn_decided {s : State} {b : BayId} {a : Addr} {y : Bay} {c : Context} {v : Verdict} (hq : EngineQuiet s)
    (hst : y.state ≠ .stopping) (hline : ¬ y.lineReady) (hc : y.ctx a = some c) (ho : c.outcome = none) {t : State}
    (ht : t = (((((s.setBay b y).decideOutcome b a v).continueStop b).work [b]).beginFrame)) :
    ∃ c', (t.bay b).ctx a = some c' ∧ Later c c' ∧ c'.outcome = some v ∧ BayLater (y.decided a v) (t.bay b) ∧
      (Spared ((s.setBay b y).decideOutcome b a v) b → (t.bay b).batch.failed = (y.decided a v).batch.failed) ∧
      OnlyBay b s t ∧ (s.cipher.running.isSome = true → t.keys = s.keys) := by
  have hc1 : ((s.setBay b y).bay b).ctx a = some c := by rw [bay_setBay_same]; exact hc
  obtain ⟨hbay, hcipher⟩ := decideOutcome_bay (s := s.setBay b y) (b := b) v hc1 ho
  obtain ⟨d, hd, hlater, hod, hphase⟩ := decideOutcome_ctx_later (s := s.setBay b y) (b := b) v hc1 ho
  have hframe : BayFrame b s ((s.setBay b y).decideOutcome b a v) := (setBay_frame b y s).trans (decideOutcome_path b a v _).frame
  have hyline : (y.decided a v).line = y.line ∧ (y.decided a v).state = y.state := ⟨rfl, rfl⟩
  obtain ⟨u, hu⟩ : ∃ u, u = (s.setBay b y).decideOutcome b a v := ⟨_, rfl⟩
  rw [bay_setBay_same] at hbay
  rw [← hu] at hbay hcipher hd hframe ht ⊢
  have hkept : BayLater (y.decided a v) (u.bay b) ∧ (u.bay b).batch.failed = (y.decided a v).batch.failed := by
    rcases hbay with h | h <;> rw [h]
    · exact ⟨.refl _, rfl⟩
    · exact ⟨updCtx_bayLater fun _ => rfl, rfl⟩
  have huline : ¬ (u.bay b).lineReady := by
    rw [Bay.lineReady, hkept.1.line]; exact hline
  rw [continueStop_of_not (by rw [hkept.1.state]; exact hst)] at ht
  obtain ⟨c', hw, honly, hkeys⟩ := work_followed (b := b) hframe (by
      show u.cipher.quiet
      rw [hcipher]
      exact Cipher.quiet.dropContext (c := s.cipher) hq b a) huline (allDone_false hd (by simp [hphase])) hd
  rw [← ht] at hw honly hkeys
  refine ⟨c', hw.ctx, hlater.trans hw.later, hw.later.outcome v hod, hkept.1.trans hw.bay,
    fun h => (hw.spared h).2.trans hkept.2, honly, fun h => hkeys ?_⟩
  rw [hcipher, dropContext_running, Option.isSome_map]
  exact h

/-- The conditions under which a terminal in hand is undisturbed. -/
theorem undisturbed_of {s : State} {b : BayId} {a : Addr} {p : Profile} {m n : Nat} (hw : Working s b a p m n) (hq : EngineQuiet s)
    {c : Context} (ha : c.addr = a) (h : s.cipher.running.isSome = true ∨ HandServed s b ∨ PreparesStart s b c p) :
    Undisturbed s b a p m n := by
  refine ⟨hw, ?_⟩
  rcases hq with hrun | ⟨hqueue, hwait⟩
  · exact .inl (.inl hrun)
  rcases h with hrun | hserved | ⟨h1, h2, h3, h4⟩
  · exact .inl (.inl hrun)
  · exact .inl (.inr ⟨⟨hqueue, hwait⟩, .inr (.inl hserved)⟩)
  · exact .inr ⟨h1, h2, ha ▸ h3, h4, fun j hj => by simp [Cipher.jobs, hqueue, hwait] at hj⟩

/-! ### The terminal in hand answered -/

/-- A context of which only the counts have changed. -/
structure Recounted (c d : Context) : Prop where
  addr : d.addr = c.addr
  entry : d.entry = c.entry
  phase : d.phase = c.phase
  posIndex : d.posIndex = c.posIndex
  confirmed : d.confirmed = c.confirmed
  outcome : d.outcome = c.outcome
  pollMisses : d.pollMisses = c.pollMisses
  commitSent : d.commitSent = c.commitSent

theorem Recounted.nextPosition {c d : Context} (h : Recounted c d) (p : Profile) : d.nextPosition p = c.nextPosition p := by
  unfold Context.nextPosition
  rw [h.posIndex, h.confirmed]

/-- The terminal in hand has been answered: the bay with the answer noted, its line in the gap. -/
structure Judged (s : State) (b : BayId) (p : Profile) (c : Context) (z : Bay) : Prop where
  quiet : EngineQuiet s
  state : z.state ≠ .stopping
  line : ¬ z.lineReady
  hand : z.batch.hand = some c.addr
  ctx : z.ctx c.addr = some c
  profile : s.profileOf c = some p
  undecided : c.outcome = none
  worked : c.phase = .committing ∨ c.phase = .loading ∧ ∃ d, c.nextPosition p = some (d, c.posIndex)

/-- What holds of that context after the event, whatever the answer was. -/
structure Answered (b : BayId) (s t : State) (c c' : Context) : Prop where
  ctx : (t.bay b).ctx c.addr = some c'
  onlyBay : OnlyBay b s t
  keys : s.cipher.running.isSome = true → t.keys = s.keys
  pollMisses : c'.pollMisses = c.pollMisses
  commitSent : c'.commitSent = c.commitSent

/-- Nothing can fail the terminal in hand: the engine is busy, it needs nothing of the cipher unit, or its PREPAREs start. -/
def Safe (s : State) (b : BayId) (p : Profile) (c : Context) (z : Bay) : Prop :=
  s.cipher.running.isSome = true ∨
    (p.ahead = false ∧ (c.phase = .committing ∨ (z.result c.addr c.posIndex).isSome = true)) ∨ PreparesStart s b c p

section Judged
variable {s : State} {b : BayId} {p : Profile} {c : Context} {z : Bay} (h : Judged s b p c z)
include h

theorem Judged.not_done : c.phase ≠ .done := by
  rcases h.worked with hp | ⟨hp, _⟩ <;> simp [hp]

/-- An answer that changes the counts, and when the frame is due again. -/
theorem Judged.again {f : Context → Context} (hf : ∀ c, Recounted c (f c)) (resend : Option Nat) {t : State}
    (ht : t = ((((s.setBay b { z.updCtx c.addr f with resendAt := resend }).continueStop b).work [b]).beginFrame)) :
    ∃ c', Answered b s t c c' ∧ c'.attempts = (f c).attempts ∧ c'.deferrals = (f c).deferrals ∧
      (Safe s b p c z → c'.outcome = none ∧ (t.bay b).resendAt = resend ∧ ∀ pos, (t.bay b).result c.addr pos = z.result c.addr pos) := by
  obtain ⟨y, hy⟩ : ∃ y : Bay, y = { z.updCtx c.addr f with resendAt := resend } := ⟨_, rfl⟩
  have hk := hf c
  have hyctx : y.ctx c.addr = some (f c) := by
    rw [hy]; exact ctx_updCtx_same h.ctx fun c => (hf c).addr
  have hyhand : y.batch.hand = some c.addr := by rw [hy]; exact h.hand
  have hprofile : (s.setBay b y).profileOf (f c) = some p := by
    show s.profileOf (f c) = _
    rw [State.profileOf, hk.entry]; exact h.profile
  rw [← hy] at ht
  obtain ⟨c', hw, honly, hkeys⟩ := goesOn_changed (y := y) h.quiet (by rw [hy]; exact h.state) (by rw [hy]; exact h.line) hyctx
    (by rw [hk.phase]; exact h.not_done)
  rw [← ht] at hw honly hkeys
  have hworking : Working (s.setBay b y) b c.addr p (f c).attempts (f c).deferrals :=
    ⟨by rw [bay_setBay_same]; exact hyhand, f c, by rw [bay_setBay_same]; exact hyctx, hprofile, by rw [hk.outcome]; exact h.undecided,
      rfl, rfl, by
        rw [hk.phase, hk.nextPosition, hk.posIndex]
        exact h.worked.imp id fun ⟨hp, hn⟩ => ⟨hp, .inl hn⟩⟩
  obtain ⟨hm, hn⟩ := hw.counts p _ _ (.inl hworking)
  refine ⟨c', ⟨hw.ctx, honly, hkeys, hw.later.pollMisses.trans hk.pollMisses, hw.later.commitSent.trans hk.commitSent⟩, hm, hn, fun hsafe => ?_⟩
  have hund : Undisturbed (s.setBay b y) b c.addr p (f c).attempts (f c).deferrals := by
    refine undisturbed_of hworking (h.quiet.congr rfl) rfl (hsafe.imp id (Or.imp (fun ⟨hahead, hserved⟩ => ?_) id))
    have hhand : ((s.setBay b y).bay b).handCtx = some (f c) := by
      rw [bay_setBay_same, handCtx_eq_some_iff, hk.addr]; exact ⟨hyhand, hyctx⟩
    rcases h.worked with hp | ⟨hp, d, hd⟩
    · exact ⟨f c, p, ⟨0#8, .keep⟩, hhand, hprofile, hahead, .inl (hk.phase.trans hp)⟩
    · refine ⟨f c, p, d, hhand, hprofile, hahead, .inr ⟨hk.phase.trans hp, by rw [hk.nextPosition, hk.posIndex]; exact hd, ?_⟩⟩
      rw [bay_setBay_same, hk.addr, hk.posIndex, hy]
      exact hserved.resolve_left (by simp [hp])
  obtain ⟨hout, hresend, hresult⟩ := hw.undisturbed p _ _ hund
  rw [bay_setBay_same] at hresend
  refine ⟨hout, by rw [hresend, hy], fun pos => ?_⟩
  rw [hresult, bay_setBay_same, hy]
  rfl

/-- An answer that decides the outcome, its count raised first. -/
theorem Judged.decides {f : Context → Context} (hf : ∀ c, Recounted c (f c)) (v : Verdict) {t : State}
    (ht : t = (((((s.setBay b (z.updCtx c.addr f)).decideOutcome b c.addr v).continueStop b).work [b]).beginFrame)) :
    ∃ c', Answered b s t c c' ∧ c'.outcome = some v ∧
      (t.bay b).batch.loaded = (z.batch.count v).loaded ∧ (z.batch.count v).failed ≤ (t.bay b).batch.failed ∧
      (Spared ((s.setBay b (z.updCtx c.addr f)).decideOutcome b c.addr v) b →
        (t.bay b).batch.failed = (z.batch.count v).failed) := by
  have hk := hf c
  have hyctx : (z.updCtx c.addr f).ctx c.addr = some (f c) := ctx_updCtx_same h.ctx fun c => (hf c).addr
  obtain ⟨c', hctx, hlater, hout, hbay, hfailed, honly, hkeys⟩ := goesOn_decided (y := z.updCtx c.addr f) (v := v) h.quiet h.state h.line
    hyctx (by rw [hk.outcome]; exact h.undecided) ht
  exact ⟨c', ⟨hctx, honly, hkeys, hlater.pollMisses.trans hk.pollMisses, hlater.commitSent.trans hk.commitSent⟩, hout, hbay.loaded, hbay.failed, hfailed⟩

end Judged

/-! ### The answer to a KEY -/

theorem judgeKey_deferral_iff (r : Prepared) (ans : Answer) : judgeKey r ans = .deferral ↔ ans = .deferral := by
  refine ⟨fun h => ?_, fun h => by rw [h]; rfl⟩
  unfold judgeKey at h
  repeat' split at h
  all_goals first | rfl | simp at h

/-- The table of R18 on a whole answer. -/
theorem judgeKey_clean (r : Prepared) (echo c2 c1 c0 status : Byte) : judgeKey r (.clean [echo, c2, c1, c0, status]) =
    if status = 0x05#8 then .refused
    else if status ≠ 0x02#8 then .failure false
    else if echo ≠ r.tag then .failure false
    else if beWord 24 [c2, c1, c0] ≠ r.check then .failure true
    else .confirmed := by
  by_cases h5 : status = 0x05#8
  · subst h5; rfl
  rw [if_neg h5]
  by_cases h2 : status = 0x02#8
  · subst h2; rfl
  rw [if_pos h2]
  have hcode : TermStatus.ofCode status ≠ some .refused ∧ TermStatus.ofCode status ≠ some .ok := by
    unfold TermStatus.ofCode
    repeat' split
    all_goals simp_all
  simp only [judgeKey]
  split
  · next h => exact absurd h hcode.1
  · next h => exact absurd h hcode.2
  · rfl

/-- A position confirmed, in its context (R17, R18). -/
theorem ctx_confirm {z : Bay} {c : Context} (r : Prepared) (hc : z.ctx c.addr = some c) : (z.confirm c r).ctx c.addr = some { c with
    confirmed := c.confirmed.set (c.posIndex - 1) (some { check := r.check, gen := r.gen }), attempts := 0, deferrals := 0 } :=
  ctx_updCtx_same (f := fun e => { e with
    confirmed := e.confirmed.set (e.posIndex - 1) (some { check := r.check, gen := r.gen }), attempts := 0, deferrals := 0 }) hc fun _ => rfl

section KeyAnswered
variable {s : State} {b : BayId} {p : Profile} {c : Context} {z : Bay} {r : Prepared} {ans : Answer}

/-- What the answer to a KEY does in LOADING (R18). -/
structure KeyTable (s : State) (b : BayId) (p : Profile) (c : Context) (z : Bay) (r : Prepared) (ans : Answer) (t : State)
    (c' : Context) : Prop where
  deferral : ans = .deferral →
    (c.deferrals + 1 < 6 → c'.deferrals = c.deferrals + 1 ∧ c'.attempts = c.attempts ∧
      (Safe s b p c z → c'.outcome = none ∧ (t.bay b).resendAt = some (s.time + 50000) ∧
        (t.bay b).result c.addr c.posIndex = some r)) ∧
    (6 ≤ c.deferrals + 1 → c'.outcome = some (.failed .noAnswer))
  failure : ∀ mismatch, judgeKey r ans = .failure mismatch →
    (c.attempts + 1 < 3 → c'.attempts = c.attempts + 1 ∧ c'.deferrals = c.deferrals ∧
      (Safe s b p c z → c'.outcome = none ∧ (t.bay b).result c.addr c.posIndex = some r)) ∧
    (3 ≤ c.attempts + 1 → c'.outcome = some (.failed (if mismatch then .checkMismatch else .noAnswer)))
  refused : judgeKey r ans = .refused → c'.outcome = some (.failed .refused)
  confirmed : judgeKey r ans = .confirmed →
    c'.confirmed = c.confirmed.set (c.posIndex - 1) (some { check := r.check, gen := r.gen }) ∧ c'.attempts = 0 ∧ c'.deferrals = 0 ∧
      (s.cipher.running.isSome = true ∨ PreparesStart s b c p → c'.outcome = none)

variable (h : Judged s b p c z) (hphase : c.phase = .loading) (hr : z.result c.addr c.posIndex = some r)
include h hphase hr

theorem Judged.key_deferral (hv : judgeKey r ans = .deferral) :
    ∃ t c', ((((s.setBay b z).keyAnswer b c.addr ans).continueStop b).work [b]).beginFrame = t ∧ Answered b s t c c' ∧
      KeyTable s b p c z r ans t c' := by
  rw [keyAnswer_deferral h.ctx h.hand hphase hr h.state hv]
  have hcounts : ∀ e : Context, Recounted e { e with deferrals := e.deferrals + 1 } := fun e => by constructor <;> rfl
  by_cases hlt : c.deferrals + 1 < 6
  · obtain ⟨c', hans, hm, hn, hsafe⟩ := h.again hcounts (some (s.time + 50000)) rfl
    refine ⟨_, c', rfl, (deferred_again (s := s) (b := b) (z := z) hlt) ▸ hans, ?_⟩
    rw [deferred_again hlt]
    refine ⟨fun _ => ⟨fun _ => ⟨hn, hm, fun hs => ?_⟩, fun hge => by omega⟩, fun _ hf => by simp [hv] at hf, fun hf => by simp [hv] at hf,
      fun hf => by simp [hv] at hf⟩
    obtain ⟨hout, hresend, hresult⟩ := hsafe hs
    exact ⟨hout, hresend, (hresult _).trans hr⟩
  · have hge : 6 ≤ c.deferrals + 1 := Nat.not_lt.1 hlt
    rw [deferred_fails hge]
    obtain ⟨c', hans, hout, -⟩ := h.decides hcounts (.failed .noAnswer) rfl
    exact ⟨_, c', rfl, hans, fun _ => ⟨fun hlt' => absurd hlt' hlt, fun _ => hout⟩, fun _ hf => by simp [hv] at hf,
      fun hf => by simp [hv] at hf, fun hf => by simp [hv] at hf⟩

theorem Judged.key_failure {mismatch : Bool} (hv : judgeKey r ans = .failure mismatch) :
    ∃ t c', ((((s.setBay b z).keyAnswer b c.addr ans).continueStop b).work [b]).beginFrame = t ∧ Answered b s t c c' ∧
      KeyTable s b p c z r ans t c' := by
  rw [keyAnswer_failure h.ctx h.hand hphase hr h.state hv]
  have hno : ans ≠ .deferral := fun hd => by simp [(judgeKey_deferral_iff r ans).2 hd] at hv
  have hcounts : ∀ e : Context, Recounted e { e with attempts := e.attempts + 1 } := fun e => by constructor <;> rfl
  by_cases hlt : c.attempts + 1 < 3
  · rw [attemptFailed_again _ hlt]
    obtain ⟨c', hans, hm, hn, hsafe⟩ := h.again hcounts z.resendAt rfl
    refine ⟨_, c', rfl, hans, fun hd => absurd hd hno, fun m _ => ⟨fun _ => ⟨hm, hn, fun hs => ?_⟩, fun hge => by omega⟩,
      fun hf => by simp [hv] at hf, fun hf => by simp [hv] at hf⟩
    obtain ⟨hout, -, hresult⟩ := hsafe hs
    exact ⟨hout, (hresult _).trans hr⟩
  · have hge : 3 ≤ c.attempts + 1 := Nat.not_lt.1 hlt
    rw [attemptFailed_fails _ hge]
    obtain ⟨c', hans, hout, -⟩ := h.decides hcounts (.failed (if mismatch then .checkMismatch else .noAnswer)) rfl
    refine ⟨_, c', rfl, hans, fun hd => absurd hd hno, fun m hm => ⟨fun hlt' => absurd hlt' hlt, fun _ => ?_⟩,
      fun hf => by simp [hv] at hf, fun hf => by simp [hv] at hf⟩
    obtain rfl := KeyJudgement.failure.inj (hv.symm.trans hm)
    exact hout

theorem Judged.key_refused (hv : judgeKey r ans = .refused) :
    ∃ t c', ((((s.setBay b z).keyAnswer b c.addr ans).continueStop b).work [b]).beginFrame = t ∧ Answered b s t c c' ∧
      KeyTable s b p c z r ans t c' := by
  have hno : ans ≠ .deferral := fun hd => by simp [(judgeKey_deferral_iff r ans).2 hd] at hv
  obtain ⟨c', hans, hout, -⟩ := h.decides (f := fun e => e) (fun e => by constructor <;> rfl) (.failed .refused) rfl
  rw [updCtx_id] at hans
  rw [keyAnswer_refused h.ctx h.hand hphase hr h.state hv]
  exact ⟨_, c', rfl, hans, fun hd => absurd hd hno, fun _ hf => by simp [hv] at hf, fun _ => hout, fun hf => by simp [hv] at hf⟩

theorem Judged.key_confirmed (hv : judgeKey r ans = .confirmed) :
    ∃ t c', ((((s.setBay b z).keyAnswer b c.addr ans).continueStop b).work [b]).beginFrame = t ∧ Answered b s t c c' ∧
      KeyTable s b p c z r ans t c' := by
  have hno : ans ≠ .deferral := fun hd => by simp [(judgeKey_deferral_iff r ans).2 hd] at hv
  rw [keyAnswer_confirmed h.ctx h.hand hphase hr hv]
  have hyctx := ctx_confirm r h.ctx
  obtain ⟨c', hw, honly, hkeys⟩ := goesOn_changed (y := z.confirm c r) h.quiet h.state h.line hyctx (by simp [hphase])
  have hworking : Working (s.setBay b (z.confirm c r)) b c.addr p 0 0 :=
    ⟨by rw [bay_setBay_same]; exact h.hand, { c with
      confirmed := c.confirmed.set (c.posIndex - 1) (some { check := r.check, gen := r.gen }), attempts := 0, deferrals := 0 },
      by rw [bay_setBay_same]; exact hyctx, h.profile, h.undecided, rfl, rfl, .inr ⟨hphase, .inr ⟨rfl, rfl⟩⟩⟩
  obtain ⟨hm, hn⟩ := hw.counts p 0 0 (.inl hworking)
  refine ⟨_, c', rfl, ⟨hw.ctx, honly, hkeys, hw.later.pollMisses, hw.later.commitSent⟩, fun hd => absurd hd hno,
    fun _ hf => by simp [hv] at hf, fun hf => by simp [hv] at hf, fun _ => ⟨hw.later.confirmed, hm, hn, fun hs => ?_⟩⟩
  exact (hw.undisturbed p 0 0 (undisturbed_of hworking (h.quiet.congr rfl) rfl (hs.imp id .inr))).1

theorem Judged.key (ans : Answer) :
    ∃ t c', ((((s.setBay b z).keyAnswer b c.addr ans).continueStop b).work [b]).beginFrame = t ∧ Answered b s t c c' ∧
      KeyTable s b p c z r ans t c' := by
  cases hv : judgeKey r ans with
  | deferral => exact h.key_deferral hphase hr hv
  | failure mismatch => exact h.key_failure hphase hr hv
  | refused => exact h.key_refused hphase hr hv
  | confirmed => exact h.key_confirmed hphase hr hv

end KeyAnswered

/-- The end of a KEY frame: the answer noted, then judged (R18, R22, R37). -/
theorem keyEnded_eq {s : State} {b : BayId} {a : Addr} {r : Prepared} {rate : Rate} {sentAt : Nat} {shown : List Nat}
    (hp : s.powered = true) (hf : (s.bay b).hasFrame (keyFrame a r) rate sentAt) (hfault : ∀ f, judgeAnswer rate 5 shown ≠ .fault f) :
    exec (.keyEnded b shown) s = .next ((((s.setBay b (((s.bay b).gapped s.time rate).noted a (judgeAnswer rate 5 shown))).keyAnswer b a
      (judgeAnswer rate 5 shown)).continueStop b).work [b]).beginFrame := by
  refine (event_powered _ hp).trans (congrArg (fun t : State => Host.Outcome.next t.beginFrame) ?_)
  refine (frameEnded_eq hf (len := 5) rfl hfault).trans (congrArg (fun t : State => (t.continueStop b).work [b]) ?_)
  have hto : (keyFrame a r).to = some a := keyFrame_to a r
  have hanswer : ∀ t : State, t.frameAnswer b (keyFrame a r) sentAt (judgeAnswer rate 5 shown) =
      (t.noteAnswer b a (judgeAnswer rate 5 shown)).keyAnswer b a (judgeAnswer rate 5 shown) := fun t => by
    simp only [State.frameAnswer, hto]; rfl
  rw [frameOver_eq hf (by simp [keyFrame]), hanswer, noteAnswer_setBay]

/-- The terminal in hand once its answer has been noted (R18, R19, R22). -/
theorem judged_noted {s : State} {b : BayId} {p : Profile} {c : Context} {y : Bay} (ans : Answer) (hq : EngineQuiet s)
    (hst : y.state ≠ .stopping) (hline : ¬ y.lineReady) (hhand : y.batch.hand = some c.addr) (hc : y.ctx c.addr = some c)
    (hp : s.profileOf c = some p) (ho : c.outcome = none)
    (hw : c.phase = .committing ∨ c.phase = .loading ∧ ∃ d, c.nextPosition p = some (d, c.posIndex)) :
    Judged s b p (c.noted ans) (y.noted c.addr ans) where
  quiet := hq
  state := hst
  line := hline
  hand := by rw [noted_addr]; exact hhand
  ctx := by rw [noted_addr]; exact ctx_noted ans hc
  profile := by rw [State.profileOf, noted_entry]; exact hp
  undecided := by rw [noted_outcome]; exact ho
  worked := by rw [noted_phase, noted_nextPosition, noted_posIndex]; exact hw

/-- In STOPPING the answer confirms its position or does not (R27). -/
theorem keyEnded_stopping {s : State} {b : BayId} {c : Context} {z : Bay} {r : Prepared} {ans : Answer} (hst : z.state = .stopping)
    (howes : z.owesReset = true) (hq : EngineQuiet s) (hhand : z.batch.hand = some c.addr) (hc : z.ctx c.addr = some c)
    (hphase : c.phase = .loading) (hr : z.result c.addr c.posIndex = some r) :
    ∃ y c', (((s.setBay b z).keyAnswer b c.addr ans).continueStop b).work [b] = s.setBay b y ∧ y.state = .stopping ∧
      y.line = z.line.startReset s.time ∧ y.resendAt = z.resendAt ∧ y.ctx c.addr = some c' ∧
      c' = if judgeKey r ans = .confirmed then { c with
        confirmed := c.confirmed.set (c.posIndex - 1) (some { check := r.check, gen := r.gen }), attempts := 0, deferrals := 0 } else c := by
  by_cases hv : judgeKey r ans = .confirmed
  · rw [keyAnswer_confirmed hc hhand hphase hr hv, if_pos hv]
    exact ⟨_, _, work_stopped (y := z.confirm c r) hst howes hq, hst, rfl, rfl, ctx_confirm r hc, rfl⟩
  · rw [keyAnswer_stopping hc hhand hphase hr hst hv, if_neg hv]
    exact ⟨_, _, work_stopped hst howes hq, hst, rfl, rfl, hc, rfl⟩

/-- Settles O49: the table of R18, its effects in LOADING, and the answer judged once in STOPPING. -/
theorem keyEnded : Obligations.KeyEnded := by
  refine ⟨judgeKey_clean, fun s b c p d r rate sentAt shown hflight => ?_, fun s b c r rate sentAt shown habort hhand hc hphase hr => ?_⟩
  · intro ans undisturbed hfault
    obtain ⟨⟨hp, hst, hhand, hc, hphase, ho, hprof, hnext⟩, hr, hf, hq⟩ := hflight
    have hjudged := judged_noted (s := s) (b := b) (y := (s.bay b).gapped s.time rate) ans hq
      (show (s.bay b).state ≠ _ by simp [hst]) (gapped_not_ready rfl) hhand hc hprof ho (.inr ⟨hphase, d, hnext⟩)
    have hr' : (((s.bay b).gapped s.time rate).noted c.addr ans).result (c.noted ans).addr (c.noted ans).posIndex = some r := by
      rw [noted_addr, noted_posIndex]; exact hr
    obtain ⟨t, c', ht, hans, htable⟩ := hjudged.key ((noted_phase ans c).trans hphase) hr' ans
    rw [noted_addr] at ht
    have hsafe : undisturbed ∨ PreparesStart s b c p →
        Safe s b p (c.noted ans) (((s.bay b).gapped s.time rate).noted c.addr ans) := fun h => by
      rcases h with (hrun | hahead) | hstart
      · exact .inl hrun
      · exact .inr (.inl ⟨hahead, .inr (by rw [hr']; rfl)⟩)
      · refine .inr (.inr ?_)
        rw [PreparesStart, noted_addr]; exact hstart
    have hctx := hans.ctx
    have hdeferral := htable.deferral
    have hfailure := htable.failure
    have hconfirmed := htable.confirmed
    rw [noted_addr] at hctx
    rw [noted_addr, noted_posIndex, noted_deferrals, noted_attempts] at hdeferral
    rw [noted_addr, noted_posIndex, noted_deferrals, noted_attempts] at hfailure
    rw [noted_confirmed, noted_posIndex, PreparesStart, noted_addr] at hconfirmed
    refine ⟨t, c', (keyEnded_eq hp hf hfault).trans (congrArg _ ht), hans.onlyBay, hctx, hans.keys, fun hd => ⟨fun hlt => ?_, (hdeferral hd).2⟩,
      fun m _ hm => ⟨fun hlt => ?_, (hfailure m hm).2⟩, htable.refused, hconfirmed,
      fun hyes => hans.pollMisses.trans (noted_pollMisses hyes c)⟩
    · obtain ⟨h1, h2, h3⟩ := (hdeferral hd).1 hlt
      exact ⟨h1, h2, fun hs => h3 (hsafe hs)⟩
    · obtain ⟨h1, h2, h3⟩ := (hfailure m hm).1 hlt
      exact ⟨h1, h2, fun hs => h3 (hsafe hs)⟩
  · intro ans hfault
    obtain ⟨hp, hq, hst, hcause, hreason, hf⟩ := habort
    have hctx : (((s.bay b).gapped s.time rate).noted c.addr ans).ctx (c.noted ans).addr = some (c.noted ans) := by
      rw [noted_addr]; exact ctx_noted (x := (s.bay b).gapped s.time rate) ans hc
    obtain ⟨y, c', hy, hyst, hyline, hyresend, hyctx, hcs⟩ := keyEnded_stopping (s := s) (b := b)
      (z := ((s.bay b).gapped s.time rate).noted c.addr ans) (c := c.noted ans) (r := r) (ans := ans) hst
      (aborted_owes hcause (by rw [show (((s.bay b).gapped s.time rate).noted c.addr ans).faultReason = none from hreason]; simp)) hq
      (by rw [noted_addr]; exact hhand) hctx ((noted_phase ans c).trans hphase) (by rw [noted_addr, noted_posIndex]; exact hr)
    rw [noted_addr] at hy hyctx
    have hframe : BayFrame b s (s.setBay b y) := setBay_frame b y s
    refine ⟨_, c', (keyEnded_eq hp hf hfault).trans (congrArg (fun t : State => Host.Outcome.next t.beginFrame) hy), hframe.event.1,
      hframe.event.2, by rw [beginFrame_report]; rfl, ?_⟩
    rw [beginFrame_bay, bay_setBay_same]
    refine ⟨hyst, hyline, hyresend, hyctx, ?_⟩
    by_cases hv : judgeKey r ans = .confirmed
    · rw [hcs, if_pos hv]
      exact ⟨noted_outcome ans c, noted_commitSent ans c, noted_attemptsTotal ans c,
        fun _ => by rw [noted_confirmed, noted_posIndex], fun h => absurd hv h⟩
    · rw [hcs, if_neg hv]
      exact ⟨noted_outcome ans c, noted_commitSent ans c, noted_attemptsTotal ans c, fun h => absurd h hv,
        fun _ => ⟨noted_confirmed ans c, noted_attempts ans c, noted_deferrals ans c⟩⟩

end Sys2Proof.Machine

/-! The end of a COMMIT frame (R19), in LOADING and in STOPPING after BATCH_ABORT (R26, R27). -/

namespace Sys2Proof.Machine

/-! ### The answer to a COMMIT -/

/-- The table of R19. -/
theorem judgeCommit_cases (ans : Answer) :
    (ans = .clean [0x04#8] ∧ judgeCommit ans = .committed) ∨ (ans = .clean [0x05#8] ∧ judgeCommit ans = .refused) ∨
      (ans = .deferral ∧ judgeCommit ans = .deferral) ∨
      ((ans ≠ .clean [0x04#8] ∧ ans ≠ .clean [0x05#8] ∧ ans ≠ .deferral) ∧ judgeCommit ans = .failure) := by
  by_cases h4 : ans = .clean [0x04#8]
  · subst h4; exact .inl ⟨rfl, rfl⟩
  by_cases h5 : ans = .clean [0x05#8]
  · subst h5; exact .inr (.inl ⟨rfl, rfl⟩)
  by_cases hd : ans = .deferral
  · subst hd; exact .inr (.inr (.inl ⟨rfl, rfl⟩))
  refine .inr (.inr (.inr ⟨⟨h4, h5, hd⟩, ?_⟩))
  unfold judgeCommit
  split
  · exact absurd rfl hd
  · next status =>
    have hcode : TermStatus.ofCode status ≠ some .committed ∧ TermStatus.ofCode status ≠ some .refused := by
      unfold TermStatus.ofCode
      repeat' split
      all_goals simp_all
    split
    · next h => exact absurd h hcode.1
    · next h => exact absurd h hcode.2
    · rfl
  · rfl

section CommitAnswer
variable {s : State} {b : BayId} {z : Bay} {c : Context} {ans : Answer} (hc : z.ctx c.addr = some c)
  (hhand : z.batch.hand = some c.addr) (hphase : c.phase = .committing)
include hc hhand hphase

theorem commitAnswer_committed (hv : judgeCommit ans = .committed) :
    (s.setBay b z).commitAnswer b c.addr ans = (s.setBay b z).decideOutcome b c.addr .loaded := by
  simp [State.commitAnswer, hc, hhand, hphase, hv]

theorem commitAnswer_refused (hv : judgeCommit ans = .refused) :
    (s.setBay b z).commitAnswer b c.addr ans = (s.setBay b z).decideOutcome b c.addr (.failed .commitRefused) := by
  simp [State.commitAnswer, hc, hhand, hphase, hv]

theorem commitAnswer_deferral (hst : z.state ≠ .stopping) (hv : judgeCommit ans = .deferral) :
    (s.setBay b z).commitAnswer b c.addr ans = (s.setBay b z).deferred b c := by
  simp [State.commitAnswer, hc, hhand, hphase, hv, hst]

theorem commitAnswer_failure (hst : z.state ≠ .stopping) (hv : judgeCommit ans = .failure) :
    (s.setBay b z).commitAnswer b c.addr ans = (s.setBay b z).attemptFailed b c .noAnswer := by
  simp [State.commitAnswer, hc, hhand, hphase, hv, hst]

/-- In STOPPING a COMMIT neither COMMITTED nor REFUSED changes nothing (R27). -/
theorem commitAnswer_stopping (hst : z.state = .stopping) (hv : judgeCommit ans = .deferral ∨ judgeCommit ans = .failure) :
    (s.setBay b z).commitAnswer b c.addr ans = s.setBay b z := by
  rcases hv with hv | hv <;> simp [State.commitAnswer, hc, hhand, hphase, hv, hst]

end CommitAnswer

/-! ### No terminal to take in hand -/

theorem nextToLoad_updCtx {x : Bay} {a : Addr} {f : Context → Context} (h : x.nextToLoad = none)
    (hf : ∀ c, (c.phase == .enrolled && c.outcome.isNone) = false → ((f c).phase == .enrolled && (f c).outcome.isNone) = false) :
    (x.updCtx a f).nextToLoad = none := by
  have hall : ∀ d ∈ x.contexts, (d.phase == .enrolled && d.outcome.isNone) = false := fun d hd => by
    exact Bool.eq_false_iff.2 (List.find?_eq_none.1 h d hd)
  refine List.find?_eq_none.2 fun e he => Bool.eq_false_iff.1 ?_
  rcases mem_updCtx he with ⟨_, he⟩ | ⟨d, hd, _, rfl⟩
  · exact hall e he
  · exact hf d (hall d hd)

theorem nextToLoad_noted {x : Bay} {a : Addr} (ans : Answer) (h : x.nextToLoad = none) : (x.noted a ans).nextToLoad = none :=
  nextToLoad_updCtx h fun c hc => by rw [noted_phase, noted_outcome]; exact hc

/-- After a decision of the terminal in hand, with the engine busy or no terminal to take, nothing is placed. -/
theorem spared_of_decided {s : State} {b : BayId} {z : Bay} {c : Context} {v : Verdict} (hq : EngineQuiet s)
    (hhand : z.batch.hand = some c.addr) (hc : z.ctx c.addr = some c) (ho : c.outcome = none)
    (h : s.cipher.running.isSome = true ∨ z.nextToLoad = none) : Spared ((s.setBay b z).decideOutcome b c.addr v) b := by
  obtain ⟨hbay, hcipher⟩ := decideOutcome_bay (s := s.setBay b z) (b := b) v (by rw [bay_setBay_same]; exact hc) ho
  rw [bay_setBay_same] at hbay
  by_cases hrun : s.cipher.running.isSome = true
  · refine .inl ?_
    rw [hcipher, dropContext_running, Option.isSome_map]
    exact hrun
  have hempty := hq.resolve_left hrun
  have hnext := h.resolve_left hrun
  have hquiet : ((s.setBay b z).decideOutcome b c.addr v).cipher.quiet := by
    rw [hcipher]; exact Cipher.quiet.dropContext (c := s.cipher) hq b c.addr
  have hidle : ((s.setBay b z).decideOutcome b c.addr v).cipher.running.isSome = false := by
    rw [hcipher, dropContext_running, Option.isSome_map]
    exact Bool.eq_false_iff.2 hrun
  refine .inr ⟨hquiet.resolve_left (by simp [hidle]), .inr (.inr ?_)⟩
  have hdecided : (z.decided c.addr v).batch.hand = none ∧ (z.decided c.addr v).nextToLoad = none :=
    ⟨if_pos hhand, nextToLoad_updCtx (f := fun c => { c with phase := .reportWait, outcome := some v }) hnext fun _ _ => rfl⟩
  rcases hbay with hb | hb <;> rw [hb]
  · exact hdecided
  · exact ⟨hdecided.1, nextToLoad_updCtx (f := fun c => { c with recordAppended := true }) hdecided.2 fun _ h => h⟩

/-! ### In LOADING -/

section Loading
variable {s : State} {b : BayId} {p : Profile} {c : Context} {z : Bay}

/-- What the answer to a COMMIT does in LOADING (R19). -/
structure CommitTable (s : State) (b : BayId) (p : Profile) (c : Context) (z : Bay) (ans : Answer) (t : State) (c' : Context) : Prop where
  loaded : ans = .clean [0x04#8] → c'.outcome = some .loaded ∧ (t.bay b).batch.loaded = z.batch.loaded + 1
  refused : ans = .clean [0x05#8] → c'.outcome = some (.failed .commitRefused) ∧ z.batch.failed + 1 ≤ (t.bay b).batch.failed ∧
    (s.cipher.running.isSome = true ∨ z.nextToLoad = none → (t.bay b).batch.failed = z.batch.failed + 1)
  deferral : ans = .deferral →
    (c.deferrals + 1 < 6 → c'.deferrals = c.deferrals + 1 ∧
      (Safe s b p c z → c'.outcome = none ∧ (t.bay b).resendAt = some (s.time + 50000))) ∧
    (6 ≤ c.deferrals + 1 → c'.outcome = some (.failed .noAnswer))
  failure : ans ≠ .clean [0x04#8] → ans ≠ .clean [0x05#8] → ans ≠ .deferral →
    (c.attempts + 1 < 3 → c'.attempts = c.attempts + 1 ∧ (Safe s b p c z → c'.outcome = none)) ∧
    (3 ≤ c.attempts + 1 → c'.outcome = some (.failed .noAnswer))

theorem Judged.commit (h : Judged s b p c z) (hphase : c.phase = .committing) (ans : Answer) :
    ∃ t c', ((((s.setBay b z).commitAnswer b c.addr ans).continueStop b).work [b]).beginFrame = t ∧ Answered b s t c c' ∧
      CommitTable s b p c z ans t c' := by
  have hsame : ∀ e : Context, Recounted e e := fun e => by constructor <;> rfl
  have hdeferrals : ∀ e : Context, Recounted e { e with deferrals := e.deferrals + 1 } := fun e => by constructor <;> rfl
  have hattempts : ∀ e : Context, Recounted e { e with attempts := e.attempts + 1 } := fun e => by constructor <;> rfl
  rcases judgeCommit_cases ans with ⟨rfl, hv⟩ | ⟨rfl, hv⟩ | ⟨rfl, hv⟩ | ⟨⟨h4, h5, hd⟩, hv⟩
  · obtain ⟨c', hans, hout, hloaded, -⟩ := h.decides hsame .loaded rfl
    rw [updCtx_id] at hans hloaded
    rw [commitAnswer_committed h.ctx h.hand hphase hv]
    exact ⟨_, c', rfl, hans, fun _ => ⟨hout, hloaded⟩, nofun, nofun, fun h4 => absurd rfl h4⟩
  · obtain ⟨c', hans, hout, -, hle, heq⟩ := h.decides hsame (.failed .commitRefused) rfl
    rw [updCtx_id] at hans hle heq
    rw [commitAnswer_refused h.ctx h.hand hphase hv]
    exact ⟨_, c', rfl, hans, nofun, fun _ => ⟨hout, hle, fun hfree => heq (spared_of_decided h.quiet h.hand h.ctx h.undecided hfree)⟩,
      nofun, fun _ h5 => absurd rfl h5⟩
  · rw [commitAnswer_deferral h.ctx h.hand hphase h.state hv]
    by_cases hlt : c.deferrals + 1 < 6
    · rw [deferred_again hlt]
      obtain ⟨c', hans, -, hn, hsafe⟩ := h.again hdeferrals (some (s.time + 50000)) rfl
      exact ⟨_, c', rfl, hans, nofun, nofun, fun _ => ⟨fun _ => ⟨hn, fun hs => ⟨(hsafe hs).1, (hsafe hs).2.1⟩⟩, fun hge => by omega⟩,
        fun _ _ hd => absurd rfl hd⟩
    · rw [deferred_fails (Nat.not_lt.1 hlt)]
      obtain ⟨c', hans, hout, -⟩ := h.decides hdeferrals (.failed .noAnswer) rfl
      exact ⟨_, c', rfl, hans, nofun, nofun, fun _ => ⟨fun hlt' => absurd hlt' hlt, fun _ => hout⟩, fun _ _ hd => absurd rfl hd⟩
  · rw [commitAnswer_failure h.ctx h.hand hphase h.state hv]
    by_cases hlt : c.attempts + 1 < 3
    · rw [attemptFailed_again _ hlt]
      obtain ⟨c', hans, hm, -, hsafe⟩ := h.again hattempts z.resendAt rfl
      exact ⟨_, c', rfl, hans, fun h => absurd h h4, fun h => absurd h h5, fun h => absurd h hd,
        fun _ _ _ => ⟨fun _ => ⟨hm, fun hs => (hsafe hs).1⟩, fun hge => by omega⟩⟩
    · rw [attemptFailed_fails _ (Nat.not_lt.1 hlt)]
      obtain ⟨c', hans, hout, -⟩ := h.decides hattempts (.failed .noAnswer) rfl
      exact ⟨_, c', rfl, hans, fun h => absurd h h4, fun h => absurd h h5, fun h => absurd h hd,
        fun _ _ _ => ⟨fun hlt' => absurd hlt' hlt, fun _ => hout⟩⟩

end Loading

/-- The bay whose COMMIT has ended: commit sent is yes (R19). -/
def Bay.committed (now : Nat) (rate : Rate) (a : Addr) (x : Bay) : Bay := (x.gapped now rate).updCtx a (fun c => { c with commitSent := true })

/-- The end of a COMMIT frame: the answer noted, then judged (R19, R22, R37). -/
theorem commitEnded_eq {s : State} {b : BayId} {c : Context} {p : Profile} {rate : Rate} {sentAt : Nat} {shown : List Nat}
    (hp : s.powered = true) (hf : (s.bay b).hasFrame (commitFrame c p) rate sentAt) (hfault : ∀ f, judgeAnswer rate 1 shown ≠ .fault f) :
    exec (.commitEnded b shown) s = .next ((((s.setBay b (((s.bay b).committed s.time rate c.addr).noted c.addr
      (judgeAnswer rate 1 shown))).commitAnswer b c.addr (judgeAnswer rate 1 shown)).continueStop b).work [b]).beginFrame := by
  refine (event_powered _ hp).trans (congrArg (fun t : State => Host.Outcome.next t.beginFrame) ?_)
  refine (frameEnded_eq hf (len := 1) rfl hfault).trans (congrArg (fun t : State => (t.continueStop b).work [b]) ?_)
  have hto : (commitFrame c p).to = some c.addr := to_of_addr rfl
  have hanswer : ∀ t : State, t.frameAnswer b (commitFrame c p) sentAt (judgeAnswer rate 1 shown) =
      (t.noteAnswer b c.addr (judgeAnswer rate 1 shown)).commitAnswer b c.addr (judgeAnswer rate 1 shown) := fun t => by
    simp only [State.frameAnswer, hto]; rfl
  rw [frameOver_commit hf rfl hto, hanswer, noteAnswer_setBay]
  rfl

/-! ### In STOPPING -/

section Stopping
variable {s : State} {b : BayId} {c : Context} {z : Bay}

theorem decided_owes (x : Bay) (a : Addr) (v : Verdict) : (x.decided a v).owesReset = x.owesReset := by
  cases v <;> rfl

/-- A decision in STOPPING, then the line reset (R26, R27). -/
theorem decided_stops {v : Verdict} (hst : z.state = .stopping) (howes : z.owesReset = true) (hq : EngineQuiet s)
    (hc : z.ctx c.addr = some c) (ho : c.outcome = none) :
    (((s.setBay b z).decideOutcome b c.addr v).continueStop b).work [b] =
      ({ s with cipher := s.cipher.dropContext b c.addr } : State).setBay b
        { z.decided c.addr v with line := z.line.startReset s.time } := by
  have hdecide := decideOutcome_stopping (s := s.setBay b z) (b := b) v (by rw [bay_setBay_same]; exact hc) ho
    (by rw [bay_setBay_same]; exact hst)
  have hout : (s.setBay b z).withOutcome b c.addr v =
      ({ s with cipher := s.cipher.dropContext b c.addr } : State).setBay b (z.decided c.addr v) := by
    rw [State.withOutcome, updBay_setBay]; rfl
  rw [hdecide, hout]
  exact work_stopped (s := { s with cipher := s.cipher.dropContext b c.addr }) (y := z.decided c.addr v) hst
    ((decided_owes z c.addr v).trans howes)
    (Cipher.quiet.dropContext (c := s.cipher) hq b c.addr)

/-- In STOPPING the answer decides the outcome or leaves it undecided (R27). -/
theorem commitAnswer_stops {ans : Answer} (hst : z.state = .stopping) (howes : z.owesReset = true) (hq : EngineQuiet s)
    (hhand : z.batch.hand = some c.addr) (hc : z.ctx c.addr = some c) (hphase : c.phase = .committing) (ho : c.outcome = none) :
    ∃ cipher y, (((s.setBay b z).commitAnswer b c.addr ans).continueStop b).work [b] =
        ({ s with cipher := cipher } : State).setBay b { y with line := z.line.startReset s.time } ∧
      ((ans = .clean [0x04#8] ∧ y = z.decided c.addr .loaded) ∨ (ans = .clean [0x05#8] ∧ y = z.decided c.addr (.failed .commitRefused)) ∨
        (ans ≠ .clean [0x04#8] ∧ ans ≠ .clean [0x05#8] ∧ y = z)) := by
  have hstays : ∀ h : judgeCommit ans = .deferral ∨ judgeCommit ans = .failure,
      (((s.setBay b z).commitAnswer b c.addr ans).continueStop b).work [b] =
        ({ s with cipher := s.cipher } : State).setBay b { z with line := z.line.startReset s.time } := fun h => by
    rw [commitAnswer_stopping hc hhand hphase hst h]
    exact work_stopped hst howes hq
  rcases judgeCommit_cases ans with ⟨rfl, hv⟩ | ⟨rfl, hv⟩ | ⟨rfl, hv⟩ | ⟨⟨h4, h5, _⟩, hv⟩
  · exact ⟨_, _, by rw [commitAnswer_committed hc hhand hphase hv]; exact decided_stops hst howes hq hc ho, .inl ⟨rfl, rfl⟩⟩
  · exact ⟨_, _, by rw [commitAnswer_refused hc hhand hphase hv]; exact decided_stops hst howes hq hc ho, .inr (.inl ⟨rfl, rfl⟩)⟩
  · exact ⟨_, _, hstays (.inl hv), .inr (.inr ⟨nofun, nofun, rfl⟩)⟩
  · exact ⟨_, _, hstays (.inr hv), .inr (.inr ⟨h4, h5, rfl⟩)⟩

end Stopping

/-- The end of a COMMIT in STOPPING, its answer judged once (R26, R27). -/
theorem commitEnded_stopping {s : State} {b : BayId} {c : Context} {p : Profile} {rate : Rate} {sentAt : Nat} {shown : List Nat} {ans : Answer}
    (habort : Aborting s b (commitFrame c p) rate sentAt) (hhand : (s.bay b).batch.hand = some c.addr)
    (hc : (s.bay b).ctx c.addr = some c) (hphase : c.phase = .committing) (ho : c.outcome = none)
    (hans : judgeAnswer rate 1 shown = ans) (hfault : ∀ f, ans ≠ .fault f) :
    ∃ t c', exec (.commitEnded b shown) s = .next t ∧ OnlyBay b s t ∧ t.keys = s.keys ∧ t.report = s.report ∧
      (t.bay b).state = .stopping ∧ (t.bay b).line = (s.bay b).line.resets s.time rate ∧
      (t.bay b).ctx c.addr = some c' ∧ c'.commitSent = true ∧ c'.attemptsTotal = c.attemptsTotal ∧
      (ans = .clean [0x04#8] → c'.outcome = some .loaded ∧ c'.listState = .loaded ∧
        (t.bay b).batch.loaded = (s.bay b).batch.loaded + 1) ∧
      (ans = .clean [0x05#8] → c'.outcome = some (.failed .commitRefused) ∧ c'.listState = .failed ∧
        (t.bay b).batch.failed = (s.bay b).batch.failed + 1) ∧
      (ans ≠ .clean [0x04#8] → ans ≠ .clean [0x05#8] →
        c'.outcome = none ∧ c'.listState = .indeterminate ∧ c'.attempts = c.attempts ∧ c'.deferrals = c.deferrals ∧
          (t.bay b).resendAt = (s.bay b).resendAt) := by
  obtain ⟨hp, hq, hst, hcause, hreason, hf⟩ := habort
  obtain ⟨z, hz⟩ : ∃ z, z = ((s.bay b).committed s.time rate c.addr).noted c.addr ans := ⟨_, rfl⟩
  obtain ⟨c1, hc1⟩ : ∃ c1, c1 = ({ c with commitSent := true } : Context).noted ans := ⟨_, rfl⟩
  have haddr : c1.addr = c.addr := by rw [hc1, noted_addr]
  have hzc : z.ctx c1.addr = some c1 := by
    rw [haddr, hz, hc1]
    exact ctx_noted ans (ctx_updCtx_same (x := (s.bay b).gapped s.time rate) (f := fun c => { c with commitSent := true }) hc fun _ => rfl)
  have hout : c1.outcome = none := by rw [hc1, noted_outcome]; exact ho
  have hzbatch : z.batch = (s.bay b).batch := by rw [hz]; rfl
  have hzst : z.state = .stopping := by rw [hz]; exact hst
  obtain ⟨cipher, y, hy, hcases⟩ := commitAnswer_stops (s := s) (b := b) (z := z) (c := c1) (ans := ans) hzst
    (aborted_owes (by rw [hzbatch]; exact hcause) (by rw [show z.faultReason = none by rw [hz]; exact hreason]; simp)) hq
    (by rw [haddr, hzbatch]; exact hhand) hzc (by rw [hc1, noted_phase]; exact hphase) hout
  rw [haddr] at hy
  have hframe : BayFrame b s (({ s with cipher := cipher } : State).setBay b { y with line := z.line.startReset s.time }) :=
    (cipher_frame b s cipher).trans (setBay_frame b _ _)
  have hexec := commitEnded_eq hp hf (hans ▸ hfault)
  rw [hans, ← hz, hy] at hexec
  have hline : z.line.startReset s.time = (s.bay b).line.resets s.time rate := by rw [hz]; rfl
  have hsent : c1.commitSent = true := by rw [hc1, noted_commitSent]
  have htotal : c1.attemptsTotal = c.attemptsTotal := by rw [hc1, noted_attemptsTotal]
  have hstate : y.state = .stopping := by
    rcases hcases with ⟨_, h⟩ | ⟨_, h⟩ | ⟨_, _, h⟩ <;> rw [h] <;> exact hzst
  obtain ⟨c', hctx, hcs, htot, h4, h5, hno⟩ : ∃ c', y.ctx c.addr = some c' ∧ c'.commitSent = true ∧ c'.attemptsTotal = c.attemptsTotal ∧
      (ans = .clean [0x04#8] → c'.outcome = some .loaded ∧ c'.listState = .loaded ∧ y.batch.loaded = (s.bay b).batch.loaded + 1) ∧
      (ans = .clean [0x05#8] → c'.outcome = some (.failed .commitRefused) ∧ c'.listState = .failed ∧
        y.batch.failed = (s.bay b).batch.failed + 1) ∧
      (ans ≠ .clean [0x04#8] → ans ≠ .clean [0x05#8] →
        c'.outcome = none ∧ c'.listState = .indeterminate ∧ c'.attempts = c.attempts ∧ c'.deferrals = c.deferrals ∧
          y.resendAt = (s.bay b).resendAt) := by
    rw [← haddr, ← hzbatch]
    rcases hcases with ⟨h, hy⟩ | ⟨h, hy⟩ | ⟨h4, h5, hy⟩
    · exact ⟨{ c1 with phase := .reportWait, outcome := some .loaded }, by rw [hy]; exact decided_ctx_same _ hzc, hsent, htotal, fun _ => ⟨rfl, rfl, by rw [hy]; rfl⟩,
        fun h' => absurd (h.symm.trans h') (by simp), fun h' => absurd h h'⟩
    · exact ⟨{ c1 with phase := .reportWait, outcome := some (.failed .commitRefused) }, by rw [hy]; exact decided_ctx_same _ hzc, hsent, htotal, fun h' => absurd (h.symm.trans h') (by simp),
        fun _ => ⟨rfl, rfl, by rw [hy]; rfl⟩, fun _ h' => absurd h h'⟩
    · exact ⟨c1, by rw [hy]; exact hzc, hsent, htotal, fun h => absurd h h4, fun h => absurd h h5, fun _ _ =>
        ⟨hout, by simp [Context.listState, hout, hsent], by rw [hc1, noted_attempts], by rw [hc1, noted_deferrals], by rw [hy, hz]; rfl⟩⟩
  refine ⟨_, c', hexec, hframe.event.1, hframe.event.2, by rw [beginFrame_report]; rfl, ?_⟩
  rw [beginFrame_bay, bay_setBay_same]
  exact ⟨hstate, hline, hctx, hcs, htot, h4, h5, hno⟩

/-! ### The obligation -/

/-- Settles O50: the table of R19, its effects in LOADING, and the answer judged once in STOPPING. -/
theorem commitEnded : Obligations.CommitEnded := by
  refine ⟨fun s b c p rate sentAt shown hflight => ?_, fun s b c p rate sentAt shown habort hhand hc hphase ho => ?_⟩
  · intro ans undisturbed hfault
    obtain ⟨hp, hst, hhand, hc, hphase, ho, hprof, hf, hq⟩ := hflight
    obtain ⟨c0, hc0⟩ : ∃ c0 : Context, c0 = { c with commitSent := true } := ⟨_, rfl⟩
    have haddr : c0.addr = c.addr := by rw [hc0]
    obtain ⟨z, hz⟩ : ∃ z, z = (s.bay b).committed s.time rate c.addr := ⟨_, rfl⟩
    have hzc : z.ctx c0.addr = some c0 := by
      rw [haddr, hz, hc0]
      exact ctx_updCtx_same (x := (s.bay b).gapped s.time rate) (f := fun c => { c with commitSent := true }) hc fun _ => rfl
    have hjudged := judged_noted (s := s) (b := b) (y := z) (c := c0) ans hq
      (by rw [hz]; show (s.bay b).state ≠ _; simp [hst]) (gapped_not_ready (by rw [hz]; rfl)) (by rw [haddr, hz]; exact hhand) hzc
      (by rw [hc0]; exact hprof) (by rw [hc0]; exact ho) (.inl (by rw [hc0]; exact hphase))
    obtain ⟨t, c', ht, hans, htable⟩ := hjudged.commit (by rw [noted_phase, hc0]; exact hphase) ans
    rw [noted_addr, haddr, hz] at ht
    have hctx := hans.ctx
    rw [noted_addr, haddr] at hctx
    have hsafe : undisturbed → Safe s b p (c0.noted ans) (z.noted c0.addr ans) :=
      Or.imp id (Or.imp (fun hahead => ⟨hahead, .inl (by rw [noted_phase, hc0]; exact hphase)⟩) fun hstart => by
        rw [PreparesStart, noted_addr, haddr]; exact hstart)
    have hdeferral := htable.deferral
    have hfailure := htable.failure
    rw [noted_deferrals, show c0.deferrals = c.deferrals by rw [hc0]] at hdeferral
    rw [noted_attempts, show c0.attempts = c.attempts by rw [hc0]] at hfailure
    have hbatch : (z.noted c0.addr ans).batch = (s.bay b).batch := by rw [hz]; rfl
    have hloaded := htable.loaded
    have hrefused := htable.refused
    rw [hbatch] at hloaded hrefused
    have hnext : (s.bay b).nextToLoad = none → (z.noted c0.addr ans).nextToLoad = none := fun hn => by
      rw [hz]
      exact nextToLoad_noted ans (nextToLoad_updCtx (x := (s.bay b).gapped s.time rate)
        (f := fun c => { c with commitSent := true }) hn fun _ h => h)
    refine ⟨t, c', (commitEnded_eq hp hf hfault).trans (congrArg _ ht), hans.onlyBay, hans.keys, hctx,
      hans.commitSent.trans (by rw [noted_commitSent, hc0]), hloaded, fun h => ?_, fun hd => ⟨fun hlt => ?_, (hdeferral hd).2⟩,
      fun h4 h5 hd => ⟨fun hlt => ?_, (hfailure h4 h5 hd).2⟩⟩
    · obtain ⟨h1, h2, h3⟩ := hrefused h
      exact ⟨h1, h2, fun hfree => h3 (hfree.imp id hnext)⟩
    · obtain ⟨h1, h2⟩ := (hdeferral hd).1 hlt
      exact ⟨h1, fun hu => h2 (hsafe hu)⟩
    · obtain ⟨h1, h2⟩ := (hfailure h4 h5 hd).1 hlt
      exact ⟨h1, fun hu => h2 (hsafe hu)⟩
  · exact commitEnded_stopping habort hhand hc hphase ho rfl

end Sys2Proof.Machine

/-! The keep-alive: POLL_DUE, POLL_ENDED and the lapse (R7, R22), and a POLL that ends in STOPPING (R26, R27). -/

namespace Sys2Proof.Machine

/-! ### A frame sent in the course of the work -/

/-- Once a bay has gone on and its line is busy, the rest of the work sends nothing. -/
theorem work_sent {s s1 v : State} {b : BayId} {a : Addr} {c : Context} (hadvance : s1.advance b = v) (hframe : BayFrame b s v)
    (hown : v.cipher.ownedBy b) (hline : ¬ (v.bay b).lineReady) (hopen : (v.bay b).allDone = false) (hc : (v.bay b).ctx a = some c) :
    ∃ u, Followed b a c v u ∧ BayFrame b s u ∧ Ended u (s1.work [b]) := by
  obtain ⟨u, hu, huframe, hend⟩ := settle_bay (b := b) (P := Followed b a c v)
    (fun u u' h hu => hu.step (h.quiet (fun hready => hline ⟨by rw [← hready.1, hu.bay.line], by rw [← hready.2.1, hu.bay.line],
      by rw [← hready.2.2, hu.bay.line]⟩) hu.opened)) 159 [] (by simp) hown (.refl hopen hc)
  exact ⟨u, hu, hframe.trans huframe, by rw [work_eq_settle, hadvance]; exact hend⟩

theorem Ended.eq_of_quiet {u t : State} (h : Ended u t) (hq : EngineQuiet u) : t = u := by
  rcases h with h | h
  · exact h
  · rw [engineTake_quiet hq] at h; simp at h

/-! ### A POLL due -/

/-- The POLL of a context is the next frame: no other is due one (R7, R22). -/
def PollNext (s : State) (b : BayId) (a : Addr) : Prop :=
  (∃ c, (s.bay b).ctx a = some c ∧ c.pollDue = true ∧ c.phase ≠ .done) ∧ ∀ e ∈ (s.bay b).contexts, e.pollDue = true → e.addr = a

theorem LoadMove.pollNext {b : BayId} {s t : State} (h : LoadMove b s t) {a : Addr} (hs : PollNext s b a) : PollNext t b a := by
  obtain ⟨⟨c, hc, hdue, hnd⟩, hall⟩ := hs
  obtain ⟨d, hd, hlater⟩ := (QuietStep.load h).ctx hc
  refine ⟨⟨d, hd, hlater.pollDue.trans hdue, hlater.phase hnd⟩, ?_⟩
  have hupd : ∀ {x : Bay} {a' : Addr} {f : Context → Context}, x.contexts = (s.bay b).contexts → (∀ c, (f c).addr = c.addr) →
      (∀ c, (f c).pollDue = c.pollDue) → ∀ e ∈ (x.updCtx a' f).contexts, e.pollDue = true → e.addr = a := fun {x a' f} hx haddr hpoll e he hed => by
    rcases mem_updCtx he with ⟨_, hmem⟩ | ⟨e', hmem, _, rfl⟩
    · exact hall e (hx ▸ hmem) hed
    · rw [haddr]
      exact hall e' (hx ▸ hmem) ((hpoll e').symm.trans hed)
  cases h with
  | request _ _ _ => exact hall
  | raise _ _ => exact hall
  | reserve _ _ _ => rw [bay_updBay_same]; exact hall
  | take _ _ _ => rw [bay_updBay_same]; exact hupd (x := s.bay b) rfl (fun _ => rfl) fun _ => rfl
  | load _ _ _ _ => rw [bay_updBay_same]; exact hupd rfl (fun _ => rfl) fun _ => rfl
  | position _ _ _ _ _ => rw [bay_updBay_same]; exact hupd rfl (fun _ => rfl) fun _ => rfl
  | commit _ _ _ _ _ => rw [bay_updBay_same]; exact hupd rfl (fun _ => rfl) fun _ => rfl

theorem PollNext.nextFrame {s : State} {b : BayId} {a : Addr} (h : PollNext s b a)
    (hst : (s.bay b).state = .rolling ∨ (s.bay b).state = .loading) : s.nextFrame b = some (bareFrame .poll a) := by
  obtain ⟨⟨c, hc, hdue, hnd⟩, hall⟩ := h
  have hpoll : (s.bay b).pollFrame = some (bareFrame .poll a) := by
    unfold Bay.pollFrame
    cases hfind : (s.bay b).contexts.find? (fun c => c.pollDue && c.phase != .done) with
    | none => exact absurd (List.find?_eq_none.1 hfind c (Bay.ctx_mem hc)) (by simp [hdue, hnd])
    | some e =>
      have he := List.find?_some hfind
      simp only [Bool.and_eq_true] at he
      rw [Option.map_some, hall e (List.mem_of_find?_eq_some hfind) he.1]
  rw [nextFrame_of_sends hst, hpoll]; rfl

/-- The bay that has begun a POLL (R22, R33). -/
theorem send_poll (now : Nat) (a : Addr) (x : Bay) : x.send now (bareFrame .poll a) =
    (x.begins now (bareFrame .poll a)).updCtx a (Context.addressed now .poll) := by
  have hto : (bareFrame .poll a).to = some a := to_of_addr rfl
  simp only [Bay.send, hto]
  rfl

/-- A POLL due on a free line goes out at once (R7, R22). -/
theorem work_pollNext {s s1 : State} {b : BayId} {a : Addr} {c : Context} (hst : (s1.bay b).state = .rolling ∨ (s1.bay b).state = .loading)
    (hready : (s1.bay b).lineReady) (hnext : PollNext s1 b a) (hc : (s1.bay b).ctx a = some c) (hnd : c.phase ≠ .done)
    (hframe : BayFrame b s s1) (hq : EngineQuiet s1) :
    ∃ t c', s1.work [b] = t ∧ OnlyBay b s t.beginFrame ∧ (s1.cipher.running.isSome = true → t.beginFrame.keys = s.keys) ∧
      (t.bay b).line.tx = .frame (bareFrame .poll a) (s1.bay b).line.rate s.time false ∧
      (t.bay b).ctx a = some c' ∧ c'.pollDue = false ∧ c'.lastAddressed = s.time := by
  obtain ⟨w, hadvance, hpath, hwst⟩ : ∃ w, s1.advance b = w.sendNext b ∧ LoadPath b s1 w ∧
      ((w.bay b).state = .rolling ∨ (w.bay b).state = .loading) := by
    rcases hst with hst | hst
    · exact ⟨s1, by simp only [State.advance, hst], .refl b s1, .inl hst⟩
    · refine ⟨s1.workHand b, ?_, workHand_moves hst, .inr ((workHand_moves hst).loading hst)⟩
      simp only [State.advance, hst, allDone_false hc hnd]
      rfl
  have hwnext : PollNext w b a := hpath.keeps (P := fun t => PollNext t b a) (fun _ _ hm ht => hm.pollNext ht) hnext
  have hwline : (w.bay b).line = (s1.bay b).line :=
    (hpath.keeps (P := fun t => BayLater (s1.bay b) (t.bay b)) (fun _ _ hm ht => ht.trans (QuietStep.load hm).bay) (.refl _)).line
  obtain ⟨d, hd, -, hdnd⟩ := hwnext.1
  have hwframe := hframe.trans hpath.frame
  obtain ⟨v, hv⟩ : ∃ v, v = w.updBay b (Bay.send w.time (bareFrame .poll a)) := ⟨_, rfl⟩
  have hvbay : v.bay b = ((w.bay b).begins s.time (bareFrame .poll a)).updCtx a (Context.addressed s.time .poll) := by
    rw [hv, bay_updBay_same, send_poll, hwframe.time]
  have hvctx : (v.bay b).ctx a = some (d.addressed s.time .poll) := by
    rw [hvbay]; exact ctx_updCtx_same (x := (w.bay b).begins s.time (bareFrame .poll a)) hd fun _ => rfl
  have hvtx : (v.bay b).line.tx = .frame (bareFrame .poll a) (s1.bay b).line.rate s.time false := by
    rw [hvbay, ← hwline]; rfl
  obtain ⟨u, hu, huframe, hended⟩ := work_sent (s1 := s1)
    (by rw [hadvance, sendNext_of_ready (by rw [Bay.lineReady, hwline]; exact hready) (hwnext.nextFrame hwst), ← hv])
    (hwframe.trans (hv ▸ setBay_frame b _ w)) (by rw [hv]; exact hpath.ownedBy (Cipher.quiet.ownedBy hq b))
    (fun hr => absurd (hvtx.symm.trans hr.1) (by simp)) (allDone_false hvctx hdnd) hvctx
  obtain ⟨c', hw⟩ := hu.workedOn
  refine ⟨_, c', rfl, hended.event huframe, fun hrun => ?_, ?_, ?_, hw.later.pollDue, hw.later.lastAddressed⟩
  · have hvrun : v.cipher.running.isSome = true := by rw [hv]; exact hpath.running ▸ hrun
    rw [beginFrame_keys, hended.eq_of_quiet (hu.spared (.inl hvrun)).1.quiet, huframe.keys]
  · rw [hended.bay, hu.bay.line]; exact hvtx
  · rw [hended.bay]; exact hw.ctx

/-! ### The answer to a POLL -/

/-- A context with one more poll miss (R22). -/
def Context.missed (c : Context) : Context := { c with pollMisses := min 2 (c.pollMisses + 1) }

theorem pollAnswer_answered {s : State} {b : BayId} {a : Addr} {ans : Answer} (h : ans.answers = true) : s.pollAnswer b a ans = s :=
  if_pos h

/-- A poll miss, and the lapse at the second (R22). -/
theorem pollAnswer_missed {s : State} {b : BayId} {a : Addr} {ans : Answer} {z : Bay} {c : Context} (h : ans.answers = false)
    (hc : z.ctx a = some c) : (s.setBay b z).pollAnswer b a ans =
      if 1 ≤ c.pollMisses ∧ c.outcome = none then (s.setBay b (z.updCtx a Context.missed)).decideOutcome b a (.failed .lapsed)
      else s.setBay b (z.updCtx a Context.missed) := by
  have hy : ((s.setBay b (z.updCtx a Context.missed)).bay b).ctx a = some c.missed := by
    rw [bay_setBay_same]; exact ctx_updCtx_same hc fun _ => rfl
  have hmiss : (s.setBay b z).updBay b (fun x => x.updCtx a (fun c => { c with pollMisses := min 2 (c.pollMisses + 1) })) =
      s.setBay b (z.updCtx a Context.missed) := updBay_setBay _ _ _ _
  have hno : ¬ ans.answers = true := by simp [h]
  unfold State.pollAnswer
  rw [if_neg hno, bay_setBay_same, hc]
  simp only [hmiss]
  by_cases hone : 1 ≤ c.pollMisses
  · rw [if_pos (by omega)]
    by_cases ho : c.outcome = none
    · rw [if_pos ⟨hone, ho⟩]
    · rw [if_neg fun h => ho h.2, decideOutcome_decided _ hy (Option.isSome_iff_ne_none.2 ho)]
  · rw [if_neg (by omega), if_neg fun h => hone h.1]

/-- The end of a POLL: the answer noted, then judged (R22, R37). -/
theorem pollEnded_eq {s : State} {b : BayId} {a : Addr} {rate : Rate} {sentAt : Nat} {shown : List Nat} (hp : s.powered = true)
    (hf : (s.bay b).hasFrame (bareFrame .poll a) rate sentAt) (hfault : ∀ f, judgeAnswer rate 1 shown ≠ .fault f) :
    exec (.pollEnded b shown) s = .next ((((s.setBay b (((s.bay b).gapped s.time rate).noted a (judgeAnswer rate 1 shown))).pollAnswer b a
      (judgeAnswer rate 1 shown)).continueStop b).work [b]).beginFrame := by
  refine (event_powered _ hp).trans (congrArg (fun t : State => Host.Outcome.next t.beginFrame) ?_)
  refine (frameEnded_eq hf (len := 1) rfl hfault).trans (congrArg (fun t : State => (t.continueStop b).work [b]) ?_)
  have hto : (bareFrame .poll a).to = some a := to_of_addr rfl
  have hanswer : ∀ t : State, t.frameAnswer b (bareFrame .poll a) sentAt (judgeAnswer rate 1 shown) =
      (t.noteAnswer b a (judgeAnswer rate 1 shown)).pollAnswer b a (judgeAnswer rate 1 shown) := fun t => by
    simp only [State.frameAnswer, hto]; rfl
  rw [frameOver_eq hf (by simp [bareFrame]), hanswer, noteAnswer_setBay]

/-! ### A bay that places nothing, its line in the gap -/

/-- A bay that places no request places none with poll misses changed. -/
theorem BayServed.updCtx {s : State} {b : BayId} {y : Bay} {a : Addr} {f : Context → Context} (h : BayServed s b)
    (hstate : y.state = (s.bay b).state) (hbatch : y.batch = (s.bay b).batch) (hcontexts : y.contexts = (s.bay b).contexts)
    (hbuffers : y.buffers = (s.bay b).buffers)
    (hf : ∀ c, (f c).addr = c.addr ∧ (f c).entry = c.entry ∧ (f c).phase = c.phase ∧ (f c).outcome = c.outcome ∧
      (f c).posIndex = c.posIndex ∧ (f c).confirmed = c.confirmed) : BayServed (s.setBay b (y.updCtx a f)) b := by
  have hctx : ∀ a', y.ctx a' = (s.bay b).ctx a' := fun a' => by rw [Bay.ctx, hcontexts, Bay.ctx]
  rcases h with hst | ⟨c, p, d, hand, hp, hahead, hphase⟩ | ⟨hnone, hnext⟩
  · refine .inl ?_
    rw [bay_setBay_same]
    exact fun h => hst (hstate.symm.trans h)
  · obtain ⟨hhand, hc⟩ := handCtx_eq_some_iff.1 hand
    obtain ⟨e, he, h1, h2, h3, h4⟩ : ∃ e, (y.updCtx a f).ctx c.addr = some e ∧ e.addr = c.addr ∧ e.entry = c.entry ∧ e.phase = c.phase ∧
        e.posIndex = c.posIndex ∧ e.confirmed = c.confirmed := by
      rw [ctx_updCtx y a c.addr fun c => (hf c).1, hctx, hc]
      obtain ⟨h1, h2, h3, -, h4, h5⟩ := hf c
      split
      · exact ⟨_, rfl, h1, h2, h3, h4, h5⟩
      · exact ⟨c, rfl, rfl, rfl, rfl, rfl, rfl⟩
    obtain ⟨h4, h5⟩ := h4
    have hnextpos : e.nextPosition p = c.nextPosition p := by unfold Context.nextPosition; rw [h4, h5]
    refine .inr (.inl ⟨e, p, d, ?_, ?_, hahead, ?_⟩)
    · rw [bay_setBay_same, handCtx_eq_some_iff, h1]
      exact ⟨(congrArg (·.hand) hbatch).trans hhand, he⟩
    · show s.profileOf e = _
      rw [State.profileOf, h2]; exact hp
    · rw [h3, hnextpos, h4, bay_setBay_same, h1]
      refine hphase.imp id fun ⟨g1, g2, g3⟩ => ⟨g1, g2, ?_⟩
      show (y.result c.addr c.posIndex).isSome = true
      rw [Bay.result, hbuffers]; exact g3
  · refine .inr (.inr ?_)
    rw [bay_setBay_same]
    refine ⟨(congrArg (·.hand) hbatch).trans hnone, nextToLoad_updCtx ?_ fun c h => ?_⟩
    · rw [Bay.nextToLoad, hcontexts]; exact hnext
    · rw [(hf c).2.2.1, (hf c).2.2.2.1]; exact h

/-! ### The end of a POLL -/

section PollEnded
variable {s : State} {b : BayId} {c : Context} {rate : Rate} {ans : Answer}

/-- What the end of a POLL says of its context (R22). -/
structure PollTable (c c' : Context) (ans : Answer) (undisturbed : Prop) : Prop where
  answered : ans.answers = true → c'.pollMisses = 0 ∧ (undisturbed → c'.outcome = c.outcome)
  missed : ans.answers = false → c'.pollMisses = min 2 (c.pollMisses + 1) ∧
    (c.pollMisses = 0 ∨ c.outcome ≠ none → undisturbed → c'.outcome = c.outcome) ∧
    (1 ≤ c.pollMisses → c.outcome = none → c'.outcome = some (.failed .lapsed))

/-- In ROLLING and LOADING (R22). -/
theorem pollAnswer_goesOn (hq : EngineQuiet s) (hst : (s.bay b).state ≠ .stopping) (hc : (s.bay b).ctx c.addr = some c)
    (hnd : c.phase ≠ .done) :
    ∃ t c', ((((s.setBay b (((s.bay b).gapped s.time rate).noted c.addr ans)).pollAnswer b c.addr ans).continueStop b).work [b]).beginFrame = t ∧
      OnlyBay b s t ∧ (s.cipher.running.isSome = true → t.keys = s.keys) ∧ (t.bay b).ctx c.addr = some c' ∧
      PollTable c c' ans (s.cipher.running.isSome = true ∨ BayServed s b ∨ c.outcome ≠ none) := by
  have hspared : ∀ {f : Context → Context}, (∀ c, (f c).addr = c.addr ∧ (f c).entry = c.entry ∧ (f c).phase = c.phase ∧
      (f c).outcome = c.outcome ∧ (f c).posIndex = c.posIndex ∧ (f c).confirmed = c.confirmed) →
      (s.cipher.running.isSome = true ∨ BayServed s b) → Spared (s.setBay b (((s.bay b).gapped s.time rate).updCtx c.addr f)) b :=
    fun {f} hf h => by
      by_cases hrun : s.cipher.running.isSome = true
      · exact .inl hrun
      · exact .inr ⟨hq.resolve_left hrun, (h.resolve_left hrun).updCtx rfl rfl rfl rfl hf⟩
  have hkept : ∀ {f : Context → Context} {c' : Context} {t : State}, (∀ c, (f c).addr = c.addr ∧ (f c).entry = c.entry ∧
      (f c).phase = c.phase ∧ (f c).outcome = c.outcome ∧ (f c).posIndex = c.posIndex ∧ (f c).confirmed = c.confirmed) →
      WorkedOn b c.addr (f c) (s.setBay b (((s.bay b).gapped s.time rate).updCtx c.addr f)) t c' →
      (s.cipher.running.isSome = true ∨ BayServed s b ∨ c.outcome ≠ none) → c'.outcome = c.outcome := fun {f c' t} hf hw h => by
    by_cases ho : c.outcome = none
    · have h : s.cipher.running.isSome = true ∨ BayServed s b := by tauto
      exact (hw.spared (hspared hf h)).1.trans (hf c).2.2.2.1
    · obtain ⟨v, hv⟩ := Option.ne_none_iff_exists'.1 ho
      rw [hv]
      exact hw.later.outcome v ((hf c).2.2.2.1.trans hv)
  have hgap : ∀ {f : Context → Context}, ¬ (((s.bay b).gapped s.time rate).updCtx c.addr f).lineReady := fun {f} => gapped_not_ready rfl
  cases hans : ans.answers with
  | true =>
    rw [pollAnswer_answered hans]
    have hf : ∀ c : Context, (c.noted ans).addr = c.addr ∧ (c.noted ans).entry = c.entry ∧ (c.noted ans).phase = c.phase ∧
        (c.noted ans).outcome = c.outcome ∧ (c.noted ans).posIndex = c.posIndex ∧ (c.noted ans).confirmed = c.confirmed := fun c => by simp
    obtain ⟨c', hw, honly, hkeys⟩ := goesOn_changed (s := s) (b := b) (y := ((s.bay b).gapped s.time rate).noted c.addr ans) hq hst hgap
      (ctx_noted (x := (s.bay b).gapped s.time rate) ans hc) (by rw [noted_phase]; exact hnd)
    exact ⟨_, c', rfl, honly, hkeys, hw.ctx, fun _ => ⟨hw.later.pollMisses.trans (noted_pollMisses hans c), hkept hf hw⟩,
      fun h => absurd (hans.symm.trans h) (by simp)⟩
  | false =>
    have hnoted : ((s.bay b).gapped s.time rate).noted c.addr ans = (s.bay b).gapped s.time rate := by
      have hid : Context.noted ans = fun c => c := funext fun c => if_neg (by simp [hans])
      rw [Bay.noted, hid, updCtx_id]
    rw [hnoted, pollAnswer_missed hans (z := (s.bay b).gapped s.time rate) hc]
    have hmissed : (((s.bay b).gapped s.time rate).updCtx c.addr Context.missed).ctx c.addr = some c.missed :=
      ctx_updCtx_same (x := (s.bay b).gapped s.time rate) hc fun _ => rfl
    by_cases hlapse : 1 ≤ c.pollMisses ∧ c.outcome = none
    · rw [if_pos hlapse]
      obtain ⟨c', hctx, hlater, hout, -, -, honly, hkeys⟩ := goesOn_decided (s := s) (b := b) (v := .failed .lapsed)
        (y := ((s.bay b).gapped s.time rate).updCtx c.addr Context.missed) hq hst hgap hmissed hlapse.2 rfl
      refine ⟨_, c', rfl, honly, hkeys, hctx, fun h => absurd (hans.symm.trans h) (by simp), fun _ => ⟨hlater.pollMisses, fun h => ?_,
        fun _ _ => hout⟩⟩
      exact absurd h (by rw [not_or]; exact ⟨by omega, not_not.2 hlapse.2⟩)
    · rw [if_neg hlapse]
      obtain ⟨c', hw, honly, hkeys⟩ := goesOn_changed (s := s) (b := b) (y := ((s.bay b).gapped s.time rate).updCtx c.addr Context.missed) hq
        hst hgap hmissed hnd
      exact ⟨_, c', rfl, honly, hkeys, hw.ctx, fun h => absurd (hans.symm.trans h) (by simp), fun _ => ⟨hw.later.pollMisses,
        fun _ => hkept (f := Context.missed) (fun _ => ⟨rfl, rfl, rfl, rfl, rfl, rfl⟩) hw, fun h1 h2 => absurd ⟨h1, h2⟩ hlapse⟩⟩

/-- In STOPPING, judged once in the same way, and the line reset (R26, R27). -/
theorem pollAnswer_stops (hq : EngineQuiet s) (hst : (s.bay b).state = .stopping) (howes : (s.bay b).owesReset = true)
    (hc : (s.bay b).ctx c.addr = some c) :
    ∃ (cipher : Cipher) (y : Bay) (c' : Context), (((s.setBay b (((s.bay b).gapped s.time rate).noted c.addr ans)).pollAnswer b c.addr ans).continueStop b).work [b] =
        ({ s with cipher := cipher } : State).setBay b { y with line := (s.bay b).line.resets s.time rate } ∧ y.state = .stopping ∧
      y.ctx c.addr = some c' ∧ (ans.answers = true → c'.pollMisses = 0 ∧ c'.outcome = c.outcome) ∧
      (ans.answers = false → c'.pollMisses = min 2 (c.pollMisses + 1) ∧
        c'.outcome = if 1 ≤ c.pollMisses ∧ c.outcome = none then some (.failed .lapsed) else c.outcome) := by
  cases hans : ans.answers with
  | true =>
    rw [pollAnswer_answered hans]
    exact ⟨s.cipher, ((s.bay b).gapped s.time rate).noted c.addr ans, c.noted ans,
      work_stopped (y := ((s.bay b).gapped s.time rate).noted c.addr ans) hst howes hq, hst,
      ctx_noted (x := (s.bay b).gapped s.time rate) ans hc, fun _ => ⟨noted_pollMisses hans c, noted_outcome ans c⟩, nofun⟩
  | false =>
    have hnoted : ((s.bay b).gapped s.time rate).noted c.addr ans = (s.bay b).gapped s.time rate := by
      have hid : Context.noted ans = fun c => c := funext fun c => if_neg (by simp [hans])
      rw [Bay.noted, hid, updCtx_id]
    rw [hnoted, pollAnswer_missed hans (z := (s.bay b).gapped s.time rate) hc]
    obtain ⟨z, hz⟩ : ∃ z, z = ((s.bay b).gapped s.time rate).updCtx c.addr Context.missed := ⟨_, rfl⟩
    have hzc : z.ctx c.missed.addr = some c.missed := by
      rw [hz]; exact ctx_updCtx_same (x := (s.bay b).gapped s.time rate) hc fun _ => rfl
    have hzst : z.state = .stopping := by rw [hz]; exact hst
    have hzowes : z.owesReset = true := by rw [hz]; exact howes
    have hzline : z.line.startReset s.time = (s.bay b).line.resets s.time rate := by rw [hz]; rfl
    rw [← hz, ← hzline]
    by_cases hlapse : 1 ≤ c.pollMisses ∧ c.outcome = none
    · rw [if_pos hlapse, if_pos hlapse]
      exact ⟨_, _, { c.missed with phase := .reportWait, outcome := some (.failed .lapsed) },
        decided_stops (c := c.missed) hzst hzowes hq hzc hlapse.2, hzst, decided_ctx_same _ hzc, nofun, fun _ => ⟨rfl, rfl⟩⟩
    · rw [if_neg hlapse, if_neg hlapse]
      exact ⟨s.cipher, z, c.missed, work_stopped hzst hzowes hq, hzst, hzc, nofun, fun _ => ⟨rfl, rfl⟩⟩

end PollEnded

/-! ### The obligation -/

/-- A context that a POLL is due to (R22). -/
def Context.duePoll (c : Context) : Context := if c.phase = .done then c else { c with pollDue := true }

theorem duePoll_eq {c : Context} (h : c.phase ≠ .done) : c.duePoll = { c with pollDue := true } := if_neg h

theorem pollDue_eq {s : State} {b : BayId} {a : Addr} (hp : s.powered = true)
    (hst : (s.bay b).state = .rolling ∨ (s.bay b).state = .loading) :
    exec (.pollDue b a) s = .next (((s.setBay b ((s.bay b).updCtx a Context.duePoll)).work [b]).beginFrame) := by
  refine (event_powered _ hp).trans (congrArg (fun t : State => Host.Outcome.next t.beginFrame) ?_)
  refine if_pos ?_
  rcases hst with hst | hst <;> rw [hst] <;> rfl

/-- Settles O51: a POLL that falls due, its answer, and the answer judged once in STOPPING. -/
theorem keepAlive : Obligations.KeepAlive := by
  refine ⟨fun s b c hp hq hst hc hnd => ?_, fun s b c rate sentAt shown habort hc hfault => ?_⟩
  · intro x
    have hduectx : (x.updCtx c.addr Context.duePoll).ctx c.addr = some { c with pollDue := true } := by
      have hctx := ctx_updCtx_same (f := Context.duePoll) hc fun c => by unfold Context.duePoll; split <;> rfl
      rwa [duePoll_eq hnd] at hctx
    refine ⟨fun hbusy => ?_, fun hready hnone => ?_, fun rate sentAt shown hf hfault => ?_⟩
    · obtain ⟨c', hw, honly, hkeys⟩ := work_followed (s := s) (s1 := s.setBay b (x.updCtx c.addr Context.duePoll)) (b := b)
        (setBay_frame b _ s) (hq.congr rfl) (by rw [bay_setBay_same]; exact fun hr => hbusy hr.1)
        (by rw [bay_setBay_same]; exact allDone_false hduectx hnd) (by rw [bay_setBay_same]; exact hduectx)
      exact ⟨_, c', pollDue_eq hp hst, honly, hkeys, hw.ctx, hw.later.pollDue⟩
    · have hnext : PollNext (s.setBay b (x.updCtx c.addr Context.duePoll)) b c.addr := by
        unfold PollNext
        rw [bay_setBay_same]
        refine ⟨⟨_, hduectx, rfl, hnd⟩, fun e he hdue => ?_⟩
        rcases mem_updCtx he with ⟨_, he⟩ | ⟨d, _, hd, rfl⟩
        · exact absurd (hnone e he) (by simp [hdue])
        · rw [← hd]; unfold Context.duePoll; split <;> rfl
      obtain ⟨t, c', ht, honly, hkeys, htx, hctx, hdue, hlast⟩ := work_pollNext (s := s) (c := { c with pollDue := true })
        (by rw [bay_setBay_same]; exact hst) (by rw [bay_setBay_same]; exact hready) hnext (by rw [bay_setBay_same]; exact hduectx) hnd
        (setBay_frame b _ s) (hq.congr rfl)
      rw [bay_setBay_same] at htx
      exact ⟨_, c', (pollDue_eq hp hst).trans (congrArg (fun t : State => Host.Outcome.next t.beginFrame) ht), honly, hkeys,
        by rw [beginFrame_bay]; exact htx, by rw [beginFrame_bay]; exact hctx, hdue, hlast⟩
    · intro undisturbed
      obtain ⟨t, c', ht, honly, hkeys, hctx, htable⟩ := pollAnswer_goesOn (rate := rate) (ans := judgeAnswer rate 1 shown) hq
        (by rcases hst with h | h <;> rw [h] <;> simp) hc hnd
      exact ⟨t, c', (pollEnded_eq hp hf hfault).trans (congrArg _ ht), honly, hkeys, hctx, htable.answered, htable.missed⟩
  · obtain ⟨hp, hq, hst, hcause, hreason, hf⟩ := habort
    obtain ⟨cipher, y, c', hy, hyst, hctx, hanswered, hmissed⟩ := pollAnswer_stops (rate := rate) (ans := judgeAnswer rate 1 shown) hq hst
      (aborted_owes hcause (by simp [hreason])) hc
    have hframe : BayFrame b s (({ s with cipher := cipher } : State).setBay b { y with line := (s.bay b).line.resets s.time rate }) :=
      (cipher_frame b s cipher).trans (setBay_frame b _ _)
    refine ⟨_, c', (pollEnded_eq hp hf hfault).trans (congrArg (fun t : State => Host.Outcome.next t.beginFrame) hy), hframe.event.1,
      hframe.event.2, by rw [beginFrame_report]; rfl, ?_⟩
    rw [beginFrame_bay, bay_setBay_same]
    exact ⟨hyst, rfl, hctx, hanswered, hmissed⟩

end Sys2Proof.Machine

/-! The ends of RATE and DISMISS, the normal end of a batch, and the data end of a frame (R13, R19, R20, R25 to R27, R39, R88). -/

namespace Sys2Proof.Machine

/-! ### A frame that draws no answer has ended -/

section RanOut
variable {s : State} {b : BayId} {f : LineFrame} {rate : Rate} {sentAt : Nat} (hf : (s.bay b).hasFrame f rate sentAt)
include hf

/-- The line in the gap after a frame (R55). -/
theorem frameOver_gap : s.frameOver b = s.setBay b ((s.bay b).gapped s.time rate) := by
  obtain ⟨passed, htx⟩ := hf
  have hline : ({ (s.bay b).line with tx := .frame f rate sentAt passed } : LineEnd) = (s.bay b).line := by rw [← htx]
  have hgap := ended_of_frame htx passed s.time
  rw [hline] at hgap
  exact congrArg (fun l => s.setBay b { s.bay b with line := l }) hgap

theorem frameRanOut_eq : s.frameRanOut f.kind b =
    (((s.setBay b ((s.bay b).gapped s.time rate)).frameDone b f).continueStop b).work [b] := by
  rw [← frameOver_gap hf]
  obtain ⟨passed, htx⟩ := hf
  simp only [State.frameRanOut, htx, if_true]

end RanOut

/-- The line at FAST after RATE (R13, R52). -/
def Bay.fastLine (x : Bay) : Bay := { x with line := { x.line with rate := .fast } }

theorem frameDone_rate {s : State} {b : BayId} {y : Bay} {f : LineFrame} (hk : f.kind = .rate) :
    (s.setBay b y).frameDone b f = s.setBay b y.fastLine := by
  simp only [State.frameDone, hk, updBay_setBay]
  rfl

/-- A context DONE, its entry held or not (R20, R88; log 39). -/
def Context.dismissed (held : Bool) (c : Context) : Context := { c with phase := .done, heldInStop := held }

theorem frameDone_dismiss {s : State} {b : BayId} {y : Bay} (a : Addr) :
    (s.setBay b y).frameDone b (bareFrame .dismiss a) = s.setBay b (y.updCtx a (Context.dismissed (y.state == .stopping))) := by
  have hto : (bareFrame .dismiss a).to = some a := to_of_addr rfl
  have hdone : (s.setBay b y).frameDone b (bareFrame .dismiss a) = (s.setBay b y).updBay b (fun x => x.updCtx a
      (fun c => { c with phase := .done, heldInStop := x.state == .stopping })) := by
    simp only [State.frameDone, hto]; rfl
  rw [hdone, updBay_setBay]; rfl

theorem exists_ctx {x : Bay} (h : x.allDone = false) : ∃ a c, x.ctx a = some c := by
  obtain ⟨c, hc, -⟩ : ∃ c ∈ x.contexts, c.phase ≠ .done := by simpa [Bay.allDone] using h
  cases hfind : x.ctx c.addr with
  | none => exact absurd (List.find?_eq_none.1 hfind c hc) (by simp)
  | some d => exact ⟨_, d, hfind⟩

/-! ### In ROLLING and LOADING -/

section Running
variable {s : State} {b : BayId} {rate : Rate} (hq : EngineQuiet s)
include hq

/-- The end of RATE (R13). -/
theorem rate_goesOn (hst : (s.bay b).state = .loading) (hopen : (s.bay b).allDone = false) :
    ∃ t, ((s.setBay b ((s.bay b).gapped s.time rate).fastLine).continueStop b).work [b] = t ∧ OnlyBay b s t.beginFrame ∧
      (s.cipher.running.isSome = true → t.beginFrame.keys = s.keys) ∧ BayLater ((s.bay b).gapped s.time rate).fastLine (t.bay b) := by
  obtain ⟨y, hy⟩ : ∃ y, y = ((s.bay b).gapped s.time rate).fastLine := ⟨_, rfl⟩
  have hyst : y.state ≠ .stopping := by rw [hy]; show (s.bay b).state ≠ _; simp [hst]
  have hyopen : y.allDone = false := by rw [hy]; exact hopen
  have hyline : ¬ y.lineReady := by
    rintro ⟨_, hfree, _⟩
    rw [hy] at hfree
    simp [Bay.fastLine, Bay.gapped, LineEnd.gapFrom] at hfree
  obtain ⟨a, c, hc⟩ := exists_ctx hyopen
  rw [← hy, continueStop_of_not (by rw [bay_setBay_same]; exact hyst)]
  obtain ⟨c', hw, honly, hkeys⟩ := work_followed (s := s) (s1 := s.setBay b y) (setBay_frame b y s) (hq.congr rfl)
    (by rw [bay_setBay_same]; exact hyline) (by rw [bay_setBay_same]; exact hyopen) (by rw [bay_setBay_same]; exact hc)
  have hbay := hw.bay
  rw [beginFrame_bay, bay_setBay_same] at hbay
  exact ⟨_, rfl, honly, hkeys, hbay⟩

/-- The end of a DISMISS with the batch going on (R20). -/
theorem dismiss_goesOn {c : Context} (hc : (s.bay b).ctx c.addr = some c)
    (hst : (s.bay b).state = .rolling ∨ ((s.bay b).state = .loading ∧ ∃ d ∈ (s.bay b).contexts, d.addr ≠ c.addr ∧ d.phase ≠ .done))
    (hkept : s.cipher.running.isSome = true ∨ c.outcome.isSome = true) :
    ∃ t, ((s.setBay b (((s.bay b).gapped s.time rate).updCtx c.addr (Context.dismissed false))).continueStop b).work [b] = t ∧
      OnlyBay b s t.beginFrame ∧ (s.cipher.running.isSome = true → t.beginFrame.keys = s.keys) ∧
      (t.bay b).ctx c.addr = some (c.dismissed false) := by
  obtain ⟨y, hy⟩ : ∃ y, y = ((s.bay b).gapped s.time rate).updCtx c.addr (Context.dismissed false) := ⟨_, rfl⟩
  have hyctx : y.ctx c.addr = some (c.dismissed false) := by
    rw [hy]; exact ctx_updCtx_same (x := (s.bay b).gapped s.time rate) hc fun _ => rfl
  have hyline : ¬ y.lineReady := gapped_not_ready (by rw [hy]; rfl)
  have hystate : y.state = (s.bay b).state := by rw [hy]; rfl
  rw [← hy, continueStop_of_not (by rw [bay_setBay_same, hystate]; rcases hst with h | ⟨h, _⟩ <;> simp [h])]
  rcases hst with hst | ⟨hst, d, hd, hda, hdnd⟩
  · refine ⟨_, work_rolling (by rw [bay_setBay_same, hystate]; exact hst) (by rw [bay_setBay_same]; exact hyline) (hq.congr rfl),
      (setBay_frame b y s).event.1, fun _ => (setBay_frame b y s).event.2, ?_⟩
    rw [bay_setBay_same]; exact hyctx
  · have hyopen : y.allDone = false := by
      have hmem : d ∈ y.contexts := by
        have h : (if d.addr = c.addr then d.dismissed false else d) ∈ y.contexts := by rw [hy]; exact List.mem_map_of_mem hd
        rwa [if_neg hda] at h
      by_contra hall
      exact hdnd (by simpa using List.all_eq_true.1 (by simpa using hall : y.allDone = true) d hmem)
    obtain ⟨c', hw, honly, hkeys⟩ := work_followed (s := s) (s1 := s.setBay b y) (setBay_frame b y s) (hq.congr rfl)
      (by rw [bay_setBay_same]; exact hyline) (by rw [bay_setBay_same]; exact hyopen) (by rw [bay_setBay_same]; exact hyctx)
    have hdismissed : Dismissed (s.setBay b y) b c.addr := by
      refine ⟨fun e he hea => ?_, hkept.symm.imp (fun ho => ⟨c.dismissed false, by rw [bay_setBay_same]; exact hyctx, ho⟩) id⟩
      rw [bay_setBay_same, hy] at he
      rcases mem_updCtx he with ⟨hne, _⟩ | ⟨d, _, _, rfl⟩
      · exact absurd hea hne
      · rfl
    have hctx := hw.ctx
    rw [beginFrame_bay, hw.dismissed hdismissed, bay_setBay_same, hyctx] at hctx
    exact ⟨_, rfl, honly, hkeys, hctx⟩

/-- The end of the last DISMISS ends the batch (R25). -/
theorem dismiss_ends {y : Bay} (hst : y.state = .loading) (hdone : y.allDone = true) :
    ((s.setBay b y).continueStop b).work [b] = (s.setBay b y).normalEnd b := by
  have hadvance : (s.setBay b y).advance b = (s.setBay b y).normalEnd b := by
    simp only [State.advance, bay_setBay_same, hst, hdone, if_true]
  rw [continueStop_of_not (by rw [bay_setBay_same, hst]; simp),
    work_advance (by rw [hadvance]; exact Cipher.quiet.emptyHolders (c := s.cipher) hq b), hadvance]

end Running

/-- A context that holds its entry keeps it in use (R88). -/
theorem inUse_of_ctx {s : State} {b : BayId} {a : Addr} {c : Context} {e : EntryId} (hc : (s.bay b).ctx a = some c)
    (he : c.entry = some e) (hh : c.holdsEntry = true) : s.inUse e = true := by
  unfold State.inUse
  rw [Vector.any_eq_true]
  refine ⟨b.val, b.isLt, ?_⟩
  rw [List.any_eq_true]
  exact ⟨c, Bay.ctx_mem hc, by simp [he, hh]⟩

/-! ### The obligation -/

/-- Settles O52: RATE and DISMISS in a batch that goes on, ends or is being aborted, and the data end of a frame. -/
theorem framesRunOut : Obligations.FramesRunOut := by
  intro s b hp x
  have hends : ∀ {f : LineFrame} {rate sentAt} {t : State} {i : Instr}, x.hasFrame f rate sentAt →
      exec i s = event (State.frameRanOut f.kind b) s →
      (((s.setBay b (x.gapped s.time rate)).frameDone b f).continueStop b).work [b] = t → exec i s = .next t.beginFrame :=
    fun {f rate sentAt t i} hf hi ht => hi.trans ((event_powered _ hp).trans
      (congrArg (fun t : State => Host.Outcome.next t.beginFrame) ((frameRanOut_eq hf).trans ht)))
  refine ⟨fun f rate sentAt hk hf hst hopen hq => ?_, fun c rate sentAt hc hf => ⟨fun hst hq hkept => ?_, fun hst hall hq => ?_⟩,
    fun c rate sentAt hc habort => ?_, fun f rate sentAt hk habort => ?_, fun f rate sentAt htx hdraws => ?_⟩
  · obtain ⟨t, ht, honly, hkeys, hlater⟩ := rate_goesOn (rate := rate) hq hst hopen
    refine ⟨_, hends (t := t) hf (by rw [hk]; rfl) (by rw [frameDone_rate hk]; exact ht), honly, hkeys, ?_⟩
    rw [beginFrame_bay]
    exact ⟨hlater.state.trans hst, hlater.line⟩
  · obtain ⟨t, ht, honly, hkeys, hctx⟩ := dismiss_goesOn (rate := rate) hq hc hst hkept
    have hrunning : ((x.gapped s.time rate).state == BayState.stopping) = false := by
      show (x.state == _) = false
      rcases hst with h | ⟨h, _⟩ <;> rw [h] <;> rfl
    refine ⟨_, c.dismissed false, hends (t := t) hf rfl (by rw [frameDone_dismiss, hrunning]; exact ht), honly, hkeys, ?_, rfl, rfl⟩
    rw [beginFrame_bay]; exact hctx
  · have hrunning : ((x.gapped s.time rate).state == BayState.stopping) = false := by
      show (x.state == _) = false
      rw [hst]; rfl
    obtain ⟨y, hy⟩ : ∃ y, y = (x.gapped s.time rate).updCtx c.addr (Context.dismissed false) := ⟨_, rfl⟩
    have hdone : y.allDone = true := List.all_eq_true.2 fun e he => by
      rw [hy] at he
      rcases mem_updCtx he with ⟨hne, he⟩ | ⟨d, _, _, rfl⟩
      · simpa using (hall e he).resolve_left hne
      · rfl
    have hend := dismiss_ends (s := s) (b := b) (y := y) hq (by rw [hy]; exact hst) hdone
    have hframe : BayFrame b s ((s.setBay b y).normalEnd b) := (setBay_frame b y s).trans (normalEnd_frame _ b)
    have hbatch : y.batch = x.batch := by rw [hy]; rfl
    refine ⟨_, hends hf rfl (by rw [frameDone_dismiss, hrunning, ← hy]; exact hend), hframe.event.1, hframe.event.2, ?_⟩
    rw [beginFrame_bay, beginFrame_report, normalEnd_bay, normalEnd_records, bay_setBay_same, hbatch]
    exact ⟨rfl, rfl, rfl, by rw [hy]; rfl, rfl⟩
  · obtain ⟨_, hq, hst, hcause, hreason, hf⟩ := habort
    intro t
    have howes : (s.bay b).owesReset = true := aborted_owes hcause (by simp [hreason])
    have hstopping : ((x.gapped s.time rate).state == BayState.stopping) = true := beq_iff_eq.2 hst
    refine ⟨hends hf rfl ?_, fun e he => ?_⟩
    · rw [frameDone_dismiss, hstopping]
      exact work_stopped (y := (x.gapped s.time rate).updCtx c.addr (Context.dismissed true)) hst
        howes hq
    · refine inUse_of_ctx (b := b) (a := c.addr) (c := c.dismissed true) ?_ he rfl
      rw [beginFrame_bay, bay_setBay_same]
      exact ctx_updCtx_same (x := { x with line := x.line.resets s.time rate }) hc fun _ => rfl
  · obtain ⟨_, hq, hst, hcause, hreason, hf⟩ := habort
    have howes : (s.bay b).owesReset = true := aborted_owes hcause (by simp [hreason])
    have hframe := setBay_frame b { (x.gapped s.time rate).fastLine with line := (x.gapped s.time rate).fastLine.line.startReset s.time } s
    refine ⟨_, hends hf (by rw [hk]; rfl) (by
      rw [frameDone_rate hk]
      exact work_stopped (y := (x.gapped s.time rate).fastLine) hst howes hq),
      hframe.event.1, hframe.event.2, by rw [beginFrame_report]; rfl, ?_⟩
    rw [beginFrame_bay, bay_setBay_same]
    exact ⟨hst, rfl, rfl⟩
  · intro passed
    have htx' : (s.bay b).line.tx = .frame f rate sentAt false := htx
    have hexec : exec (.dataEndPassed (.bay b)) s = .next (s.setBay b x.passDataEnd).beginFrame := by
      refine (event_powered _ hp).trans (congrArg (fun t : State => Host.Outcome.next t.beginFrame) ?_)
      simp only [State.bayDataEnd, htx', hdraws, Bool.not_false, Bool.and_true, if_true]
      rfl
    refine ⟨fun hk => ?_, fun a hk ha => ?_⟩
    · have hpass : x.passDataEnd = passed := by
        unfold Bay.passDataEnd
        rw [htx]
        dsimp only
        split
        · next h _ => exact absurd h hk
        · rfl
      rw [hexec, hpass]
    · have hpass : x.passDataEnd = passed.updCtx a (fun c => { c with commitSent := true }) := by
        simp only [Bay.passDataEnd, htx, hk, to_of_addr ha]
        rfl
      rw [hexec, hpass]

end Sys2Proof.Machine

/-! Completed derivations (R16, R17, R21, R23, R102 to R108, R111, R114): what the bay does with the key, and with the results, of its
terminal in hand. -/

namespace Sys2Proof.Machine

/-! ### What prepare-ahead changes -/

/-- Requests placed, and buffers reserved for them: nothing else has changed (R23). -/
structure Topped (b : BayId) (s t : State) : Prop where
  queue : ∃ more, t.cipher.queue = s.cipher.queue ++ more
  running : t.cipher.running = s.cipher.running
  holders : t.cipher.holders = s.cipher.holders
  bay : ∃ buffers, t.bay b = { s.bay b with buffers := buffers }

theorem Topped.refl (b : BayId) (s : State) : Topped b s s := ⟨⟨[], (List.append_nil _).symm⟩, rfl, rfl, _, rfl⟩

theorem Topped.trans {b : BayId} {s t u : State} (h : Topped b s t) (k : Topped b t u) : Topped b s u := by
  obtain ⟨more, hmore⟩ := h.queue
  obtain ⟨more', hmore'⟩ := k.queue
  obtain ⟨_, hb⟩ := h.bay
  obtain ⟨bufs', hb'⟩ := k.bay
  exact ⟨⟨more ++ more', by rw [hmore', hmore, List.append_assoc]⟩, k.running.trans h.running, k.holders.trans h.holders, bufs',
    by rw [hb', hb]⟩

theorem place_queue (job : CipherJob) (urgent : Bool) (c : Cipher) : ∃ more, (c.place job urgent).queue = c.queue ++ more := by
  rcases place_cases job urgent c with ⟨_, h⟩ | ⟨_, h⟩ <;> rw [h]
  · exact ⟨_, rfl⟩
  · exact ⟨[], (List.append_nil _).symm⟩

theorem place_topped {s t : State} {b : BayId} {job : CipherJob} {urgent : Bool} (h : Topped b s t) :
    Topped b s { t with cipher := t.cipher.place job urgent } :=
  h.trans ⟨place_queue _ _ _, place_running _ _ _, place_holders _ _ _, _, rfl⟩

theorem placePrepare_topped (s : State) (b : BayId) (c : Context) (p : Profile) (d : Descriptor) (pos : Nat) (urgent : Bool) :
    Topped b s (s.placePrepare b c p d pos urgent) := by
  unfold State.placePrepare
  split
  · exact .refl b s
  · exact place_topped ⟨⟨[], (List.append_nil _).symm⟩, rfl, rfl, _, bay_updBay_same s b _⟩

theorem aheadNext_topped (s : State) (b : BayId) (c : Context) : Topped b s (s.aheadNext b c) := by
  unfold State.aheadNext
  split
  · exact .refl b s
  split
  · split
    · exact .refl b s
    · exact place_topped (.refl b s)
  split
  · exact .refl b s
  split
  · exact .refl b s
  · exact placePrepare_topped s b c _ _ _ _

theorem aheadOnce_topped (s : State) (b : BayId) : Topped b s (s.aheadOnce b) := by
  unfold State.aheadOnce
  split
  · exact .refl b s
  split
  · exact .refl b s
  split
  · split
    · split
      · exact placePrepare_topped s b _ _ _ _ _
      · exact .refl b s
    · split
      · exact aheadNext_topped s b _
      · exact .refl b s
  · exact .refl b s

/-- With prepare-ahead OFF nothing is placed ahead (R23). -/
theorem aheadOnce_off {s : State} {b : BayId} {c : Context} {p : Profile} (hc : (s.bay b).handCtx = some c) (hp : s.profileOf c = some p)
    (hoff : p.ahead = false) : s.aheadOnce b = s := by
  simp [State.aheadOnce, hc, hp, hoff]

/-- Two requests outstanding are enough (R23). -/
theorem aheadOnce_full {s : State} {b : BayId} (h : 2 ≤ s.cipher.outstandingOf b) : s.aheadOnce b = s := by
  unfold State.aheadOnce
  split
  · rfl
  split
  · rfl
  · exact if_neg (by simp [Nat.not_lt.2 h])

/-! ### The terminal in hand worked -/

theorem takeInHand_of_hand {x : Bay} {a : Addr} (h : x.batch.hand = some a) : x.takeInHand = x := by
  simp [Bay.takeInHand, h]

/-- A context in LOADING at its first position (R16). -/
def Context.opened (c : Context) : Context := { c with phase := .loading, posIndex := 1, attempts := 0, deferrals := 0 }

/-- The key held, the terminal in hand goes on to LOADING (R16). -/
theorem workTransport_held {s : State} {b : BayId} {c : Context} (hc : (s.bay b).handCtx = some c) (hphase : c.phase = .transport)
    (hheld : (s.cipher.holder b c.addr).isSome = true) :
    s.workTransport b = s.updBay b (fun x => x.updCtx c.addr Context.opened) := by
  simp only [State.workTransport, hc, hphase, hheld, ne_eq, not_true_eq_false, if_false, if_true]
  rfl

theorem workTransport_other {s : State} {b : BayId} {c : Context} (hc : (s.bay b).handCtx = some c) (hphase : c.phase ≠ .transport) :
    s.workTransport b = s := by
  simp [State.workTransport, hc, hphase]

/-- A position with no result and no request, a buffer free: its PREPARE is placed URGENT (R17). -/
theorem workLoading_places {s : State} {b : BayId} {c : Context} {p : Profile} {d : Descriptor} {pos : Nat}
    (hc : (s.bay b).handCtx = some c) (hphase : c.phase = .loading) (hp : s.profileOf c = some p) (hnext : c.nextPosition p = some (d, pos))
    (hresult : (s.bay b).result c.addr pos = none) (hnone : s.cipher.outstanding (CipherJob.isPrepareFor b c.addr pos) = false)
    (hfree : (s.bay b).hasFreeBuffer = true) : s.workLoading b =
      (s.updBay b (fun x => x.updCtx c.addr (fun c => { c with posIndex := pos }))).placePrepare b c p d pos true := by
  obtain ⟨t, ht⟩ : ∃ t, t = s.updBay b (fun x => x.updCtx c.addr (fun c => { c with posIndex := pos })) := ⟨_, rfl⟩
  have hbay : t.bay b = (s.bay b).updCtx c.addr (fun c => { c with posIndex := pos }) := by rw [ht, bay_updBay_same]
  have h1 : (t.bay b).result c.addr pos = none := by rw [hbay]; exact hresult
  have h2 : t.cipher.outstanding (CipherJob.isPrepareFor b c.addr pos) = false := by rw [ht]; exact hnone
  have h3 : (t.bay b).hasFreeBuffer = true := by rw [hbay]; exact hfree
  simp only [State.workLoading, hc, hphase, hp, hnext, ne_eq, not_true_eq_false, if_false, ← ht, h1, h2, h3, Option.isSome_none,
    Bool.false_eq_true, if_true]

/-- A position whose PREPARE is outstanding has it raised to URGENT where it stands (R17, R102). -/
theorem workLoading_raises {s : State} {b : BayId} {c : Context} {p : Profile} {d : Descriptor} {pos : Nat}
    (hc : (s.bay b).handCtx = some c) (hphase : c.phase = .loading) (hp : s.profileOf c = some p) (hnext : c.nextPosition p = some (d, pos))
    (hresult : (s.bay b).result c.addr pos = none) (hout : s.cipher.outstanding (CipherJob.isPrepareFor b c.addr pos) = true) :
    s.workLoading b = { s.updBay b (fun x => x.updCtx c.addr (fun c => { c with posIndex := pos })) with
      cipher := s.cipher.raise (CipherJob.isPrepareFor b c.addr pos) } := by
  obtain ⟨t, ht⟩ : ∃ t, t = s.updBay b (fun x => x.updCtx c.addr (fun c => { c with posIndex := pos })) := ⟨_, rfl⟩
  have h1 : (t.bay b).result c.addr pos = none := by rw [ht, bay_updBay_same]; exact hresult
  have h2 : t.cipher.outstanding (CipherJob.isPrepareFor b c.addr pos) = true := by rw [ht]; exact hout
  simp only [State.workLoading, hc, hphase, hp, hnext, ne_eq, not_true_eq_false, if_false, ← ht, h1, h2, Option.isSome_none,
    Bool.false_eq_true, if_true]
  rw [ht]; rfl

/-! ### A frame sent -/

/-- What a frame's sending leaves of a context (R5, R22). -/
structure Sent (c d : Context) : Prop where
  phase : d.phase = c.phase
  posIndex : d.posIndex = c.posIndex
  outcome : d.outcome = c.outcome

theorem send_ctx {x : Bay} {a : Addr} {c : Context} (now : Nat) (f : LineFrame) (hc : x.ctx a = some c) :
    ∃ d, (x.send now f).ctx a = some d ∧ Sent c d := by
  obtain ⟨y, hy⟩ : ∃ y : Bay, y = { x with line := x.line.transmit (.frame f x.line.rate now false) now } := ⟨_, rfl⟩
  have hyc : y.ctx a = some c := by rw [hy]; exact hc
  have hupd : ∃ d, (match f.to with | some a => y.updCtx a (Context.addressed now f.kind) | none => y).ctx a = some d ∧ Sent c d := by
    split
    · next a' _ =>
      rw [ctx_updCtx y a' a (f := Context.addressed now f.kind) (fun _ => rfl), hyc]
      split
      · exact ⟨_, rfl, rfl, rfl, rfl⟩
      · exact ⟨c, rfl, rfl, rfl, rfl⟩
    · exact ⟨c, hyc, rfl, rfl, rfl⟩
  unfold Bay.send
  rw [← hy]
  dsimp only
  split
  · exact hupd
  · exact hupd

theorem sendNext_ctx {s : State} {b : BayId} {a : Addr} {c : Context} (hc : (s.bay b).ctx a = some c) :
    ∃ d, ((s.sendNext b).bay b).ctx a = some d ∧ Sent c d := by
  unfold State.sendNext
  dsimp only
  split
  · split
    · rw [bay_updBay_same]; exact send_ctx _ _ hc
    · exact ⟨c, hc, rfl, rfl, rfl⟩
  · exact ⟨c, hc, rfl, rfl, rfl⟩

theorem WorkPath.frame {b : BayId} {s t : State} (h : WorkPath b s t) : BayFrame b s t :=
  h.keeps (P := fun t => BayFrame b s t) (fun _ _ hm ht => ht.trans hm.frame) (.refl b s)

/-- An outcome once decided stays through every step of the work. -/
theorem BayStep.outcome {b : BayId} {s t : State} (h : BayStep b s t) {a : Addr} {v : Verdict}
    (hs : ∃ c, (s.bay b).ctx a = some c ∧ c.outcome = some v ∧ c.phase ≠ .done) :
    ∃ c, (t.bay b).ctx a = some c ∧ c.outcome = some v ∧ c.phase ≠ .done := by
  obtain ⟨c, hc, ho, hnd⟩ := hs
  have hquiet : QuietStep b s t → ∃ c, (t.bay b).ctx a = some c ∧ c.outcome = some v ∧ c.phase ≠ .done := fun h => by
    obtain ⟨d, hd, hlater⟩ := h.ctx hc
    exact ⟨d, hd, hlater.outcome v ho, hlater.phase hnd⟩
  cases h with
  | move h =>
    cases h with
    | load h => exact hquiet (.load h)
    | send _ _ =>
      rw [bay_updBay_same]
      obtain ⟨d, hd, hsent⟩ := send_ctx s.time _ hc
      exact ⟨d, hd, hsent.outcome.trans ho, fun h => hnd (hsent.phase.symm.trans h)⟩
    | finish _ done => simp [allDone_false hc hnd] at done
  | fail idle mem job context check => exact hquiet (.fail idle mem job context check)

/-! ### TRANSPORT_COMPLETE -/

/-- The state with a TRANSPORT over: its key held, the engine free (R105, R108). -/
def State.keyed (b : BayId) (a : Addr) (working : Key) (s : State) : State :=
  { s with cipher := { s.cipher.setHolder b a (some working) with running := none } }

/-- A bay that opens the key set of its terminal in hand at a position, whose PREPARE it asks for (R16, R17). -/
def Bay.preparing (a : Addr) (pos : Nat) (x : Bay) : Bay :=
  { (x.updCtx a Context.opened).updCtx a (fun c => { c with posIndex := pos }) with buffers := [.reserved a pos, .free] }

theorem ctx_preparing {x : Bay} {a : Addr} {c : Context} (pos : Nat) (hc : x.ctx a = some c) :
    (x.preparing a pos).ctx a = some { c.opened with posIndex := pos } :=
  ctx_updCtx_same (x := x.updCtx a Context.opened) (f := fun c => { c with posIndex := pos })
    (ctx_updCtx_same (f := Context.opened) hc fun _ => rfl) fun _ => rfl

theorem transportComplete_eq {s : State} {b : BayId} {c : Context} {k : SlotId} {key : Key} {gen : Generation} {urgent : Bool}
    (hp : s.powered = true) (hw : s.cipher.waiting = [])
    (hrun : s.cipher.running = some { job := .transport b c.addr c.serial k, urgent := urgent, withdrawn := false, material := .slot key gen }) :
    exec .transportComplete s = .next ((s.keyed b c.addr (derivedKey key c.serial 0x00#8 gen)).work [b]).beginFrame := by
  refine (event_powered _ hp).trans (congrArg (fun t : State => Host.Outcome.next t.beginFrame) ?_)
  simp only [State.complete, hrun]
  refine congrArg (fun t : State => t.work [b]) ?_
  exact congrArg (fun c => { s with cipher := c })
    (examine_nil (c := { s.cipher.setHolder b c.addr (some (derivedKey key c.serial 0x00#8 gen)) with running := none }) hw)

section Opens
variable {s : State} {b : BayId} {c : Context} {p : Profile} {d : Descriptor} {pos : Nat} {slot : SlotId}
  (hhand : (s.bay b).batch.hand = some c.addr) (hc : (s.bay b).ctx c.addr = some c) (hphase : c.phase = .transport)
  (hp : s.profileOf c = some p) (hheld : (s.cipher.holder b c.addr).isSome = true) (hempty : CipherEmpty s)
  (hbuf : (s.bay b).buffers = [.free, .free]) (hnext : ({ c with posIndex := 1 } : Context).nextPosition p = some (d, pos))
  (haction : d.action = .derive slot)

/-- The URGENT PREPARE of a position of the terminal in hand (R17). -/
def urgentPrepare (b : BayId) (c : Context) (p : Profile) (d : Descriptor) (pos : Nat) (slot : SlotId) : CipherRequest :=
  { job := .prepare b c.addr pos c.serial d.tag slot p.parity, urgent := true }

/-- That PREPARE running with the values read at its start (R104). -/
def urgentRun (b : BayId) (c : Context) (p : Profile) (d : Descriptor) (pos : Nat) (slot : SlotId) (m : Material) : Running :=
  { job := (urgentPrepare b c p d pos slot).job, urgent := true, withdrawn := false, material := m }

/-- The state with the PREPARE of the first position placed. -/
def State.opening (b : BayId) (c : Context) (p : Profile) (d : Descriptor) (pos : Nat) (slot : SlotId) (s : State) : State :=
  { s.setBay b ((s.bay b).preparing c.addr pos) with
    cipher := { s.cipher with queue := [urgentPrepare b c p d pos slot] } }

include hhand hc hphase hp hheld hempty hbuf hnext haction

/-- The key held, the terminal in hand asks for its first position, and prepare-ahead goes on from there (R16, R17, R23). -/
theorem workHand_opens : s.workHand b = ((s.opening b c p d pos slot).aheadOnce b).aheadOnce b := by
  obtain ⟨hr, hq, hw⟩ := hempty
  have htake : s.updBay b Bay.takeInHand = s := by
    rw [State.updBay, takeInHand_of_hand hhand, setBay_self]
  have hhandctx : (s.bay b).handCtx = some c := handCtx_eq_some_iff.2 ⟨hhand, hc⟩
  obtain ⟨t, ht⟩ : ∃ t, t = s.updBay b (fun x => x.updCtx c.addr Context.opened) := ⟨_, rfl⟩
  have hbay : t.bay b = (s.bay b).updCtx c.addr Context.opened := by rw [ht, bay_updBay_same]
  have htctx : (t.bay b).handCtx = some c.opened := by rw [hbay]; exact handCtx_updCtx hhandctx fun _ => rfl
  have htnext : c.opened.nextPosition p = some (d, pos) := hnext
  have hload := workLoading_places (s := t) (b := b) (c := c.opened) (p := p) (d := d) (pos := pos) htctx rfl (by rw [ht]; exact hp) htnext
    (by rw [hbay]; show (s.bay b).buffers.findSome? _ = none; rw [hbuf]; rfl)
    (by rw [ht]; show s.cipher.outstanding _ = false; simp [Cipher.outstanding, hr, hq, hw])
    (by rw [hbay]; show (s.bay b).buffers.contains _ = true; rw [hbuf]; rfl)
  have hopening : t.workLoading b = s.opening b c p d pos slot := by
    rw [hload]
    simp only [State.placePrepare, haction]
    have hplace : t.cipher.place (urgentPrepare b c p d pos slot).job true =
        { s.cipher with queue := [urgentPrepare b c p d pos slot] } := by
      rw [ht]; exact place_of_empty hr hq _ _
    have hreserve : reserveBuffer c.addr pos (s.bay b).buffers = [.reserved c.addr pos, .free] := by rw [hbuf]; rfl
    have hset : ((t.updBay b (fun x => x.updCtx c.addr (fun c => { c with posIndex := pos }))).updBay b
        (fun x => { x with buffers := reserveBuffer c.addr pos x.buffers })) = s.setBay b ((s.bay b).preparing c.addr pos) := by
      rw [ht, updBay_updBay, updBay_updBay, State.updBay, Bay.preparing, ← hreserve]
      rfl
    exact (congrArg (fun v : State => { v with cipher := t.cipher.place (urgentPrepare b c p d pos slot).job true }) hset).trans
      (congrArg (fun k : Cipher => { s.setBay b ((s.bay b).preparing c.addr pos) with cipher := k }) hplace)
  simp only [State.workHand]
  rw [htake, workTransport_held hhandctx hphase hheld, ← ht, hopening]

end Opens

/-! ### Prepare-ahead after it -/

/-- A second request of a bay is admitted to the queue (R100). -/
theorem place_of_one {c : Cipher} {u : CipherRequest} (hr : c.running = none) (hq : c.queue = [u]) (job : CipherJob) (urgent : Bool) :
    c.place job urgent = { c with queue := [u, { job := job, urgent := urgent }] } := by
  have hadmits : c.admits job = true := by
    cases hb : job.bay with
    | none => simp [Cipher.admits, Cipher.held, hr, hq, hb, Config.cipherPlaces]
    | some b =>
      have hle : [u].countP (fun r => r.job.bay == some b) ≤ 1 := List.countP_le_length
      simp only [Cipher.admits, Cipher.held, Cipher.heldBy, hr, hq, hb, Config.cipherPlaces, Config.bayShare, Bool.and_eq_true,
        decide_eq_true_eq]
      exact ⟨by simp, by omega⟩
  simp [Cipher.place, hadmits, hq]

/-- What prepare-ahead finds next in the key set, the first position being asked for, is the next position after it (R23). -/
theorem unprepared_after {x : Bay} {c e : Context} {p : Profile} {d : Descriptor} {pos : Nat}
    (hnext : ({ c with posIndex := 1 } : Context).nextPosition p = some (d, pos)) (haddr : e.addr = c.addr) (hconf : e.confirmed = c.confirmed)
    (hbuf : x.buffers = [.reserved c.addr pos, .free]) :
    x.unprepared e p = ({ c with posIndex := pos + 1 } : Context).nextPosition p := by
  refine List.find?_congr fun y hy => ?_
  have hbound : x.bufferBound e.addr y.2 = (pos == y.2) := by
    simp [Bay.bufferBound, hbuf, haddr, Buffer.owner]
  rw [hbound, hconf]
  obtain ⟨-, before, after, hlist, hbefore⟩ := List.find?_eq_some_iff_append.1 hnext
  have hpw := numbered_pairwise p
  rw [hlist] at hpw hy
  rcases List.mem_append.1 hy with hmem | hmem
  · have hone : 1 ≤ y.2 := List.le_snd_of_mem_zipIdx (show y ∈ p.numbered by rw [hlist]; exact List.mem_append_left _ hmem)
    have hno : ((decide (1 ≤ y.2) && y.1.derives) && ((c.confirmed[y.2 - 1]?).join).isNone) = false := by
      have h := hbefore y hmem
      rwa [Bool.not_eq_true'] at h
    have hno : (y.1.derives && ((c.confirmed[y.2 - 1]?).join).isNone) = false := by simpa [hone] using hno
    simp [hno, Bool.and_assoc]
  · have hle : pos ≤ y.2 := by
      rcases List.mem_cons.1 hmem with rfl | hafter
      · exact Nat.le_refl _
      · exact Nat.le_of_lt ((List.pairwise_cons.1 (List.pairwise_append.1 hpw).2.1).1 y hafter)
    have hiff : (!(pos == y.2)) = decide (pos + 1 ≤ y.2) := by
      rw [Bool.eq_iff_iff]
      simp
      omega
    rw [hiff]
    cases decide (pos + 1 ≤ y.2) <;> simp

section Ahead
variable {s : State} {b : BayId} {c : Context} {p : Profile} {d : Descriptor} {pos : Nat} {slot : SlotId}

theorem opening_bay : (s.opening b c p d pos slot).bay b = (s.bay b).preparing c.addr pos := bay_setBay_same s b _

/-- Prepare-ahead places one more request, and with two outstanding stops (R23). -/
theorem ahead_once (hempty : CipherEmpty s) {o : CipherRequest} (ho : o.job.bay = some b)
    (h : ((s.opening b c p d pos slot).aheadOnce b).cipher = { s.cipher with queue := [urgentPrepare b c p d pos slot, o] }) :
    (((s.opening b c p d pos slot).aheadOnce b).aheadOnce b).cipher.queue = [urgentPrepare b c p d pos slot, o] := by
  obtain ⟨hr, hq, hw⟩ := hempty
  rw [aheadOnce_full, h]
  rw [h]
  have hu : (urgentPrepare b c p d pos slot).job.bay = some b := rfl
  simp [Cipher.outstandingOf, hu, ho, hr, hw]

variable (hhand : (s.bay b).batch.hand = some c.addr) (hc : (s.bay b).ctx c.addr = some c) (hp : s.profileOf c = some p)
include hhand hc

theorem opening_handCtx : ((s.opening b c p d pos slot).bay b).handCtx = some { c.opened with posIndex := pos } := by
  rw [opening_bay, handCtx_eq_some_iff]
  exact ⟨hhand, ctx_preparing pos hc⟩

include hp

theorem ahead_off (hoff : p.ahead = false) :
    (((s.opening b c p d pos slot).aheadOnce b).aheadOnce b) = s.opening b c p d pos slot := by
  have h : (s.opening b c p d pos slot).aheadOnce b = s.opening b c p d pos slot := aheadOnce_off (opening_handCtx hhand hc) hp hoff
  rw [h, h]

variable (hempty : CipherEmpty s) (hnext : ({ c with posIndex := 1 } : Context).nextPosition p = some (d, pos)) (hon : p.ahead = true)
include hempty hnext hon

theorem ahead_position {d' : Descriptor} {pos' : Nat} {slot' : SlotId} (hheld : (s.cipher.holder b c.addr).isSome = true)
    (hafter : ({ c with posIndex := pos + 1 } : Context).nextPosition p = some (d', pos')) (haction : d'.action = .derive slot') :
    (((s.opening b c p d pos slot).aheadOnce b).aheadOnce b).cipher.queue = [urgentPrepare b c p d pos slot,
      { job := .prepare b c.addr pos' c.serial d'.tag slot' p.parity, urgent := false }] := by
  refine ahead_once hempty rfl ?_
  obtain ⟨hr, hq, hw⟩ := hempty
  have hhandctx := opening_handCtx (p := p) (d := d) (pos := pos) (slot := slot) hhand hc
  have hprofile : (s.opening b c p d pos slot).profileOf { c.opened with posIndex := pos } = some p := hp
  have hunprepared : ((s.opening b c p d pos slot).bay b).unprepared { c.opened with posIndex := pos } p = some (d', pos') :=
    (unprepared_after (c := c) hnext rfl rfl (by rw [opening_bay]; rfl)).trans hafter
  have hone : (s.opening b c p d pos slot).cipher.outstandingOf b < 2 := by
    have hu : (urgentPrepare b c p d pos slot).job.bay = some b := rfl
    simp [Cipher.outstandingOf, State.opening, hr, hw, hu]
  have hfree : ((s.opening b c p d pos slot).bay b).hasFreeBuffer = true := by rw [opening_bay]; rfl
  have hheld' : ((s.opening b c p d pos slot).cipher.holder b c.opened.addr).isSome = true := hheld
  simp only [State.aheadOnce, hhandctx, hprofile, hon, hone, decide_true, Bool.and_self, if_true, hunprepared]
  rw [if_pos (Bool.and_eq_true_iff.2 ⟨hheld', hfree⟩)]
  simp only [State.placePrepare, haction]
  exact place_of_one (c := (s.opening b c p d pos slot).cipher) hr rfl _ _

theorem ahead_context {n : Context} {q : Profile} (hafter : ({ c with posIndex := pos + 1 } : Context).nextPosition p = none)
    (hn : (s.bay b).nextAhead c.addr = some n) (hq' : s.profileOf n = some q) (hnone : s.cipher.holder b n.addr = none) :
    (((s.opening b c p d pos slot).aheadOnce b).aheadOnce b).cipher.queue = [urgentPrepare b c p d pos slot,
      { job := .transport b n.addr n.serial q.transportSlot, urgent := false }] := by
  refine ahead_once hempty rfl ?_
  obtain ⟨hr, hq, hw⟩ := hempty
  have hhandctx := opening_handCtx (p := p) (d := d) (pos := pos) (slot := slot) hhand hc
  have hprofile : (s.opening b c p d pos slot).profileOf { c.opened with posIndex := pos } = some p := hp
  have hunprepared : ((s.opening b c p d pos slot).bay b).unprepared { c.opened with posIndex := pos } p = none :=
    (unprepared_after (c := c) hnext rfl rfl (by rw [opening_bay]; rfl)).trans hafter
  have hone : (s.opening b c p d pos slot).cipher.outstandingOf b < 2 := by
    have hu : (urgentPrepare b c p d pos slot).job.bay = some b := rfl
    simp [Cipher.outstandingOf, State.opening, hr, hw, hu]
  have hahead : ((s.opening b c p d pos slot).bay b).nextAhead c.opened.addr = some n := by
    rw [opening_bay]
    have hupd : ∀ (x : Bay) (f : Context → Context), (∀ e, (f e).addr = e.addr) →
        (x.updCtx c.addr f).nextAhead c.addr = x.nextAhead c.addr := fun x f hf => by
      have hmap : ∀ l : List Context, (l.map (fun e => if e.addr = c.addr then f e else e)).find?
          (fun e => decide (c.addr < e.addr) && e.phase == .enrolled && e.outcome.isNone) =
          l.find? (fun e => decide (c.addr < e.addr) && e.phase == .enrolled && e.outcome.isNone) := fun l => by
        induction l with
        | nil => rfl
        | cons e l ih =>
          rw [List.map_cons, List.find?_cons, List.find?_cons, ih]
          by_cases he : e.addr = c.addr
          · simp [he, hf]
          · rw [if_neg he]
      exact hmap x.contexts
    exact ((hupd _ (fun c => { c with posIndex := pos }) fun _ => rfl).trans (hupd (s.bay b) Context.opened fun _ => rfl)).trans hn
  have hholder : ((s.opening b c p d pos slot).cipher.holder b n.addr).isNone = true := by
    show (s.cipher.holder b n.addr).isNone = true
    rw [hnone]; rfl
  have hout : (s.opening b c p d pos slot).cipher.outstanding (CipherJob.isTransportFor b n.addr) = false := by
    simp [Cipher.outstanding, State.opening, hr, hw, urgentPrepare, CipherJob.isTransportFor]
  have hprofile' : (s.opening b c p d pos slot).profileOf n = some q := hq'
  simp only [State.aheadOnce, hhandctx, hprofile, hon, hone, decide_true, Bool.and_self, if_true, hunprepared, hahead,
    State.aheadNext, hprofile', hholder, hout, Bool.false_eq_true, if_false]
  exact place_of_one (c := (s.opening b c p d pos slot).cipher) hr rfl _ _

end Ahead

/-! ### The engine after it -/

section Starts
variable {s : State} {b : BayId} {c : Context} {p : Profile} {d : Descriptor} {pos : Nat} {slot : SlotId}

/-- The state of a bay that has gone on with its first position asked for. -/
structure Opening (b : BayId) (c : Context) (p : Profile) (d : Descriptor) (pos : Nat) (slot : SlotId) (s v : State) : Prop where
  moves : WorkPath b s v
  running : v.cipher.running = none
  holders : v.cipher.holders = s.cipher.holders
  queue : ∃ more, v.cipher.queue = urgentPrepare b c p d pos slot :: more ∧
    (((s.opening b c p d pos slot).aheadOnce b).aheadOnce b).cipher.queue = urgentPrepare b c p d pos slot :: more
  ctx : ∃ c', (v.bay b).ctx c.addr = some c' ∧ c'.phase = .loading ∧ c'.posIndex = pos ∧ c'.outcome = c.outcome

/-- The bay goes on: its first position asked for, prepare-ahead topped up, the frame due sent. -/
theorem advance_opens (hst : (s.bay b).state = .loading) (hhand : (s.bay b).batch.hand = some c.addr)
    (hc : (s.bay b).ctx c.addr = some c) (hphase : c.phase = .transport) (hp : s.profileOf c = some p)
    (hheld : (s.cipher.holder b c.addr).isSome = true) (hempty : CipherEmpty s) (hbuf : (s.bay b).buffers = [.free, .free])
    (hnext : ({ c with posIndex := 1 } : Context).nextPosition p = some (d, pos)) (haction : d.action = .derive slot) :
    Opening b c p d pos slot s (s.advance b) := by
  have hmoves := advance_moves b s
  have hadvance : s.advance b = (s.workHand b).sendNext b := by
    simp only [State.advance, hst, allDone_false hc (by simp [hphase])]
    rfl
  have hwork := workHand_opens hhand hc hphase hp hheld hempty hbuf hnext haction
  have htopped : Topped b (s.opening b c p d pos slot) (s.workHand b) := by
    rw [hwork]; exact (aheadOnce_topped _ b).trans (aheadOnce_topped _ b)
  obtain ⟨more, hmore⟩ := htopped.queue
  obtain ⟨bufs, hbay⟩ := htopped.bay
  have hcipher : (s.advance b).cipher = (s.workHand b).cipher := by rw [hadvance, sendNext_cipher]
  refine ⟨hmoves, by rw [hcipher, htopped.running]; exact hempty.1, by rw [hcipher, htopped.holders]; rfl,
    ⟨more, by rw [hcipher, hmore]; rfl, by rw [← hwork, hmore]; rfl⟩, ?_⟩
  have hctx : ((s.workHand b).bay b).ctx c.addr = some { c.opened with posIndex := pos } := by
    rw [hbay, opening_bay]; exact ctx_preparing pos hc
  obtain ⟨e, he, hsent⟩ := sendNext_ctx hctx
  rw [hadvance]
  exact ⟨e, he, hsent.phase, hsent.posIndex, hsent.outcome⟩

theorem Opening.choice {v : State} (h : Opening b c p d pos slot s v) : v.cipher.choice = some (urgentPrepare b c p d pos slot) := by
  obtain ⟨more, hq, -⟩ := h.queue
  exact (choice_eq_some_iff _ _).2 ⟨[], more, hq, .inl ⟨rfl, by simp⟩⟩

/-- A start check reads the window, the latch, the slots and the holders. -/
theorem Opening.startCheck {v : State} (h : Opening b c p d pos slot s v) (job : CipherJob) : v.startCheck job = s.startCheck job := by
  have hframe := h.moves.frame
  have hslot : ∀ k, v.slot k = s.slot k := fun k => by rw [State.slot, hframe.keys, State.slot]
  have hholder : ∀ b a, v.cipher.holder b a = s.cipher.holder b a := fun b a => by rw [Cipher.holder, h.holders, Cipher.holder]
  have hlatched : v.latched = s.latched := by rw [State.latched, hframe.enclosure, State.latched]
  cases job <;> simp only [State.startCheck, hframe.window, hlatched, hslot, hholder]

/-- The engine starts the URGENT PREPARE (R103, R104). -/
theorem Opening.starts {m : Material} (h : Opening b c p d pos slot s (s.advance b))
    (hcheck : s.startCheck (urgentPrepare b c p d pos slot).job = .ok (m, some slot)) :
    ∃ t c', s.work [b] = t ∧ OnlyBay b s t.beginFrame ∧ (t.bay b).ctx c.addr = some c' ∧ c'.phase = .loading ∧ c'.posIndex = pos ∧
      t.cipher.holders = s.cipher.holders ∧
      t.cipher.running = some (urgentRun b c p d pos slot m) ∧
      t.slot slot = (s.slot slot).countUse ∧
      (((s.opening b c p d pos slot).aheadOnce b).aheadOnce b).cipher.queue = urgentPrepare b c p d pos slot :: t.cipher.queue := by
  have htake := engineTake_of_ok h.running h.choice ((h.startCheck _).trans hcheck)
  obtain ⟨t, ht⟩ : ∃ t : State, t = { (s.advance b).countUse (some slot) with
      cipher := (s.advance b).cipher.run (urgentPrepare b c p d pos slot) (urgentRun b c p d pos slot m) } := ⟨_, rfl⟩
  have hstarted : (s.advance b).engineTake = .started t := by rw [ht]; exact htake
  have hwork : s.work [b] = t := by
    rw [work_eq_settle, State.settle, hstarted]
  have hended : Ended (s.advance b) t := .inr hstarted
  obtain ⟨more, hq, hmore⟩ := h.queue
  obtain ⟨c', hc', hphase, hpos, -⟩ := h.ctx
  have hslot : (s.advance b).slot slot = s.slot slot := by rw [State.slot, h.moves.frame.keys, State.slot]
  refine ⟨t, c', hwork, hended.event h.moves.frame, by rw [hended.bay]; exact hc', hphase, hpos, by rw [ht]; exact h.holders, by rw [ht]; rfl,
    ?_, ?_⟩
  · rw [ht]
    exact (slot_setSlot (s.advance b) slot slot _).trans (by rw [if_pos rfl, hslot])
  · rw [hmore, ht]
    show _ = _ :: ((s.advance b).cipher.queue.erase _)
    rw [hq, List.erase_cons_head]

theorem settle_ended {s t : State} {r : Running} {reason : FailReason} {n : Nat} (h : s.engineTake = .ended r reason t) :
    s.settle (n + 1) [] = ((t.failRequest r.job reason).freeEngine).settle n r.job.bay.toList := by
  rw [State.settle, h]

/-- A start that fails fails the context (R21, R104). -/
theorem Opening.fails {reason : FailReason} (h : Opening b c p d pos slot s (s.advance b)) (hown : s.cipher.ownedBy b)
    (ho : c.outcome = none) (hcheck : s.startCheck (urgentPrepare b c p d pos slot).job = .error reason) :
    ∃ t c', s.work [b] = t ∧ OnlyBay b s t.beginFrame ∧ (t.bay b).ctx c.addr = some c' ∧ c'.outcome = some (.failed reason) := by
  have htake := engineTake_of_error h.running h.choice ((h.startCheck _).trans hcheck)
  obtain ⟨more, hq, -⟩ := h.queue
  obtain ⟨c', hc', -, -, hout⟩ := h.ctx
  have hmem : urgentPrepare b c p d pos slot ∈ (s.advance b).cipher.queue := by rw [hq]; exact List.mem_cons_self
  obtain ⟨w, hw⟩ : ∃ w : State, w = { s.advance b with
      cipher := (s.advance b).cipher.run (urgentPrepare b c p d pos slot) (urgentRun b c p d pos slot .none) } := ⟨_, rfl⟩
  obtain ⟨v, hv⟩ : ∃ v, v = (w.decideOutcome b c.addr (.failed reason)).freeEngine := ⟨_, rfl⟩
  have hstep : BayStep b (s.advance b) v := by
    rw [hv, hw]
    exact .fail (a := c.addr) h.running hmem rfl rfl ((h.startCheck _).trans hcheck)
  have hwork : s.work [b] = v.settle 158 [b] := by
    rw [work_eq_settle]
    exact (settle_ended htake).trans (by rw [hv, hw]; rfl)
  have hdecided : ∃ e, (v.bay b).ctx c.addr = some e ∧ e.outcome = some (.failed reason) ∧ e.phase ≠ .done := by
    obtain ⟨e, he, -, heo, hephase⟩ := decideOutcome_ctx_later (s := w) (b := b) (.failed reason) (by rw [hw]; exact hc')
      (hout.trans ho)
    exact ⟨e, by rw [hv]; exact he, heo, by simp [hephase]⟩
  have hownv : v.cipher.ownedBy b := by
    refine hstep.ownedBy ?_
    exact h.moves.keeps (P := fun t => t.cipher.ownedBy b) (fun _ _ hm ht => BayStep.ownedBy (.move hm) ht) hown
  obtain ⟨u, ⟨e, he, heo, -⟩, hframe, hend⟩ := settle_bay (b := b) (P := fun u => ∃ e, (u.bay b).ctx c.addr = some e ∧
    e.outcome = some (.failed reason) ∧ e.phase ≠ .done) (fun _ _ h hs => h.outcome hs) 158 [b] (by simp) hownv hdecided
  have hended : Ended u (s.work [b]) := by rw [hwork]; exact hend
  exact ⟨_, e, rfl, hended.event ((h.moves.frame.trans hstep.frame).trans hframe), by rw [hended.bay]; exact he, heo⟩

end Starts

end Sys2Proof.Machine

/-! Completed derivations, continued: PREPARE_COMPLETE (R111), the raising of a request to URGENT (R102), and the obligation. -/

namespace Sys2Proof.Machine

/-! ### PREPARE_COMPLETE -/

/-- The result in its buffer is the one held for its position (R111). -/
theorem result_fillBuffer {x : Bay} {a : Addr} {pos : Nat} {r : Prepared} (hnone : x.result a pos = none)
    (hmem : Buffer.reserved a pos ∈ x.buffers) : (x.fillBuffer a pos r).result a pos = some r := by
  have hlist : ∀ l : List Buffer,
      l.findSome? (fun f => match f with | .holds a' pos' r => if a' = a ∧ pos' = pos then some r else none | _ => none) = none →
      Buffer.reserved a pos ∈ l →
      (l.map (fun f => if f = .reserved a pos then Buffer.holds a pos r else f)).findSome?
        (fun f => match f with | .holds a' pos' r => if a' = a ∧ pos' = pos then some r else none | _ => none) = some r := fun l hl hm => by
    induction l with
    | nil => simp at hm
    | cons f l ih =>
      rw [List.findSome?_cons] at hl
      rw [List.map_cons, List.findSome?_cons]
      by_cases hf : f = .reserved a pos
      · simp [hf]
      · have hml := (List.mem_cons.1 hm).resolve_left (Ne.symm hf)
        cases f with
        | free => simpa using ih hl hml
        | reserved _ _ => simpa [hf] using ih hl hml
        | holds a' pos' r' =>
          by_cases heq : a' = a ∧ pos' = pos
          · simp [heq] at hl
          · simp only [heq, if_false] at hl
            simpa [heq] using ih hl hml
  exact hlist x.buffers hnone hmem

/-- The state with a PREPARE over: its result held, the engine free (R105, R111). -/
def State.preparedFor (b : BayId) (a : Addr) (pos : Nat) (r : Prepared) (s : State) : State :=
  { s.updBay b (fun x => x.fillBuffer a pos r) with cipher := s.cipher.ended }

theorem prepareComplete_eq {s : State} {b : BayId} {c : Context} {pos : Nat} {tag : Byte} {slot : SlotId} {parity : Parity} {key working : Key}
    {gen : Generation} {urgent : Bool} (hp : s.powered = true) (hw : s.cipher.waiting = [])
    (hrun : s.cipher.running = some { job := .prepare b c.addr pos c.serial tag slot parity, urgent := urgent, withdrawn := false
                                      material := .slotAndTransport key gen working }) :
    exec .prepareComplete s =
      .next ((s.preparedFor b c.addr pos (prepare key working c.serial tag gen parity)).work [b]).beginFrame := by
  refine (event_powered _ hp).trans (congrArg (fun t : State => Host.Outcome.next t.beginFrame) ?_)
  simp only [State.complete, hrun]
  refine congrArg (fun t : State => t.work [b]) ?_
  exact congrArg (fun k => { s.updBay b (fun x => x.fillBuffer c.addr pos (prepare key working c.serial tag gen parity)) with cipher := k })
    (examine_nil (c := s.cipher.ended) hw)

/-- The result of the position worked goes out as its KEY frame (R17, R111). -/
theorem prepareComplete_sends {s : State} {b : BayId} {c : Context} {p : Profile} {d : Descriptor} {slot : SlotId} {key working : Key}
    {gen : Generation} {urgent : Bool} (hp : s.powered = true) (hst : (s.bay b).state = .loading)
    (hhand : (s.bay b).batch.hand = some c.addr) (hc : (s.bay b).ctx c.addr = some c) (ho : c.outcome = none)
    (hprof : s.profileOf c = some p) (hq : s.cipher.queue = []) (hw : s.cipher.waiting = []) (hphase : c.phase = .loading)
    (hnext : c.nextPosition p = some (d, c.posIndex))
    (hrun : s.cipher.running = some { job := .prepare b c.addr c.posIndex c.serial d.tag slot p.parity, urgent := urgent, withdrawn := false
                                      material := .slotAndTransport key gen working })
    (hnone : (s.bay b).result c.addr c.posIndex = none) (hmem : Buffer.reserved c.addr c.posIndex ∈ (s.bay b).buffers)
    (honlyBatch : (s.bay b).onlyBatchFrame) (hready : (s.bay b).lineReady) (hrate : (s.bay b).rateOwed = false)
    (hresend : (s.bay b).resendAt = none) :
    ∃ t c', exec .prepareComplete s = .next t ∧ OnlyBay b s t ∧
      (p.ahead = false → t.keys = s.keys ∧ t.cipher.running = none) ∧
      (t.bay b).line.tx =
        .frame (keyFrame c.addr (prepare key working c.serial d.tag gen p.parity)) (s.bay b).line.rate s.time false ∧
      (t.bay b).ctx c.addr = some c' ∧ c'.attemptsTotal = c.attemptsTotal + 1 ∧ c'.lastAddressed = s.time := by
  obtain ⟨r, hr⟩ : ∃ r, r = prepare key working c.serial d.tag gen p.parity := ⟨_, rfl⟩
  rw [← hr]
  obtain ⟨s1, hs1⟩ : ∃ s1, s1 = s.preparedFor b c.addr c.posIndex r := ⟨_, rfl⟩
  have hbay : s1.bay b = (s.bay b).fillBuffer c.addr c.posIndex r := by rw [hs1]; exact bay_updBay_same s b (fun x => x.fillBuffer c.addr c.posIndex r)
  have hdue : KeyDue s1 b c p d r (s.bay b).line := by
    constructor
    case phase => exact hphase
    case profile => rw [hs1]; exact hprof
    case next => exact hnext
    all_goals rw [hbay]
    · exact hst
    · exact hhand
    · exact hc
    · exact result_fillBuffer hnone hmem
    · exact hresend
    · exact hrate
    · exact honlyBatch
    · rfl
  have hframe : BayFrame b s s1 := by
    rw [hs1]; exact (setBay_frame b _ s).trans (cipher_frame b _ _)
  have hempty : CipherEmpty s1 := by rw [hs1]; exact ⟨rfl, hq, hw⟩
  obtain ⟨u, c', hended, huframe, htx, hctx, hlater, -, -, hspared, -⟩ := work_keyDue hdue ho hready hframe
    (Cipher.quiet.ownedBy (c := s1.cipher) (.inr hempty.2) b)
  refine ⟨_, c', (prepareComplete_eq hp hw hrun).trans (by rw [← hr, ← hs1]), hended.event huframe, fun hoff => ?_, ?_, ?_,
    hlater.attemptsTotal, hlater.lastAddressed⟩
  · obtain ⟨hsp, hrunning⟩ := hspared (.inr ⟨hempty.2, .inr (.inl ⟨c, p, d, hdue.handCtx, hdue.profile, hoff,
      .inr ⟨hphase, hnext, by rw [hdue.result]; rfl⟩⟩)⟩)
    have heq := hended.eq_of_quiet hsp.quiet
    rw [heq, beginFrame_keys, beginFrame_cipher, huframe.keys, hrunning]
    exact ⟨rfl, hempty.1⟩
  · rw [beginFrame_bay, hended.bay]; exact htx
  · rw [beginFrame_bay, hended.bay]; exact hctx

/-! ### A request raised where it stands -/

theorem result_freeBuffers_none {x : Bay} {a : Addr} {pos : Nat} (t : Addr × Nat → Bool) (h : x.result a pos = none) :
    (x.freeBuffers t).result a pos = none := by
  unfold Bay.result at h ⊢
  rw [List.findSome?_eq_none_iff] at h ⊢
  intro f hf
  obtain ⟨g, hg, rfl⟩ := List.mem_map.1 (show f ∈ x.buffers.map _ from hf)
  have hnone := h g hg
  cases g with
  | free => exact hnone
  | reserved a' pos' => by_cases ht : t (a', pos') = true <;> simp [Buffer.owner, ht]
  | holds a' pos' r =>
    by_cases ht : t (a', pos') = true
    · simp [Buffer.owner, ht]
    · simpa [Buffer.owner, ht] using hnone

theorem raise_queue_at {c : Cipher} {t : CipherJob → Bool} {before after : List CipherRequest} {q : CipherRequest}
    (hq : c.queue = before ++ q :: after) (ht : t q.job = true) (hother : ∀ z ∈ before ++ after, t z.job = false) :
    (c.raise t).queue = before ++ { q with urgent := true } :: after := by
  have hid : ∀ l : List CipherRequest, (∀ z ∈ l, t z.job = false) →
      l.map (fun r => if t r.job then { r with urgent := true } else r) = l := fun l hl =>
    (List.map_congr_left fun z hz => if_neg (by simp [hl z hz])).trans (List.map_id l)
  have hmap : (c.raise t).queue = c.queue.map (fun r => if t r.job then { r with urgent := true } else r) := rfl
  rw [hmap, hq, List.map_append, List.map_cons, hid before fun z hz => hother z (List.mem_append_left _ hz),
    hid after fun z hz => hother z (List.mem_append_right _ hz), if_pos ht]

/-- A position confirmed with the PREPARE of the next one queued: it is raised where it stands (R17, R102). -/
theorem workHand_raises {s : State} {b : BayId} {c : Context} {p : Profile} {d : Descriptor} {pos : Nat} {before after : List CipherRequest}
    {q : CipherRequest} (hc : (s.bay b).handCtx = some c) (hphase : c.phase = .loading) (hp : s.profileOf c = some p)
    (hnext : c.nextPosition p = some (d, pos)) (hresult : (s.bay b).result c.addr pos = none)
    (hq : s.cipher.queue = before ++ q :: after) (hjob : q.job.isPrepareFor b c.addr pos = true)
    (hother : ∀ z ∈ before ++ after, z.job.isPrepareFor b c.addr pos = false) :
    (∃ more, (s.workHand b).cipher.queue = before ++ { q with urgent := true } :: after ++ more) ∧
      (s.workHand b).cipher.running = s.cipher.running := by
  have hout : s.cipher.outstanding (CipherJob.isPrepareFor b c.addr pos) = true := by
    have hany : s.cipher.queue.any (fun r => CipherJob.isPrepareFor b c.addr pos r.job) = true :=
      List.any_eq_true.2 ⟨q, by rw [hq]; simp, hjob⟩
    simp [Cipher.outstanding, hany]
  have htake : s.updBay b Bay.takeInHand = s := by
    rw [State.updBay, takeInHand_of_hand (handCtx_eq_some_iff.1 hc).1, setBay_self]
  obtain ⟨t, ht⟩ : ∃ t : State, t = { s.updBay b (fun x => x.updCtx c.addr (fun c => { c with posIndex := pos })) with
      cipher := s.cipher.raise (CipherJob.isPrepareFor b c.addr pos) } := ⟨_, rfl⟩
  have hwork : s.workHand b = (t.aheadOnce b).aheadOnce b := by
    simp only [State.workHand]
    rw [htake, workTransport_other hc (by simp [hphase]), workLoading_raises hc hphase hp hnext hresult hout, ← ht]
  have htopped : Topped b t (s.workHand b) := by rw [hwork]; exact (aheadOnce_topped t b).trans (aheadOnce_topped _ b)
  obtain ⟨more, hmore⟩ := htopped.queue
  refine ⟨⟨more, ?_⟩, htopped.running.trans (by rw [ht]; rfl)⟩
  rw [hmore, ht]
  exact congrArg (· ++ more) (raise_queue_at hq hjob hother)

/-! ### The obligation -/

/-- Settles O57: both completions for a terminal in hand, with what the engine and prepare-ahead then do, and the raising of a queued
PREPARE. -/
theorem derivationsComplete : Obligations.DerivationsComplete := by
  refine ⟨fun s b c p hp hst hhand hc ho hprof hq hw => ?_, fun s b c p d d' r rate sentAt shown pos before after q hflight hrun hv hnext
    hresult hqueue hjob hother => ?_⟩
  · intro x
    refine ⟨fun k key gen urgent d pos slot hrun hphase hnext haction hbuf => ?_, fun d slot key gen working urgent hphase hnext hrun hnone hmem
      honlyBatch hready hrate hresend => prepareComplete_sends hp hst hhand hc ho hprof hq hw hphase hnext hrun hnone hmem honlyBatch
        hready hrate hresend⟩
    intro working
    obtain ⟨s1, hs1⟩ : ∃ s1, s1 = s.keyed b c.addr working := ⟨_, rfl⟩
    have hexec : exec .transportComplete s = .next (s1.work [b]).beginFrame := by rw [hs1]; exact transportComplete_eq hp hw hrun
    have hframe : BayFrame b s s1 := by rw [hs1]; exact cipher_frame b s _
    have hbay : s1.bay b = s.bay b := by rw [hs1]; rfl
    have hholder : s1.cipher.holder b c.addr = some working := by
      rw [hs1]
      exact (holder_setHolder s.cipher b b c.addr c.addr (some working)).trans (if_pos ⟨rfl, rfl⟩)
    have hempty : CipherEmpty s1 := by rw [hs1]; exact ⟨rfl, hq, hw⟩
    have hprof1 : ∀ n, s1.profileOf n = s.profileOf n := fun n => by rw [hs1]; rfl
    have hhand1 : (s1.bay b).batch.hand = some c.addr := by rw [hbay]; exact hhand
    have hc1 : (s1.bay b).ctx c.addr = some c := by rw [hbay]; exact hc
    have hopens : Opening b c p d pos slot s1 (s1.advance b) := advance_opens (by rw [hbay]; exact hst) hhand1 hc1 hphase
      (by rw [hprof1]; exact hprof) (by rw [hholder]; rfl) hempty (by rw [hbay]; exact hbuf) hnext haction
    have hown := Cipher.quiet.ownedBy (c := s1.cipher) (.inr hempty.2) b
    have honlyBay : ∀ {t : State}, OnlyBay b s1 t → OnlyBay b s t := fun {t} h => by rw [hs1] at h; exact h
    have hfails : ∀ reason, s1.startCheck (urgentPrepare b c p d pos slot).job = .error reason →
        ∃ t c', exec .transportComplete s = .next t ∧ OnlyBay b s t ∧ (t.bay b).ctx c.addr = some c' ∧
          c'.outcome = some (.failed reason) := fun reason hcheck => by
      obtain ⟨t, c', ht, honly, hctx, hout⟩ := hopens.fails hown ho hcheck
      exact ⟨_, c', hexec.trans (by rw [ht]), honlyBay honly, by rw [beginFrame_bay]; exact hctx, hout⟩
    refine ⟨fun info base hwin hl hslot hkind => ?_, fun hshut => hfails .windowClosed (startCheck_closed rfl (by rw [hs1]; exact hshut)),
      fun hwin hl hno => hfails .keyUnavailable ?_⟩
    · obtain ⟨n, hn⟩ := Option.ne_none_iff_exists'.1 hwin
      have hcheck : s1.startCheck (urgentPrepare b c p d pos slot).job = .ok (.slotAndTransport base info.gen working, some slot) := by
        have hwin1 : s1.window = some n := by rw [hs1]; exact hn
        have hl1 : s1.latched = false := by rw [hs1]; exact hl
        have havail : (s1.slot slot).available .base = some (base, info.gen) := by
          have hslot1 : (s1.slot slot).content = .active info base := by rw [hs1]; exact hslot
          rw [available_of_active hslot1, if_pos hkind]
        simp [urgentPrepare, State.startCheck, hwin1, hl1, havail, hholder]
      obtain ⟨t, c', ht, honly, hctx, hcphase, hcpos, hholders, hrunning, hcount, hqueue⟩ := hopens.starts hcheck
      have hcipher : (s1.work [b]).beginFrame.cipher = t.cipher := by rw [ht, beginFrame_cipher]
      refine ⟨_, c', hexec.trans (by rw [ht]), honlyBay honly, ?_, by rw [beginFrame_bay]; exact hctx, hcphase, hcpos, ?_, ?_, fun hoff => ?_,
        fun d' pos' slot' hon hafter haction' => ?_, fun n q hon hafter hn' hq' hnone => ?_⟩
      · rw [beginFrame_cipher, Cipher.holder, hholders]; exact hholder
      · rw [beginFrame_cipher]; exact hrunning
      · rw [State.slot, beginFrame_keys]
        exact hcount.trans (by rw [hs1]; rfl)
      · rw [ahead_off hhand1 hc1 (by rw [hprof1]; exact hprof) hoff] at hqueue
        rw [beginFrame_cipher]
        exact (List.cons.inj hqueue).2.symm
      · rw [ahead_position hhand1 hc1 (by rw [hprof1]; exact hprof) hempty hnext hon (by rw [hholder]; rfl) hafter haction'] at hqueue
        rw [beginFrame_cipher]
        exact (List.cons.inj hqueue).2.symm
      · have haddr : n.addr ≠ c.addr := by
          have h := List.find?_some hn'
          simp only [Bool.and_eq_true, decide_eq_true_eq] at h
          exact (Fin.ne_of_lt h.1.1).symm
        have hnone1 : s1.cipher.holder b n.addr = none := by
          rw [hs1]
          exact (holder_setHolder s.cipher b b c.addr n.addr (some working)).trans ((if_neg fun h => haddr h.2.symm).trans hnone)
        rw [ahead_context hhand1 hc1 (by rw [hprof1]; exact hprof) hempty hnext hon hafter (by rw [hbay]; exact hn')
          (by rw [hprof1]; exact hq') hnone1] at hqueue
        rw [beginFrame_cipher]
        exact (List.cons.inj hqueue).2.symm
    · obtain ⟨n, hn⟩ := Option.ne_none_iff_exists'.1 hwin
      have hwin1 : s1.window = some n := by rw [hs1]; exact hn
      have hl1 : s1.latched = false := by rw [hs1]; exact hl
      have havail : (s1.slot slot).available .base = none := by rw [hs1]; exact available_none hno
      simp [urgentPrepare, State.startCheck, hwin1, hl1, havail]
  · obtain ⟨⟨hp, hst, hhand, hc, hphase, -, hprof, -⟩, hr, hf, -⟩ := hflight
    obtain ⟨ans, hans⟩ : ∃ ans, ans = judgeAnswer rate 5 shown := ⟨_, rfl⟩
    have hfault : ∀ f, judgeAnswer rate 5 shown ≠ .fault f := fun f h => by rw [h] at hv; simp [judgeKey] at hv
    have hexec := keyEnded_eq hp hf hfault
    rw [← hans] at hv hexec
    obtain ⟨z, hz⟩ : ∃ z, z = ((s.bay b).gapped s.time rate).noted c.addr ans := ⟨_, rfl⟩
    obtain ⟨c1, hc1⟩ : ∃ c1, c1 = c.noted ans := ⟨_, rfl⟩
    have haddr : c1.addr = c.addr := by rw [hc1, noted_addr]
    have hzc : z.ctx c1.addr = some c1 := by
      rw [haddr, hz, hc1]; exact ctx_noted (x := (s.bay b).gapped s.time rate) ans hc
    have hzhand : z.batch.hand = some c1.addr := by rw [haddr, hz]; exact hhand
    have hphase1 : c1.phase = .loading := by rw [hc1, noted_phase]; exact hphase
    have hzr : z.result c1.addr c1.posIndex = some r := by rw [haddr, hc1, noted_posIndex, hz]; exact hr
    obtain ⟨c2, hc2⟩ : ∃ c2 : Context, c2 = { c1 with
      confirmed := c1.confirmed.set (c1.posIndex - 1) (some { check := r.check, gen := r.gen }), attempts := 0, deferrals := 0 } := ⟨_, rfl⟩
    have hc2addr : c2.addr = c.addr := by rw [hc2]; exact haddr
    obtain ⟨s1, hs1⟩ : ∃ s1, s1 = s.setBay b (z.confirm c1 r) := ⟨_, rfl⟩
    have hbay : s1.bay b = z.confirm c1 r := by rw [hs1, bay_setBay_same]
    have hctx : (s1.bay b).handCtx = some c2 := by
      rw [hbay, handCtx_eq_some_iff, hc2]; exact ⟨hzhand, ctx_confirm r hzc⟩
    have hnext2 : c2.nextPosition p = some (d', pos) := by
      rw [← hnext, hc2, hc1]
      unfold Context.nextPosition
      simp only [noted_confirmed, noted_posIndex]
    have hresult2 : (s1.bay b).result c2.addr pos = none := by
      rw [hbay, hc2addr]
      refine result_freeBuffers_none _ ?_
      show z.result c.addr pos = none
      rw [hz]; exact hresult
    obtain ⟨⟨more, hmore⟩, hrunning⟩ := workHand_raises (s := s1) (b := b) (q := q) (before := before) (after := after) hctx
      (by rw [hc2]; exact hphase1) (by rw [hc2, hc1, hs1]; exact (by rw [State.profileOf]; show (c.noted ans).entry.bind _ = _; rw [noted_entry]; exact hprof))
      hnext2 hresult2 (by rw [hs1]; exact hqueue) (by rw [hc2addr]; exact hjob) (by rw [hc2addr]; exact hother)
    have hstate : (s1.bay b).state = .loading := by rw [hbay, hz]; exact hst
    have hadvance : s1.advance b = (s1.workHand b).sendNext b := by
      simp only [State.advance, hstate, allDone_false (handCtx_eq_some_iff.1 hctx).2 (by rw [hc2]; simp [hphase1])]
      rfl
    have hwork : s1.work [b] = s1.advance b := work_advance (.inl (by
      rw [hadvance, sendNext_cipher, hrunning, hs1]; exact hrun))
    have hanswer : (s.setBay b z).keyAnswer b c.addr ans = s1 := by
      rw [hs1, ← haddr]
      exact keyAnswer_confirmed hzc hzhand hphase1 hzr hv
    rw [← hz, hanswer, continueStop_of_not (by rw [hstate]; simp), hwork] at hexec
    refine ⟨_, more, hexec, ?_, ?_⟩
    · rw [beginFrame_cipher, hadvance, sendNext_cipher, hrunning, hs1]; rfl
    · rw [beginFrame_cipher, hadvance, sendNext_cipher]; exact hmore

end Sys2Proof.Machine

/-! SUPPORT. The closing of the window (R24, R115, R149, R150): the requests it fails, the roll phases it ends, and what the internal work
of every bay then keeps. -/

namespace Sys2Proof.Machine

/-! ### Internal work by every bay -/

/-- The bays, the window and the part clock as they were. -/
structure SameBays (s t : State) : Prop where
  bay : ∀ b, t.bay b = s.bay b
  window : t.window = s.window
  clock : t.clock = s.clock

theorem SameBays.started {s t : State} (h : s.engineTake = .started t) : SameBays s t := by
  obtain ⟨-, used, c, rfl⟩ := started_eq h
  exact ⟨fun _ => by cases used <;> rfl, by cases used <;> rfl, by cases used <;> rfl⟩

/-- What every bay's steps keep, and nothing else changes, internal work keeps (R103, R104). -/
theorem work_keeps {P : State → Prop} (hstep : ∀ b s t, BayStep b s t → P s → P t) (hsame : ∀ s t, SameBays s t → P s → P t)
    (l : List BayId) {s : State} (hs : P s) : P (s.work l) := by
  obtain ⟨u, hu, hend⟩ := settle_rule (P := P) (B := fun _ => True) (fun b u v _ hm => hstep b u v (.move hm))
    (fun u v r reason hended hu => by
      obtain ⟨hidle, q, hq, hjob, hcheck, rfl⟩ := ended_cases hended
      refine ⟨?_, fun _ _ => trivial⟩
      cases hctx : q.job.context with
      | some x => rw [failRequest_of_context (hjob ▸ hctx)]; exact hstep x.1 u _ (.fail hidle hq hjob hctx hcheck) hu
      | none =>
        refine hsame u _ ?_ hu
        rw [hjob]
        cases hq : q.job <;> rw [hq] at hctx <;> simp only [CipherJob.context, reduceCtorEq] at hctx
        · exact ⟨fun _ => rfl, rfl, rfl⟩
        · exact ⟨fun _ => rfl, rfl, rfl⟩
        · exact ⟨fun _ => answer_bay _ _ _ _, answer_window _ _ _, answer_clock _ _ _⟩)
    Config.settleBound l (fun _ _ => trivial) hs
  rcases hend with heq | hstart
  · exact (show s.work l = u from heq) ▸ hu
  · exact hsame u _ (.started hstart) hu

/-- A running request is left alone by internal work. -/
theorem work_running {s : State} {r : Running} (hr : s.cipher.running = some r) (l : List BayId) : (s.work l).cipher.running = some r := by
  obtain ⟨u, hu, hend⟩ := settle_rule (P := fun u => u.cipher.running = some r) (B := fun _ => True)
    (fun _ _ _ _ hm hu => hm.running.trans hu)
    (fun u v q reason hended hu => by simp [(ended_cases hended).1] at hu)
    Config.settleBound l (fun _ _ => trivial) hr
  rcases hend with heq | hstart
  · exact (show s.work l = u from heq) ▸ hu
  · rw [(started_eq hstart).1] at hu; simp at hu

/-- What one bay's steps keep of it, internal work keeps. -/
theorem work_keeps_bay {b : BayId} {Q : Bay → Prop} (hstep : ∀ s t, BayStep b s t → Q (s.bay b) → Q (t.bay b)) (l : List BayId) {s : State}
    (hs : Q (s.bay b)) : Q ((s.work l).bay b) :=
  work_keeps (P := fun s => Q (s.bay b))
    (fun b' s t h hs => by
      by_cases hb : b = b'
      · subst hb; exact hstep s t h hs
      · rwa [h.frame.bays b hb])
    (fun s t h hs => by rwa [h.bay]) l hs

/-! ### Bays whose roll phase has ended -/

/-- The roll phase is over, with a ROLL_CALL or ENROL still to end (R12). -/
def Bay.rollClosing (x : Bay) : Prop := x.state = .rolling ∧ x.rollOver = true

/-- In LOADING at a rate, with a context not DONE (R13). -/
def Bay.loadsAt (rate : Rate) (x : Bay) : Prop := x.state = .loading ∧ x.batch.inUse = rate ∧ x.allDone = false

/-- The batch has ended COMPLETE (R25). -/
def Bay.completed (x : Bay) : Prop := x.state = .ready ∧ x.contexts = [] ∧ x.batch.stopCause = some .complete

theorem send_keeps (now : Nat) (f : LineFrame) (x : Bay) :
    (x.send now f).state = x.state ∧ (x.send now f).rollOver = x.rollOver ∧ (x.send now f).batch = x.batch := by
  unfold Bay.send
  dsimp only
  split <;> split <;> exact ⟨rfl, rfl, rfl⟩

theorem send_open (now : Nat) (f : LineFrame) {x : Bay} (h : x.allDone = false) : (x.send now f).allDone = false := by
  have hupd : ∀ a, (({ x with line := x.line.transmit (.frame f x.line.rate now false) now } : Bay).updCtx a
      (Context.addressed now f.kind)).allDone = false := fun a => updCtx_open h fun c hc => hc
  unfold Bay.send
  dsimp only
  split <;> split
  · exact hupd _
  · exact h
  · exact hupd _
  · exact h

theorem nextFrame_none {s : State} {b : BayId} (h1 : (s.bay b).state ≠ .rolling) (h2 : (s.bay b).state ≠ .loading) : s.nextFrame b = none := by
  unfold State.nextFrame
  split <;> simp_all

theorem BayStep.rollClosing {b : BayId} {s t : State} (h : BayStep b s t) (hs : (s.bay b).rollClosing) : (t.bay b).rollClosing := by
  obtain ⟨hst, hover⟩ := hs
  have hquiet : QuietStep b s t → (t.bay b).rollClosing := fun h => ⟨h.bay.state.trans hst, h.bay.rollOver.trans hover⟩
  cases h with
  | move h =>
    cases h with
    | load h => exact hquiet (.load h)
    | @send f _ _ =>
      rw [bay_updBay_same]
      obtain ⟨hstate, hroll, -⟩ := send_keeps s.time f (s.bay b)
      exact ⟨hstate.trans hst, hroll.trans hover⟩
    | finish loading _ => exact absurd loading (by simp [hst])
  | fail idle mem job context check => exact hquiet (.fail idle mem job context check)

theorem BayStep.loadsAt {b : BayId} {rate : Rate} {s t : State} (h : BayStep b s t) (hs : (s.bay b).loadsAt rate) : (t.bay b).loadsAt rate := by
  obtain ⟨hst, hrate, hopen⟩ := hs
  have hquiet : QuietStep b s t → (t.bay b).loadsAt rate := fun h => ⟨h.bay.state.trans hst, h.bay.inUse.trans hrate, h.open hopen⟩
  cases h with
  | move h =>
    cases h with
    | load h => exact hquiet (.load h)
    | @send f _ _ =>
      rw [bay_updBay_same]
      obtain ⟨hstate, -, hbatch⟩ := send_keeps s.time f (s.bay b)
      exact ⟨hstate.trans hst, by rw [hbatch]; exact hrate, send_open _ _ hopen⟩
    | finish _ done => simp [hopen] at done
  | fail idle mem job context check => exact hquiet (.fail idle mem job context check)

theorem BayStep.completed {b : BayId} {s t : State} (h : BayStep b s t) (hs : (s.bay b).completed) : (t.bay b).completed := by
  have ⟨hst, hctx, _⟩ := hs
  cases h with
  | move h =>
    cases h with
    | load h => exact absurd h.loading_before (by simp [hst])
    | send _ due => simp [nextFrame_none (s := s) (b := b) (by simp [hst]) (by simp [hst])] at due
    | finish loading _ => exact absurd loading (by simp [hst])
  | @fail q r reason a idle mem job context check =>
    rcases fail_bay (b := b) (t := (({ s with cipher := s.cipher.run q r } : State).decideOutcome b a (.failed reason)).freeEngine) rfl with
      ⟨hb, _⟩ | ⟨e, he, _⟩
    · rw [hb]; exact hs
    · simp [Bay.ctx, hctx] at he

/-! ### The requests that fail WINDOW_CLOSED -/

/-- A bay in which only undecided contexts have failed (R6). -/
structure FailedIn (x y : Bay) : Prop where
  later : BayLater x y
  fast : y.contexts.map (·.fastCapable) = x.contexts.map (·.fastCapable)
  opened : x.allDone = false → y.allDone = false
  decided : (∀ c ∈ x.contexts, c.outcome.isSome = true) → y = x

theorem FailedIn.refl (x : Bay) : FailedIn x x := ⟨.refl x, rfl, id, fun _ => rfl⟩

theorem FailedIn.trans {x y z : Bay} (h : FailedIn x y) (k : FailedIn y z) : FailedIn x z where
  later := h.later.trans k.later
  fast := k.fast.trans h.fast
  opened := k.opened ∘ h.opened
  decided hall := by
    obtain rfl := h.decided hall
    exact k.decided hall

theorem updCtx_fast {x : Bay} {a : Addr} {f : Context → Context} (hf : ∀ c, (f c).fastCapable = c.fastCapable) :
    (x.updCtx a f).contexts.map (·.fastCapable) = x.contexts.map (·.fastCapable) := by
  show (x.contexts.map (fun c => if c.addr = a then f c else c)).map (·.fastCapable) = _
  rw [List.map_map]
  exact List.map_congr_left fun c _ => by simp only [Function.comp]; split <;> simp [hf]

theorem decideOutcome_failedIn (b b' : BayId) (a : Addr) (reason : FailReason) (s : State) :
    FailedIn (s.bay b') ((s.decideOutcome b a (.failed reason)).bay b') := by
  by_cases hb : b' = b
  swap
  · rw [(decideOutcome_path b a (.failed reason) s).frame.bays b' hb]; exact .refl _
  subst hb
  cases h : (s.bay b').ctx a with
  | none => rw [decideOutcome_none _ h]; exact .refl _
  | some c =>
    cases ho : c.outcome with
    | some v => rw [decideOutcome_decided _ h (by simp [ho])]; exact .refl _
    | none =>
      have hno : ¬ ∀ d ∈ (s.bay b').contexts, d.outcome.isSome = true := fun hall => by simpa [ho] using hall c (Bay.ctx_mem h)
      have hdecided : FailedIn (s.bay b') ((s.bay b').decided a (.failed reason)) :=
        ⟨decided_bayLater _ _ _, updCtx_fast (x := s.bay b') fun _ => rfl,
          fun h => updCtx_open (f := fun c => { c with phase := .reportWait, outcome := some (.failed reason) }) h fun c _ => by simp,
          fun hall => absurd hall hno⟩
      rcases (decideOutcome_bay (.failed reason) h ho).1 with hbay | hbay <;> rw [hbay]
      · exact hdecided
      · exact ⟨hdecided.later.trans (updCtx_bayLater fun _ => rfl), (updCtx_fast (f := fun c => { c with recordAppended := true }) fun _ => rfl).trans hdecided.fast,
          fun h => updCtx_open (hdecided.opened h) fun _ h => h, fun hall => absurd hall hno⟩

theorem failAll_failedIn (l : List (BayId × Addr)) (b : BayId) (s : State) : FailedIn (s.bay b) ((s.failAll l).bay b) := by
  induction l generalizing s with
  | nil => exact .refl _
  | cons x l ih => exact (decideOutcome_failedIn x.1 b x.2 .windowClosed s).trans (ih _)

/-- A context whose outcome is decided so, and which is not DONE yet. -/
def Bay.hasOutcome (a : Addr) (v : Verdict) (x : Bay) : Prop := ∃ c, x.ctx a = some c ∧ c.outcome = some v ∧ c.phase ≠ .done

/-- A decision leaves every context but its own. -/
theorem decideOutcome_ctx_other {s : State} {b b' : BayId} {a a' : Addr} (v : Verdict) (hne : ¬ (b' = b ∧ a' = a)) :
    ((s.decideOutcome b a v).bay b').ctx a' = (s.bay b').ctx a' := by
  by_cases hb : b' = b
  swap
  · rw [(decideOutcome_path b a v s).frame.bays b' hb]
  subst hb
  have ha : a' ≠ a := fun h => hne ⟨rfl, h⟩
  cases h : (s.bay b').ctx a with
  | none => rw [decideOutcome_none _ h]
  | some c =>
    cases ho : c.outcome with
    | some w => rw [decideOutcome_decided _ h (by simp [ho])]
    | none =>
      have hdecided : ((s.bay b').decided a v).ctx a' = (s.bay b').ctx a' :=
        ctx_updCtx_other (f := fun c => { c with phase := .reportWait, outcome := some v }) ha fun _ => rfl
      rcases (decideOutcome_bay v h ho).1 with hbay | hbay <;> rw [hbay]
      · exact hdecided
      · exact (ctx_updCtx_other (f := fun c => { c with recordAppended := true }) ha fun _ => rfl).trans hdecided

theorem decideOutcome_hasOutcome {s : State} {b b' : BayId} {a a' : Addr} {v : Verdict} (w : Verdict) (h : (s.bay b').hasOutcome a' v) :
    ((s.decideOutcome b a w).bay b').hasOutcome a' v := by
  obtain ⟨c, hc, ho, hnd⟩ := h
  by_cases hat : b' = b ∧ a' = a
  · obtain ⟨rfl, rfl⟩ := hat
    rw [decideOutcome_decided _ hc (by simp [ho])]
    exact ⟨c, hc, ho, hnd⟩
  · exact ⟨c, (decideOutcome_ctx_other w hat).trans hc, ho, hnd⟩

theorem failAll_hasOutcome {l : List (BayId × Addr)} {s : State} {b : BayId} {a : Addr} {v : Verdict} (h : (s.bay b).hasOutcome a v) :
    ((s.failAll l).bay b).hasOutcome a v := by
  induction l generalizing s with
  | nil => exact h
  | cons x l ih => exact ih (decideOutcome_hasOutcome _ h)

/-- Every context listed that is undecided fails (R21, R115). -/
theorem failAll_fails {l : List (BayId × Addr)} {s : State} {b : BayId} {a : Addr} {c : Context} (hmem : (b, a) ∈ l)
    (hc : (s.bay b).ctx a = some c) (ho : c.outcome = none) : ((s.failAll l).bay b).hasOutcome a (.failed .windowClosed) := by
  induction l generalizing s with
  | nil => simp at hmem
  | cons x l ih =>
    by_cases hx : b = x.1 ∧ a = x.2
    · obtain ⟨rfl, rfl⟩ := hx
      obtain ⟨d, hd, -, hod, hphase⟩ := decideOutcome_ctx_later (.failed .windowClosed) hc ho
      exact failAll_hasOutcome (s := s.decideOutcome x.1 x.2 (.failed .windowClosed)) ⟨d, hd, hod, by simp [hphase]⟩
    · have hmem := (List.mem_cons.1 hmem).resolve_left fun h => hx (by rw [← h]; exact ⟨rfl, rfl⟩)
      exact ih (s := s.decideOutcome x.1 x.2 (.failed .windowClosed)) hmem ((decideOutcome_ctx_other _ hx).trans hc)

/-- A running request keeps its job and its material, withdrawn or not (R106). -/
def Cipher.stillRuns (r : Running) (c : Cipher) : Prop := ∃ r', c.running = some r' ∧ r'.job = r.job ∧ r'.material = r.material

theorem dropContext_stillRuns {r : Running} {c : Cipher} (b : BayId) (a : Addr) (h : c.stillRuns r) : (c.dropContext b a).stillRuns r := by
  obtain ⟨r', hr, hjob, hmat⟩ := h
  refine ⟨if r'.job.context == some (b, a) then { r' with withdrawn := true } else r', ?_, ?_, ?_⟩
  · rw [dropContext_running, hr]; rfl
  · split <;> exact hjob
  · split <;> exact hmat

theorem decideOutcome_stillRuns {r : Running} {s : State} (b : BayId) (a : Addr) (v : Verdict) (h : s.cipher.stillRuns r) :
    (s.decideOutcome b a v).cipher.stillRuns r := by
  cases hc : (s.bay b).ctx a with
  | none => rwa [decideOutcome_none _ hc]
  | some c =>
    cases ho : c.outcome with
    | some w => rwa [decideOutcome_decided _ hc (by simp [ho])]
    | none => rw [(decideOutcome_bay v hc ho).2]; exact dropContext_stillRuns b a h

theorem failAll_stillRuns {r : Running} {s : State} (l : List (BayId × Addr)) (h : s.cipher.stillRuns r) : (s.failAll l).cipher.stillRuns r := by
  induction l generalizing s with
  | nil => exact h
  | cons x l ih => exact ih (decideOutcome_stillRuns _ _ _ h)

theorem failAll_unit {s t : State} (l : List (BayId × Addr)) (h : UnitFrame s t) : UnitFrame s (t.failAll l) := by
  induction l generalizing t with
  | nil => exact h
  | cons x l ih => exact ih ((decideOutcome_path x.1 x.2 _ t).frame.unit h)

/-! ### The roll phases that end -/

theorem endRollIfRolling_frame (s : State) (b : BayId) : BayFrame b s (s.endRollIfRolling b) := by
  unfold State.endRollIfRolling
  split
  · exact (endRoll_path b s).frame
  · exact .refl b s

theorem endRollIfRolling_stillRuns {r : Running} {s : State} (b : BayId) (h : s.cipher.stillRuns r) :
    (s.endRollIfRolling b).cipher.stillRuns r := by
  unfold State.endRollIfRolling State.endRoll State.rateDecision State.normalEnd
  dsimp only
  split_ifs <;> exact h

theorem foldl_stillRuns {r : Running} (l : List BayId) {s : State} (h : s.cipher.stillRuns r) :
    (l.foldl State.endRollIfRolling s).cipher.stillRuns r := by
  induction l generalizing s with
  | nil => exact h
  | cons b l ih => exact ih (endRollIfRolling_stillRuns b h)

/-- How a bay's roll phase ends when the window closes (R12, R13, R24). -/
theorem endRollIfRolling_bay {s : State} {b : BayId} (hst : (s.bay b).state = .rolling) (hroll : (s.bay b).rollOver = false) :
    ((s.bay b).rollInFlight = true → ((s.endRollIfRolling b).bay b).rollClosing) ∧
    ((s.bay b).rollInFlight = false →
      ((s.bay b).allDone = false → ((s.endRollIfRolling b).bay b).loadsAt (s.bay b).decidedRate) ∧
      ((s.bay b).allDone = true → ((s.endRollIfRolling b).bay b).completed)) := by
  have hend : s.endRollIfRolling b = s.endRoll b := if_pos ⟨hst, hroll⟩
  rw [hend]
  refine ⟨fun hflight => ?_, fun hflight => ⟨fun hopen => ?_, fun hdone => ?_⟩⟩
  · have heq : s.endRoll b = s.updBay b (fun x => { x with rollOver := true }) := if_pos hflight
    rw [heq, bay_updBay_same]
    exact ⟨hst, rfl⟩
  · have heq : s.endRoll b = s.rateDecision b := if_neg (by simp [hflight])
    rw [heq, rateDecision_loading hst hopen, bay_setBay_same]
    exact ⟨rfl, rfl, hopen⟩
  · have heq : s.endRoll b = s.rateDecision b := if_neg (by simp [hflight])
    rw [heq, rateDecision_end hst hdone, normalEnd_bay]
    exact ⟨rfl, rfl, rfl⟩

/-- The end of a roll phase keeps the contexts whose outcome is decided. -/
theorem endRollIfRolling_hasOutcome {s : State} {b : BayId} {a : Addr} {v : Verdict} (h : (s.bay b).hasOutcome a v) :
    ((s.endRollIfRolling b).bay b).hasOutcome a v := by
  have hopen : (s.bay b).allDone = false := by obtain ⟨c, hc, -, hnd⟩ := h; exact allDone_false hc hnd
  unfold State.endRollIfRolling
  split
  · next hrolling =>
    unfold State.endRoll
    split
    · rw [bay_updBay_same]; exact h
    · rw [rateDecision_loading hrolling.1 hopen, bay_setBay_same]; exact h
  · exact h

end Sys2Proof.Machine

/-! The closing of the window, continued: the whole event, and the obligation (R24, R115, R147, R149, R150, R160). -/

namespace Sys2Proof.Machine

/-! ### The whole event -/

theorem decidedRate_of_failedIn {x y : Bay} (h : FailedIn x y) : y.decidedRate = x.decidedRate := by
  have hall : ∀ z : Bay, z.contexts.all (fun c => c.fastCapable) = (z.contexts.map (·.fastCapable)).all id := fun z => by
    simp [List.all_map]
  simp only [Bay.decidedRate, h.later.requested, hall, h.fast]

/-- What the closing of the window leaves (R12, R13, R21, R24, R115). -/
structure WindowShut (s t : State) : Prop where
  window : t.window = none
  clock : t.clock = s.clock
  fails : ∀ r ∈ s.cipher.queue ++ s.cipher.waiting, ∀ b a c, r.job.context = some (b, a) → (s.bay b).ctx a = some c → c.outcome = none →
    (t.bay b).hasOutcome a (.failed .windowClosed)
  running : ∀ r, s.cipher.running = some r → t.cipher.stillRuns r
  inFlight : ∀ b, (s.bay b).state = .rolling → (s.bay b).rollOver = false → (s.bay b).rollInFlight = true → (t.bay b).rollClosing
  loads : ∀ b, (s.bay b).state = .rolling → (s.bay b).rollOver = false → (s.bay b).rollInFlight = false → (s.bay b).allDone = false →
    (t.bay b).loadsAt (s.bay b).decidedRate
  completes : ∀ b, (s.bay b).state = .rolling → (s.bay b).rollOver = false → (s.bay b).rollInFlight = false →
    (∀ c ∈ (s.bay b).contexts, c.phase = .done ∧ c.outcome.isSome = true) → (t.bay b).completed

theorem closeDerivations_running (c : Cipher) : c.closeDerivations.running = c.running := examine_running _

theorem closeWindow_shut (s : State) : WindowShut s s.closeWindow := by
  obtain ⟨s1, hs1⟩ : ∃ s1 : State, s1 = { s with window := none, cipher := s.cipher.closeDerivations } := ⟨_, rfl⟩
  obtain ⟨s2, hs2⟩ : ∃ s2, s2 = s1.failAll s.cipher.derivations := ⟨_, rfl⟩
  obtain ⟨s3, hs3⟩ : ∃ s3, s3 = allBays.foldl State.endRollIfRolling s2 := ⟨_, rfl⟩
  have hclose : s.closeWindow = s3.work allBays := by rw [hs3, hs2, hs1]; rfl
  have hunit2 : UnitFrame s1 s2 := by rw [hs2]; exact failAll_unit _ (.refl s1)
  have hbay1 : ∀ b, s1.bay b = s.bay b := fun b => by rw [hs1]; rfl
  have hfailed : ∀ b, FailedIn (s.bay b) (s2.bay b) := fun b => by rw [← hbay1 b, hs2]; exact failAll_failedIn _ b s1
  obtain ⟨hunit3, -, hturn⟩ := foldl_bays endRollIfRolling_frame allBays_nodup hunit2
  rw [← hs3] at hunit3 hturn
  have hroll : ∀ b, (s.bay b).state = .rolling → (s.bay b).rollOver = false →
      ∃ u : State, u.bay b = s2.bay b ∧ s3.bay b = (u.endRollIfRolling b).bay b ∧ (u.bay b).state = .rolling ∧ (u.bay b).rollOver = false ∧
        (u.bay b).rollInFlight = (s.bay b).rollInFlight := fun b hst hover => by
    obtain ⟨u, -, hu, hend⟩ := hturn b (mem_allBays b)
    have hlater := (hfailed b).later
    refine ⟨u, hu, hend, ?_, ?_, ?_⟩ <;> rw [hu]
    · exact hlater.state.trans hst
    · exact hlater.rollOver.trans hover
    · unfold Bay.rollInFlight; rw [hlater.line]
  constructor
  case window => rw [hclose, work_window, hunit3.window, hs1]
  case clock => rw [hclose, work_clock, hunit3.clock, hs1]
  case fails =>
    intro r hr b a c hjob hc ho
    have hmem : (b, a) ∈ s.cipher.derivations := List.mem_filterMap.2 ⟨r, hr, hjob⟩
    have h2 : (s2.bay b).hasOutcome a (.failed .windowClosed) := by
      rw [hs2]; exact failAll_fails hmem (by rw [hbay1]; exact hc) ho
    obtain ⟨u, -, hu, hend⟩ := hturn b (mem_allBays b)
    have h3 : (s3.bay b).hasOutcome a (.failed .windowClosed) := by
      rw [hend]; exact endRollIfRolling_hasOutcome (by rw [hu]; exact h2)
    rw [hclose]
    exact work_keeps_bay (Q := Bay.hasOutcome a (.failed .windowClosed)) (fun _ _ h hs => h.outcome hs) allBays h3
  case running =>
    intro r hr
    have h1 : s1.cipher.stillRuns r := ⟨r, by rw [hs1]; exact (closeDerivations_running _).trans hr, rfl, rfl⟩
    have h3 : s3.cipher.stillRuns r := by rw [hs3, hs2]; exact foldl_stillRuns _ (failAll_stillRuns _ h1)
    obtain ⟨r', hr', hsame⟩ := h3
    exact ⟨r', by rw [hclose]; exact work_running hr' allBays, hsame⟩
  case inFlight =>
    intro b hst hover hflight
    obtain ⟨u, hu, hend, hust, huover, huflight⟩ := hroll b hst hover
    rw [hclose]
    refine work_keeps_bay (fun _ _ h hs => h.rollClosing hs) allBays ?_
    rw [hend]
    exact (endRollIfRolling_bay hust huover).1 (huflight.trans hflight)
  case loads =>
    intro b hst hover hflight hopen
    obtain ⟨u, hu, hend, hust, huover, huflight⟩ := hroll b hst hover
    rw [hclose, ← decidedRate_of_failedIn (hfailed b), ← hu]
    refine work_keeps_bay (fun _ _ h hs => h.loadsAt hs) allBays ?_
    rw [hend]
    exact ((endRollIfRolling_bay hust huover).2 (huflight.trans hflight)).1 (by rw [hu]; exact (hfailed b).opened hopen)
  case completes =>
    intro b hst hover hflight hall
    obtain ⟨u, hu, hend, hust, huover, huflight⟩ := hroll b hst hover
    rw [hclose]
    refine work_keeps_bay (fun _ _ h hs => h.completed hs) allBays ?_
    rw [hend]
    refine ((endRollIfRolling_bay hust huover).2 (huflight.trans hflight)).2 ?_
    rw [hu, (hfailed b).decided fun c hc => (hall c hc).2]
    exact List.all_eq_true.2 fun c hc => by simp [(hall c hc).1]

/-- What is left is left also when only the link, the notice and the request held differ. -/
theorem WindowShut.congr {s s' t t' : State} (h : WindowShut s t) (hbay : ∀ b, s'.bay b = s.bay b) (hcipher : s'.cipher = s.cipher)
    (hclock : s'.clock = s.clock) (hbay' : ∀ b, t'.bay b = t.bay b) (hcipher' : t'.cipher = t.cipher) (hclock' : t'.clock = t.clock)
    (hwindow' : t'.window = t.window) : WindowShut s' t' := by
  constructor
  all_goals simp only [hbay, hcipher, hclock, hbay', hcipher', hclock', hwindow']
  · exact h.window
  · exact h.clock
  · exact h.fails
  · exact h.running
  · exact h.inFlight
  · exact h.loads
  · exact h.completes

/-! ### A unit with nothing to close -/

theorem settle_still {s : State} (h : ∀ b, (s.bay b).state.sends = false) (hq : EngineQuiet s) (n : Nat) (l : List BayId) :
    s.settle n l = s := by
  induction n generalizing l with
  | zero => rfl
  | succ n ih =>
    cases l with
    | nil => exact settle_nil _ (engineTake_quiet hq)
    | cons b l =>
      have heq : s.settle (n + 1) (b :: l) = (s.advance b).settle n l := rfl
      rw [heq, advance_of_not_sends (h b), ih]

theorem sends_of_isRunning {x : Bay} (h : x.isRunning = false) : x.state.sends = false ∧ x.state ≠ .rolling := by
  unfold Bay.isRunning at h
  cases hx : x.state <;> rw [hx] at h <;> simp_all [BayState.sends]

theorem foldl_endRoll_still {s : State} (h : ∀ b, (s.bay b).state ≠ .rolling) (l : List BayId) : l.foldl State.endRollIfRolling s = s := by
  induction l with
  | nil => rfl
  | cons b l ih =>
    have hstep : s.endRollIfRolling b = s := if_neg fun hr => h b hr.1
    rw [List.foldl_cons, hstep, ih]

/-- With no cipher request and no batch the closing only closes. -/
theorem closeWindow_alone {s : State} (hempty : CipherEmpty s) (hrun : ∀ b, (s.bay b).isRunning = false) :
    s.closeWindow = { s with window := none } := by
  obtain ⟨hr, hq, hw⟩ := hempty
  have hcipher : s.cipher.closeDerivations = s.cipher := by
    have heq : ({ s.cipher with queue := s.cipher.queue.filter (fun r => !r.job.isDerivation)
                                waiting := s.cipher.waiting.filter (fun r => !r.job.isDerivation) } : Cipher) = s.cipher := by
      rw [hq, hw]; exact (congrArg₂ (fun q w => { s.cipher with queue := q, waiting := w }) hq.symm hw.symm)
    exact (congrArg Cipher.examine heq).trans (examine_nil hw)
  have hlist : s.cipher.derivations = [] := by simp [Cipher.derivations, hq, hw]
  obtain ⟨t, ht⟩ : ∃ t : State, t = { s with window := none } := ⟨_, rfl⟩
  have hbay : ∀ b, t.bay b = s.bay b := fun b => by rw [ht]; rfl
  unfold State.closeWindow
  simp only [hlist, hcipher, State.failAll, List.foldl_nil]
  rw [← ht, foldl_endRoll_still fun b => by rw [hbay]; exact (sends_of_isRunning (hrun b)).2]
  exact settle_still (fun b => by rw [hbay]; exact (sends_of_isRunning (hrun b)).1) (by rw [ht]; exact .inr ⟨hq, hw⟩) _ _

/-! ### The commands -/

theorem windowClose_closes {s : State} {tag : Byte} (h : LinkIdle s) (hwin : s.window ≠ none) :
    exec (.windowClose tag []) s = .next ((s.holding .windowClose tag []).closeWindow.answer .ok []).beginFrame := by
  have hsome : s.window.isSome = true := Option.isSome_iff_ne_none.2 hwin
  refine (request_idle h .windowClose tag []).trans ?_
  simp only [State.takeRequest, State.takeWindowClose, holding_window, hsome, if_true]

theorem windowExpiry_expires {s : State} (hp : s.powered = true) (hn : s.window = some 1) :
    exec .windowExpiry s = .next s.expireWindow.beginFrame := by
  refine (event_powered _ hp).trans (congrArg (fun t : State => Host.Outcome.next t.beginFrame) ?_)
  simp only [State.expireIfOver, hn, Nat.le_refl, if_true]

/-- The state with the part clock a second further (R160). -/
def State.ticked (s : State) : State := { s with clock := s.clock + 1, lastAdvance := s.time }

theorem clockAdvance_powered {s : State} (hp : s.powered = true) : exec .clockAdvance s = .next s.advanceClock.beginFrame :=
  (if_pos hp).trans (event_powered State.advanceClock hp)

theorem clockAdvance_expires {s : State} (hp : s.powered = true) (hn : s.window = some 1) :
    exec .clockAdvance s = .next s.ticked.expireWindow.beginFrame := by
  refine (clockAdvance_powered hp).trans (congrArg (fun t : State => Host.Outcome.next t.beginFrame) ?_)
  simp only [State.advanceClock, hn, Nat.le_refl, if_true]
  rfl

theorem WindowShut.raises {s t : State} (h : WindowShut s t) (f : Flag) : WindowShut s (t.raise f).beginFrame :=
  h.congr (fun _ => rfl) rfl rfl (fun _ => by rw [beginFrame_bay, raise_bay]) (by rw [beginFrame_cipher, raise_cipher])
    (by rw [beginFrame_clock, raise_clock]) (by rw [beginFrame_window, raise_window])

theorem WindowShut.answers {s t : State} (h : WindowShut s t) (code : ResultCode) (contents : List Byte) :
    WindowShut s (t.answer code contents).beginFrame :=
  h.congr (fun _ => rfl) rfl rfl (fun _ => by rw [beginFrame_bay, answer_bay]) (by rw [beginFrame_cipher, answer_cipher])
    (by rw [beginFrame_clock, answer_clock]) (by rw [beginFrame_window, answer_window])

theorem expireWindow_shut (s : State) : WindowShut s s.expireWindow.beginFrame := (closeWindow_shut s).raises .windowExpired

/-- A command that closes the OPEN window closes it so. -/
theorem closes_shut {s : State} {tag : Byte} {i : Instr} (hp : s.powered = true) (hwin : s.window ≠ none)
    (hi : (i = .windowClose tag [] ∧ LinkIdle s) ∨ ((i = .windowExpiry ∨ i = .clockAdvance) ∧ s.window = some 1)) :
    ∃ s' t, exec i s = .next t ∧ WindowShut s' t ∧ (∀ b, s'.bay b = s.bay b) ∧ s'.cipher = s.cipher := by
  rcases hi with ⟨rfl, h⟩ | ⟨rfl | rfl, hone⟩
  · exact ⟨s.holding .windowClose tag [], _, windowClose_closes h hwin, (closeWindow_shut _).answers .ok [], fun _ => rfl, rfl⟩
  · exact ⟨s, _, windowExpiry_expires hp hone, expireWindow_shut s, fun _ => rfl, rfl⟩
  · exact ⟨s.ticked, _, clockAdvance_expires hp hone, expireWindow_shut _, fun _ => rfl, rfl⟩

/-! ### The obligation -/

/-- Settles O33: the closing of the window as one event, with the requests it fails, the roll phases it ends and the running request it leaves;
and the part clock that runs the window down. -/
theorem windowClosesAndRunsDown : Obligations.WindowClosesAndRunsDown := by
  refine ⟨fun s tag h => ⟨fun hno => ?_, fun hwin hempty hrun => ?_, ?_, fun args ha => ?_⟩,
    fun s hp => ⟨fun hwin => ?_, fun n hn hle => ?_, fun hone hempty hrun => ?_⟩, fun s tag i hp hwin hi => ?_,
    fun s => ⟨fun hp hno => ?_, fun hp => ⟨fun hno => ?_, fun n hn hle => ?_, fun hone => ?_⟩⟩⟩
  · exact request_answers h (by simp [State.takeRequest, State.takeWindowClose, hno])
  · refine request_answers h ?_
    have hsome : s.window.isSome = true := Option.isSome_iff_ne_none.2 hwin
    simp only [State.takeRequest, State.takeWindowClose, holding_window, hsome, if_true]
    rw [closeWindow_alone (s := s.holding .windowClose tag []) hempty hrun]
    rfl
  · by_cases hwin : s.window = none
    · refine ⟨_, request_answers (c := .windowClose) (t := s) (code := .ok) (contents := []) h
        (by simp [State.takeRequest, State.takeWindowClose, hwin]), ?_, ?_⟩
      · rw [State.answered, beginFrame_window]; exact hwin
      · rw [State.answered, beginFrame_clock]
    · have hshut := (closeWindow_shut (s.holding .windowClose tag [])).answers .ok []
      exact ⟨_, windowClose_closes h hwin, hshut.window, hshut.clock⟩
  · cases args with
    | nil => simp at ha
    | cons a args => exact request_answers h rfl
  · rcases hwin with hno | hone
    · refine ⟨s.beginFrame, ?_, by rw [beginFrame_window]; exact hno, beginFrame_clock s⟩
      refine (event_powered _ hp).trans (congrArg (fun t : State => Host.Outcome.next t.beginFrame) ?_)
      simp only [State.expireIfOver, hno]
    · exact ⟨_, windowExpiry_expires hp hone, (expireWindow_shut s).window, (expireWindow_shut s).clock⟩
  · refine (event_powered _ hp).trans (congrArg (fun t : State => Host.Outcome.next t.beginFrame) ?_)
    simp only [State.expireIfOver, hn, if_neg (show ¬ n ≤ 1 by omega)]
  · rw [windowExpiry_expires hp hone, State.expireWindow, closeWindow_alone hempty hrun]
  · obtain ⟨s', t, hexec, hshut, hbay, hcipher⟩ := closes_shut hp hwin hi
    refine ⟨t, hexec, hshut.window, fun r hr b a c hjob hc ho => ?_, fun r hr => hshut.running r (hcipher ▸ hr), fun b hst hover => ?_⟩
    · obtain ⟨c', hc', ho', -⟩ := hshut.fails r (by rw [hcipher]; exact hr) b a c hjob (by rw [hbay]; exact hc) ho
      exact ⟨c', hc', ho'⟩
    · rw [← hbay b] at hst hover ⊢
      refine ⟨hshut.inFlight b hst hover, fun hflight => ⟨fun ⟨c, hc, hnd⟩ => ?_, fun hall => ?_⟩⟩
      · have hopen : (s'.bay b).allDone = false := by
          by_contra h
          exact hnd (by simpa using List.all_eq_true.1 (by simpa using h : (s'.bay b).allDone = true) c hc)
        obtain ⟨hloading, hrate, -⟩ := hshut.loads b hst hover hflight hopen
        exact ⟨hloading, by rw [hrate, decidedRate_eq]⟩
      · exact hshut.completes b hst hover hflight hall
  · have hexec : exec .clockAdvance s = .next s.advanceClock := if_neg (by simp [hp])
    rw [hexec]
    simp only [State.advanceClock, hno]
  · refine (clockAdvance_powered hp).trans (congrArg (fun t : State => Host.Outcome.next t.beginFrame) ?_)
    simp only [State.advanceClock, hno]
  · refine (clockAdvance_powered hp).trans (congrArg (fun t : State => Host.Outcome.next t.beginFrame) ?_)
    simp only [State.advanceClock, hn, if_neg (show ¬ n ≤ 1 by omega)]
  · have hshut := expireWindow_shut s.ticked
    refine ⟨_, clockAdvance_expires hp hone, hshut.window, hshut.clock, ?_⟩
    rw [beginFrame_notice]
    rfl

end Sys2Proof.Machine

/-! SUPPORT. Contexts in REPORT_WAIT while their appends are admitted and internal work follows (R20, R154, R155). -/

namespace Sys2Proof.Machine

/-! ### What holds of every context at an address -/

/-- The address is in the table, and of each context at it the property holds. -/
def Bay.holdsAt (a : Addr) (Q : Context → Prop) (x : Bay) : Prop := (∃ c, x.ctx a = some c) ∧ ∀ c ∈ x.contexts, c.addr = a → Q c

theorem Bay.holdsAt.ctx {a : Addr} {Q : Context → Prop} {x : Bay} (h : x.holdsAt a Q) : ∃ c, x.ctx a = some c ∧ Q c := by
  obtain ⟨⟨c, hc⟩, hall⟩ := h
  exact ⟨c, hc, hall c (Bay.ctx_mem hc) (Bay.ctx_addr hc)⟩

theorem Bay.holdsAt.mono {a : Addr} {Q R : Context → Prop} {x : Bay} (h : x.holdsAt a Q) (hQ : ∀ c, Q c → R c) : x.holdsAt a R :=
  ⟨h.1, fun c hc ha => hQ c (h.2 c hc ha)⟩

theorem holdsAt_updCtx {a a' : Addr} {Q : Context → Prop} {x : Bay} {f : Context → Context} (h : x.holdsAt a Q)
    (haddr : ∀ c, (f c).addr = c.addr) (hQ : ∀ c, Q c → Q (f c)) : (x.updCtx a' f).holdsAt a Q := by
  obtain ⟨⟨c, hc⟩, hall⟩ := h
  refine ⟨?_, fun e he hea => ?_⟩
  · obtain ⟨d, hd, -⟩ := updCtx_keeps (fun _ => ()) (a' := a') haddr (fun _ => rfl) hc
    exact ⟨d, hd⟩
  · rcases mem_updCtx he with ⟨_, he⟩ | ⟨d, hd, _, rfl⟩
    · exact hall e he hea
    · exact hQ d (hall d hd ((haddr d).symm.trans hea))

theorem holdsAt_updCtx_same {a : Addr} {Q R : Context → Prop} {x : Bay} {f : Context → Context} (h : x.holdsAt a Q)
    (haddr : ∀ c, (f c).addr = c.addr) (hR : ∀ c, Q c → R (f c)) : (x.updCtx a f).holdsAt a R := by
  obtain ⟨⟨c, hc⟩, hall⟩ := h
  refine ⟨⟨f c, ctx_updCtx_same hc haddr⟩, fun e he hea => ?_⟩
  rcases mem_updCtx he with ⟨hne, _⟩ | ⟨d, hd, hda, rfl⟩
  · exact absurd hea hne
  · exact hR d (hall d hd hda)

/-- In REPORT_WAIT. -/
def Context.waits (c : Context) : Prop := c.phase = .reportWait

/-- In REPORT_WAIT with the record in the queue. -/
def Context.reported (c : Context) : Prop := c.phase = .reportWait ∧ c.recordAppended = true

theorem Bay.holdsAt.not_allDone {a : Addr} {x : Bay} (h : x.holdsAt a Context.waits) : x.allDone = false := by
  obtain ⟨c, hc, hphase⟩ := h.ctx
  exact allDone_false hc (by simp [show c.phase = .reportWait from hphase])

/-! ### The moves -/

theorem LoadMove.holdsAt {b : BayId} {s t : State} (h : LoadMove b s t) {a : Addr} {Q : Context → Prop} (hQ : ∀ c, Q c → c.waits)
    (hs : (s.bay b).holdsAt a Q) : (t.bay b).holdsAt a Q := by
  obtain ⟨⟨c, hc⟩, hall⟩ := hs
  obtain ⟨hctx, hmem⟩ := h.elsewhere (a := a) fun e he hea => by
    have hphase : e.phase = .reportWait := hQ e (hall e he hea)
    simp [hphase]
  exact ⟨⟨c, hctx.trans hc⟩, fun e he hea => hall e (hmem e he hea) hea⟩

theorem LoadMove.report {b : BayId} {s t : State} (h : LoadMove b s t) : t.report = s.report ∧ t.link = s.link := by
  cases h <;> exact ⟨rfl, rfl⟩

/-- A frame sent changes the line, and of its context no more than that it was addressed (R5, R7). -/
theorem send_eq_updCtx (now : Nat) (fr : LineFrame) (x : Bay) : ∃ y a f, x.send now fr = Bay.updCtx y a f ∧ y.state = x.state ∧ y.batch = x.batch ∧
    y.contexts = x.contexts ∧ y.buffers = x.buffers ∧ ((f = fun c => c) ∨ f = Context.addressed now fr.kind) := by
  unfold Bay.send
  dsimp only
  split <;> split
  · next a _ =>
    exact ⟨{ x with line := x.line.transmit (.frame fr x.line.rate now false) now, rateOwed := false }, a, _, rfl, rfl, rfl, rfl, rfl, .inr rfl⟩
  · exact ⟨{ x with line := x.line.transmit (.frame fr x.line.rate now false) now, rateOwed := false }, 0, _,
      (updCtx_id _ 0).symm, rfl, rfl, rfl, rfl, .inl rfl⟩
  · next a _ =>
    exact ⟨{ x with line := x.line.transmit (.frame fr x.line.rate now false) now }, a, _, rfl, rfl, rfl, rfl, rfl, .inr rfl⟩
  · exact ⟨{ x with line := x.line.transmit (.frame fr x.line.rate now false) now }, 0, _,
      (updCtx_id _ 0).symm, rfl, rfl, rfl, rfl, .inl rfl⟩

theorem send_holdsAt (now : Nat) (fr : LineFrame) {x : Bay} {a : Addr} {Q : Context → Prop} (hQ : ∀ c n k, Q c → Q (Context.addressed n k c))
    (h : x.holdsAt a Q) : (x.send now fr).holdsAt a Q := by
  obtain ⟨y, a', f, heq, -, -, hcontexts, -, hf⟩ := send_eq_updCtx now fr x
  have hy : y.holdsAt a Q := by unfold Bay.holdsAt Bay.ctx at h ⊢; rwa [hcontexts]
  rw [heq]
  rcases hf with rfl | rfl
  · rwa [updCtx_id]
  · exact holdsAt_updCtx hy (fun _ => rfl) fun c => hQ c _ _

theorem send_served {s : State} {b : BayId} (fr : LineFrame) (h : BayServed s b) : BayServed (s.updBay b (Bay.send s.time fr)) b := by
  obtain ⟨y, a, f, heq, hstate, hbatch, hcontexts, hbuffers, hf⟩ := send_eq_updCtx s.time fr (s.bay b)
  rw [State.updBay, heq]
  refine h.updCtx hstate hbatch hcontexts hbuffers fun c => ?_
  rcases hf with rfl | rfl <;> exact ⟨rfl, rfl, rfl, rfl, rfl, rfl⟩

/-- Whether a bay's going on places a request is seen from the bay and the profiles. -/
theorem BayServed.congr {s t : State} {b : BayId} (h : BayServed s b) (hbay : t.bay b = s.bay b) (hprofiles : t.profiles = s.profiles) :
    BayServed t b := by
  have hprofile : ∀ c, t.profileOf c = s.profileOf c := fun c => by unfold State.profileOf State.entry; rw [hprofiles]
  unfold BayServed HandServed at *
  simpa only [hbay, hprofile] using h

/-! ### Internal work of bays with a context in REPORT_WAIT -/

/-- The engine is busy, or has nothing to take and the bays listed place nothing. -/
def Unasked (bays : List BayId) (s : State) : Prop :=
  s.cipher.running.isSome = true ∨ (s.cipher.queue = [] ∧ s.cipher.waiting = []) ∧ ∀ b ∈ bays, BayServed s b

theorem Unasked.quiet {bays : List BayId} {s : State} (h : Unasked bays s) : EngineQuiet s := h.imp id And.left

theorem WorkMove.unasked {bays : List BayId} {b : BayId} {s t : State} (h : WorkMove b s t) (hb : b ∈ bays)
    (hopen : (s.bay b).allDone = false) (hs : Unasked bays s) : Unasked bays t := by
  refine hs.imp (fun hrun => h.running ▸ hrun) fun ⟨hempty, hserved⟩ => ?_
  have hsame : BayServed t b ∧ t.cipher.queue = [] ∧ t.cipher.waiting = [] := by
    cases h with
    | load h => exact ⟨(h.served (hserved b hb)).1, (h.served (hserved b hb)).2 hempty⟩
    | send _ _ => exact ⟨send_served _ (hserved b hb), hempty⟩
    | finish _ done => simp [hopen] at done
  refine ⟨hsame.2, fun b' hb' => ?_⟩
  by_cases hbb : b' = b
  · exact hbb ▸ hsame.1
  · exact (hserved b' hb').congr (h.frame.bays b' hbb) h.frame.profiles

/-- The contexts named stay in REPORT_WAIT, those named reported stay so, and reports and link are left alone. -/
structure Settling (all marked : List WaitingAppend) (s t : State) : Prop where
  report : t.report = s.report
  link : t.link = s.link
  waits : ∀ w ∈ all, (t.bay w.bay).holdsAt w.addr Context.waits
  reported : ∀ w ∈ marked, (t.bay w.bay).holdsAt w.addr Context.reported
  unasked : Unasked (all.map (·.bay)) t

theorem WorkMove.settling {all marked : List WaitingAppend} {s u v : State} {b : BayId} (h : WorkMove b u v) (hb : b ∈ all.map (·.bay))
    (hu : Settling all marked s u) : Settling all marked s v := by
  obtain ⟨w0, hw0, rfl⟩ := List.mem_map.1 hb
  have hopen := (hu.waits w0 hw0).not_allDone
  have hkeep : ∀ (b : BayId) (a : Addr) (Q : Context → Prop), (∀ c, Q c → c.waits) → (∀ c n k, Q c → Q (Context.addressed n k c)) →
      (u.bay b).holdsAt a Q → (v.bay b).holdsAt a Q := fun b a Q hQ hsend hs => by
    by_cases hbb : b = w0.bay
    swap
    · rwa [h.frame.bays b hbb]
    subst hbb
    cases h with
    | load h => exact h.holdsAt hQ hs
    | send _ _ => rw [bay_updBay_same]; exact send_holdsAt _ _ hsend hs
    | finish _ done => simp [hopen] at done
  have hsame : v.report = u.report ∧ v.link = u.link := by
    cases h with
    | load h => exact h.report
    | send _ _ => exact ⟨rfl, rfl⟩
    | finish _ done => simp [hopen] at done
  exact
    { report := hsame.1.trans hu.report
      link := hsame.2.trans hu.link
      waits := fun w hw => hkeep _ _ _ (fun _ h => h) (fun _ _ _ h => h) (hu.waits w hw)
      reported := fun w hw => hkeep _ _ _ (fun _ h => h.1) (fun _ _ _ h => h) (hu.reported w hw)
      unasked := h.unasked hb hopen hu.unasked }

theorem work_settling {all marked : List WaitingAppend} {s : State} (hs : Settling all marked s s) :
    Settling all marked s (s.work (all.map (·.bay))) := by
  obtain ⟨u, hu, hend⟩ := settle_rule (P := Settling all marked s) (B := fun b => b ∈ all.map (·.bay))
    (fun _ _ _ hb hm hu => hm.settling hb hu)
    (fun u v r reason hended hu => by rw [engineTake_quiet hu.unasked.quiet] at hended; cases hended)
    Config.settleBound (all.map (·.bay)) (fun _ => id) hs
  rcases hend with heq | hstart
  · exact (show s.work (all.map (·.bay)) = u from heq) ▸ hu
  · rw [engineTake_quiet hu.unasked.quiet] at hstart; cases hstart

/-! ### Appends admitted -/

/-- The first waiting append admitted (R154). -/
def State.admitOne (w : WaitingAppend) (rest : List WaitingAppend) (s : State) : State :=
  ({ s with report := { s.report with waiting := rest } }.appendRecord (.terminal w.record)).markAppended w.bay w.addr

theorem admitOne_bay (w : WaitingAppend) (rest : List WaitingAppend) (s : State) (b : BayId) : (s.admitOne w rest).bay b =
    if b = w.bay then (s.bay b).updCtx w.addr (fun c => { c with recordAppended := true }) else s.bay b := by
  obtain ⟨t, ht⟩ : ∃ t, t = State.appendRecord (.terminal w.record) { s with report := { s.report with waiting := rest } } := ⟨_, rfl⟩
  have hbay : ∀ b, t.bay b = s.bay b := fun b => by rw [ht, appendRecord_bay]; rfl
  have heq : s.admitOne w rest = t.markAppended w.bay w.addr := by rw [ht]; rfl
  rw [heq, State.markAppended]
  split
  · next h => rw [h, bay_updBay_same, hbay]
  · next h => exact ((setBay_frame w.bay _ t).bays b h).trans (hbay b)

theorem admitOne_holdsAt {w : WaitingAppend} {rest : List WaitingAppend} {s : State} {b : BayId} {a : Addr} {Q : Context → Prop}
    (hQ : ∀ c : Context, Q c → Q { c with recordAppended := true }) (h : (s.bay b).holdsAt a Q) : ((s.admitOne w rest).bay b).holdsAt a Q := by
  rw [admitOne_bay]
  split
  · exact holdsAt_updCtx h (fun _ => rfl) hQ
  · exact h

theorem admitOne_served {w : WaitingAppend} {rest : List WaitingAppend} {s : State} {b : BayId} (h : BayServed s b) :
    BayServed (s.admitOne w rest) b := by
  have hbay := admitOne_bay w rest s b
  have hprofiles : (s.admitOne w rest).profiles = s.profiles := rfl
  by_cases hb : b = w.bay
  · rw [if_pos hb] at hbay
    have hset := h.updCtx (y := s.bay b) (a := w.addr) (f := fun c => { c with recordAppended := true }) rfl rfl rfl rfl
      fun _ => ⟨rfl, rfl, rfl, rfl, rfl, rfl⟩
    exact hset.congr (hbay.trans (bay_setBay_same s b _).symm) hprofiles
  · rw [if_neg hb] at hbay
    exact h.congr hbay hprofiles

/-- What the admission of an append keeps, the admission of all there is room for keeps. -/
theorem admitWaiting_keeps {P : State → Prop} (hP : ∀ s w rest, P s → P (s.admitOne w rest)) (l : List WaitingAppend) {s : State} (h : P s) :
    P (s.admitWaiting l) := by
  induction l generalizing s with
  | nil => exact h
  | cons w rest ih =>
    unfold State.admitWaiting
    split
    · exact ih (hP s w rest h)
    · exact h

/-- Each append admitted marks its context (R20, R154). -/
theorem admitWaiting_marks (l : List WaitingAppend) (s : State) (hw : s.report.waiting = l)
    (h : ∀ w ∈ l, (s.bay w.bay).holdsAt w.addr Context.waits) :
    ∀ w ∈ l.take (min l.length (64 - (s.report.records.length + s.running))),
      ((s.admitWaiting l).bay w.bay).holdsAt w.addr Context.reported := by
  induction l generalizing s with
  | nil => simp
  | cons w rest ih =>
    unfold State.admitWaiting
    split
    · next hroom =>
      have hroom := (room_iff s).1 hroom
      have hone : (({ s with report := { s.report with waiting := rest } } : State).appendRecord (.terminal w.record)).markAppended
        w.bay w.addr = s.admitOne w rest := rfl
      rw [hone]
      have hrecords : (s.admitOne w rest).report.records = s.report.records ++
          [{ number := nextNumber s.report.recordCounter, time := s.clock, body := .terminal w.record }] := by
        rw [← hone]; simp [appendRecord_records]
      have hrunning : (s.admitOne w rest).running = s.running := by
        rw [← hone, markAppended_running]; exact running_congr (by simp)
      have hn : min (w :: rest).length (64 - (s.report.records.length + s.running)) =
          min rest.length (64 - ((s.admitOne w rest).report.records.length + (s.admitOne w rest).running)) + 1 := by
        rw [hrecords, hrunning]; simp only [List.length_cons, List.length_append, List.length_nil]; omega
      intro w' hw'
      rw [hn, List.take_succ_cons] at hw'
      rcases List.mem_cons.1 hw' with rfl | hw'
      · refine admitWaiting_keeps (P := fun s => (s.bay w'.bay).holdsAt w'.addr Context.reported)
          (fun s w rest h => admitOne_holdsAt (fun c hc => ⟨hc.1, rfl⟩) h) rest ?_
        rw [admitOne_bay, if_pos rfl]
        exact holdsAt_updCtx_same (h w' List.mem_cons_self) (fun _ => rfl) fun c hc => ⟨hc, rfl⟩
      · exact ih (s.admitOne w rest) rfl (fun w'' hw'' => admitOne_holdsAt (fun c hc => hc) (h w'' (List.mem_cons_of_mem _ hw''))) w' hw'
    · next hroom =>
      have hfull : 64 - (s.report.records.length + s.running) = 0 := by
        have := mt (room_iff s).2 hroom; omega
      simp [hfull]

end Sys2Proof.Machine

/-! TIME_SET and RECORDS_FETCH (R20, R154, R155, R160). -/

namespace Sys2Proof.Machine

/-- The seconds read are those written (R160, R185). -/
theorem readSeconds_wordBytes (v : Word32) : readSeconds (wordBytes 4 v) = some v := by
  obtain ⟨l, hl⟩ : ∃ l, l = wordBytes 4 v := ⟨_, rfl⟩
  have hlen : l.length = 4 := by rw [hl, length_wordBytes]
  match l, hlen with
  | [a, b, c, d], _ =>
    rw [← hl]
    exact congrArg some ((congrArg (beWord 32) hl).trans (beWord_wordBytes (by decide) v))

theorem work_answered {s : State} (code : ResultCode) (contents : List Byte) (hq : EngineQuiet s) :
    (s.answer code contents).work [] = s.answer code contents :=
  work_nil (by unfold EngineQuiet; rw [answer_cipher]; exact hq)

/-- The appends that wait admitted, the contexts in REPORT_WAIT stay so and no request is placed (R20, R154). -/
theorem admitWaiting_unasked {s : State} {bays : List BayId} (l : List WaitingAppend)
    (h : s.cipher.running.isSome = true ∨ (s.cipher.queue = [] ∧ s.cipher.waiting = []) ∧ ∀ b ∈ bays, BayServed s b) :
    Unasked bays (s.admitWaiting l) :=
  admitWaiting_keeps (P := Unasked bays) (fun _ _ _ hs => hs.imp id fun ⟨hempty, hserved⟩ => ⟨hempty, fun b hb => admitOne_served (hserved b hb)⟩)
    l h

/-- A request held by its owner is still held when the appends have been admitted (R171). -/
theorem admitWaiting_link {r : Request} {s : State} (l : List WaitingAppend) (hhead : s.link.head = .withOwner) (hqueue : s.link.queue = [r]) :
    (s.admitWaiting l).link.head = .withOwner ∧ (s.admitWaiting l).link.queue = [r] :=
  admitWaiting_keeps (P := fun s => s.link.head = .withOwner ∧ s.link.queue = [r])
    (fun s w rest h => by
      obtain ⟨t, ht⟩ : ∃ t : State, t = { s with report := { s.report with waiting := rest } } := ⟨_, rfl⟩
      have hone : (s.admitOne w rest).link = (t.appendRecord (.terminal w.record)).link := by rw [ht]; rfl
      rw [hone, appendRecord_head, (appendRecord_frame w.bay _ t).requests, ht]
      exact h)
    l ⟨hhead, hqueue⟩

/-- RECORDS_FETCH with appends waiting (R20, R154, R155). -/
theorem recordsFetch_admits {s : State} {tag asked : Byte} (h : LinkIdle s) (htables : TablesOrdered s) (hq : EngineQuiet s)
    (hserved : s.cipher.running.isSome = true ∨ ∀ w ∈ s.report.waiting, BayServed s w.bay)
    (hwait : ∀ w ∈ s.report.waiting, ∃ c, (s.bay w.bay).ctx w.addr = some c ∧ c.phase = .reportWait) {out left : List Record} {m : Nat}
    (hout : out = s.report.records.take (fetchCount asked.toNat)) (hleft : left = s.report.records.drop (fetchCount asked.toNat))
    (hm : m = min s.report.waiting.length (64 - (left.length + s.running))) :
    ∃ t, exec (.recordsFetch tag [asked]) s = .next t ∧
      t.report.records.map (·.body) = left.map (·.body) ++ (s.report.waiting.take m).map (fun w => RecordBody.terminal w.record) ∧
      t.report.waiting = s.report.waiting.drop m ∧
      (t.link.sending = some (.reply tag (0x00#8 :: natByte out.length :: (out.map Record.bytes).flatten)) ∨
        .reply tag (0x00#8 :: natByte out.length :: (out.map Record.bytes).flatten) ∈ t.link.waiting) ∧
      ∀ w ∈ s.report.waiting.take m, ∃ c, (t.bay w.bay).ctx w.addr = some c ∧ c.phase = .reportWait ∧ c.recordAppended = true := by
  obtain ⟨l, hl⟩ : ∃ l, l = s.report.waiting := ⟨_, rfl⟩
  obtain ⟨s1, hs1⟩ : ∃ s1 : State, s1 = (s.holding .recordsFetch tag [asked]).setRecords left := ⟨_, rfl⟩
  obtain ⟨s2, hs2⟩ : ∃ s2, s2 = s1.admitWaiting l := ⟨_, rfl⟩
  obtain ⟨body, hbody⟩ : ∃ body, body = natByte out.length :: (out.map Record.bytes).flatten := ⟨_, rfl⟩
  obtain ⟨s3, hs3⟩ : ∃ s3, s3 = s2.answer .ok body := ⟨_, rfl⟩
  rw [← hl] at hserved hwait hm ⊢
  rw [← hbody]
  have hexec : exec (.recordsFetch tag [asked]) s = .next (s3.work (l.map (·.bay))).beginFrame := by
    refine (request_idle h .recordsFetch tag [asked]).trans (congrArg (fun t : State => Host.Outcome.next t.beginFrame) ?_)
    rw [hs3, hs2, hs1, hbody, hout, hleft, hl]
    rfl
  have hbay1 : ∀ b, s1.bay b = s.bay b := fun b => by rw [hs1]; rfl
  have hwaits1 : ∀ w ∈ l, (s1.bay w.bay).holdsAt w.addr Context.waits := fun w hw => by
    obtain ⟨c, hc, hphase⟩ := hwait w hw
    rw [hbay1]
    refine ⟨⟨c, hc⟩, fun d hd hda => ?_⟩
    obtain rfl := Bay.tableOk.addr_inj (htables w.bay) hd (Bay.ctx_mem hc) (hda.trans (Bay.ctx_addr hc).symm)
    exact hphase
  have hwaiting1 : s1.report.waiting = l := by rw [hs1, hl]; rfl
  have hrecords1 : s1.report.records = left := by rw [hs1]; rfl
  have hrunning1 : s1.running = s.running := running_congr (by rw [hs1]; rfl)
  have hmarks := admitWaiting_marks l s1 hwaiting1 hwaits1
  obtain ⟨hrecords, hwaiting⟩ := admitWaiting_spec l s1 hwaiting1
  rw [hrecords1, hrunning1, ← hm, ← hs2] at hmarks hrecords
  rw [hrecords1, hrunning1, ← hm, ← hs2] at hwaiting
  have hlink : s2.link.head = .withOwner ∧ s2.link.queue = [{ tag := tag, code := RequestCode.recordsFetch.code, args := [asked] }] := by
    rw [hs2]; exact admitWaiting_link l (by rw [hs1]; rfl) (by rw [hs1]; rfl)
  have hbay3 : ∀ b, s3.bay b = s2.bay b := fun b => by rw [hs3, answer_bay]
  have hunasked2 : Unasked (l.map (·.bay)) s2 := by
    rw [hs2]
    have hprofiles : s1.profiles = s.profiles := by rw [hs1]; rfl
    have hcipher : s1.cipher = s.cipher := by rw [hs1]; rfl
    refine admitWaiting_unasked l ?_
    rw [hcipher]
    by_cases hrun : s.cipher.running.isSome = true
    · exact .inl hrun
    · refine .inr ⟨hq.resolve_left hrun, fun b hb => ?_⟩
      obtain ⟨w, hw, rfl⟩ := List.mem_map.1 hb
      exact (hserved.resolve_left hrun w hw).congr (hbay1 _) hprofiles
  have hsettling : Settling l (l.take m) s3 s3 :=
    { report := rfl
      link := rfl
      waits := fun w hw => by
        rw [hbay3, hs2]
        exact admitWaiting_keeps (P := fun s => (s.bay w.bay).holdsAt w.addr Context.waits)
          (fun _ _ _ hs => admitOne_holdsAt (fun c hc => hc) hs) l (hwaits1 w hw)
      reported := fun w hw => by rw [hbay3]; exact hmarks w hw
      unasked := by
        unfold Unasked
        rw [hs3, answer_cipher]
        exact hunasked2.imp id fun ⟨hempty, hserved⟩ =>
          ⟨hempty, fun b hb => (hserved b hb).congr (answer_bay _ _ _ _) (answer_profiles _ _ _)⟩ }
  have hdone := work_settling hsettling
  have hreport : (s3.work (l.map (·.bay))).beginFrame.report = s2.report := by rw [beginFrame_report, hdone.report, hs3, answer_report]
  have hreply : (s3.work (l.map (·.bay))).link.waiting = s2.link.waiting ++ [.reply tag (0x00#8 :: body)] := by
    rw [hdone.link, hs3, answer_withOwner .ok body hlink.1 hlink.2]
    rfl
  refine ⟨_, hexec, by rw [hreport]; exact hrecords, by rw [hreport]; exact hwaiting, beginFrame_reply hreply, fun w hw => ?_⟩
  rw [beginFrame_bay]
  obtain ⟨c, hc, hphase, happended⟩ := (hdone.reported w hw).ctx
  exact ⟨c, hc, hphase, happended⟩

/-- Settles O27: TIME_SET from its four bytes; RECORDS_FETCH without and with appends that wait. -/
theorem clockSetAndRecordsFetched : Obligations.ClockSetAndRecordsFetched := by
  intro s tag h
  refine ⟨fun v => ?_, fun args ha => ?_, fun asked hw hq => ?_, fun asked htables hq hserved hwait => ?_, fun args ha hw hq => ?_⟩
  · refine request_answers h ?_
    simp only [State.takeRequest, State.takeTimeSet, readSeconds_wordBytes]
    rfl
  · exact request_answers h (by simp only [State.takeRequest, State.takeTimeSet, readSeconds_none ha])
  · refine request_answers h ?_
    have hwork := work_answered (s := (s.setRecords (s.report.records.drop (fetchCount asked.toNat))).holding .recordsFetch tag [asked]) .ok
      (natByte (s.fetched asked.toNat).length :: ((s.fetched asked.toNat).map Record.bytes).flatten) hq
    simp only [State.takeRequest, holding_report, hw, List.map_nil]
    simp only [State.takeRecordsFetch, readCount, holding_report, hw, State.admitWaiting]
    exact hwork
  · exact recordsFetch_admits h htables hq hserved hwait rfl rfl rfl
  · refine request_answers h ?_
    have hwork := work_answered (s := s.holding .recordsFetch tag args) .badArgument [] hq
    simp only [State.takeRequest, holding_report, hw, List.map_nil, State.takeRecordsFetch, readCount_none ha]
    exact hwork

end Sys2Proof.Machine
